-- ==== Sys2Proof/Word.lean ====
section
/-! DEFINITION. The words of the part: a byte, the millisecond count, a segment sequence number. -/

namespace Sys2Proof

/-- One character of the floor link, one byte of the station port or of the image (R38, R181). -/
abbrev Byte := BitVec 8

/-- The 32-bit millisecond count of the time base (R176). -/
abbrev Count := BitVec 32

/-- A segment sequence number, 0..65,535; its successor wraps (00_scope.md 0.5). -/
abbrev Seq := BitVec 16

/-- A text of the marking alphabet, as ASCII codes (R181). -/
abbrev Text := List Byte

end Sys2Proof
end

