-- ==== Sys2Proof/Syntax.lean ====
section
/-! DEFINITION. The commands of the Sarnhil 4210: one constructor of `Instr` per row of spec/opcode_table.json, with
the operands the manual gives the row. Requests whose payload layout the manual does not give carry their fields
(log 19); SEGMENT and DECLARE_STOCK, whose layout R183 gives, carry bytes. -/

namespace Sys2Proof

/-- A stock ID: origin station and serial (00_scope.md 0.5; R116). -/
structure StockId where
  origin : Nat
  serial : Nat
  deriving DecidableEq, Repr

/-- The station modes (R171). -/
inductive Mode where
  | offline | ready | run
  deriving DecidableEq, Repr

/-- The tables READ_TABLE can name (R173). -/
inductive TableName where
  | peer | stock | markLog | slotMap | moveList | craneQueue
  deriving DecidableEq, Repr

/-- The kinds of crane move (R152). -/
inductive MoveKind where
  | deliver | store | clear
  deriving DecidableEq, Repr

/-- The location kinds a DECLARE_STOCK may name (R116, R183). -/
inductive LocationKind where
  | bed | table | hook | slot
  deriving DecidableEq, Repr

/-- A complete telegram read from the link (R38, R39), its kind character apart: the header characters, the payload
(the length character is its length) and the two CRC characters, the low byte first (R181). -/
structure Telegram where
  dest    : Byte
  source  : Byte
  seq     : Byte
  payload : List Byte
  crcLo   : Byte
  crcHi   : Byte
  deriving DecidableEq, Repr

/-- The envelope of a WRITE_REQUEST transaction (R168, R183): the payload length byte, whether chip select rose
before the last payload byte, and whether the length is the one the request's layout needs (log 19; R183 gives
DECLARE_STOCK's, 34 bytes, which its length byte is held against). -/
structure WriteFrame where
  length : Byte
  cut    : Bool
  suits  : Bool
  deriving DecidableEq, Repr

/-- A WRITE_REQUEST whose payload bytes count: the payload length byte and the payload bytes clocked in before chip
select rose. Fewer bytes than the length is an early rise (R168). -/
structure RawWrite where
  length : Byte
  bytes  : List Byte
  deriving DecidableEq, Repr

/-- What a stock query asks for (R143). -/
structure QueryFields where
  grade     : Nat
  mask      : Nat
  thickness : Nat
  minLength : Nat
  minWidth  : Nat
  rotation  : Bool
  deriving DecidableEq, Repr

/-- The fields of a MOVE_REQUEST (R153). `kind` is none for a code that names no kind. A stock ID or an X of 0 is an
absent one (R181): `presentFields`. -/
structure MoveFields where
  kind        : Option MoveKind
  stock       : Option StockId
  fromStation : Nat
  fromX       : Option Nat
  toStation   : Nat
  toX         : Option Nat
  priority    : Nat
  deriving DecidableEq, Repr

/-- The fields of a POSITION request, before they are brought into range (R15, R5). -/
structure PositionFields where
  x    : Int
  y    : Int
  vx   : Int
  vy   : Int
  hx   : Int
  hy   : Int
  load : Byte
  hook : Byte
  deriving DecidableEq, Repr

/-- The commands, one per row of spec/opcode_table.json, in the table's order. A read carries the number of bytes of
its frame that are clocked out before chip select rises (R183). -/
inductive Instr where
  | powerOn
  | timeBaseTick
  | i2cTransferDone (acked : Bool) (data : List Byte)
  | agingStep
  | beaconTimerExpiry
  | urgentSpacingExpiry
  | attemptStart
  | attemptClean
  | attemptCollided
  | backoffEnd
  | jabberLimit
  | probeTimerExpiry
  | probeStart
  | telegramFramingError
  | beaconCutter (t : Telegram)
  | beaconCrane (t : Telegram)
  | beaconRack (t : Telegram)
  | custodyOffer (t : Telegram)
  | custodyAccept (t : Telegram)
  | custodyRelease (t : Telegram)
  | custodyRefuse (t : Telegram)
  | stockQuery (t : Telegram)
  | stockCandidate (t : Telegram)
  | reserve (t : Telegram)
  | reserveReply (t : Telegram)
  | unreserve (t : Telegram)
  | moveCall (t : Telegram)
  | moveBid (t : Telegram)
  | moveAward (t : Telegram)
  | awardReply (t : Telegram)
  | moveRevoke (t : Telegram)
  | revokeReply (t : Telegram)
  | moveStarted (t : Telegram)
  | moveReturn (t : Telegram)
  | moveDone (t : Telegram)
  | estopAsserted
  | estopReleased
  | loadAttachedRises
  | loadAttachedFalls
  | inFlightTimeout
  | haltTimeout
  | resumeTimerExpiry
  | offerTimeout (position : Nat)
  | heldOfferExpiry (slot : Nat)
  | pendingTimeout (position : Nat)
  | queryWindowExpiry
  | reserveTimerExpiry
  | bidWindowExpiry (position : Nat)
  | awardReplyTimeout (position : Nat)
  | cancelReplyTimeout (position : Nat)
  | segment (w : RawWrite)
  | flush (f : WriteFrame)
  | resync (f : WriteFrame) (target : Seq)
  | segmentDone (f : WriteFrame) (seq : Seq) (copy : Nat) (arcMs : Nat)
  | segmentAborted (f : WriteFrame) (seq : Seq) (copy : Nat) (arcMs : Nat)
  | segmentHalted (f : WriteFrame) (seq : Seq) (copy : Nat) (arcMs : Nat)
  | continueRequest (f : WriteFrame)
  | wearRestore (f : WriteFrame) (pierces : Nat) (arcMs : Nat)
  | consumableChanged (f : WriteFrame)
  | declareStock (f : WriteFrame) (record : List Byte) (location : Option LocationKind) (slot : Nat)
  | handOff (f : WriteFrame) (id : StockId) (taker : Nat)
  | confirmCustody (f : WriteFrame) (id : StockId)
  | bedLoaded (f : WriteFrame) (id : StockId)
  | placed (f : WriteFrame) (id : StockId) (slot : Nat)
  | lockSlot (f : WriteFrame) (slot : Nat)
  | unlockSlot (f : WriteFrame) (slot : Nat)
  | queryStock (f : WriteFrame) (q : QueryFields)
  | cancelQuery (f : WriteFrame)
  | moveRequest (f : WriteFrame) (m : MoveFields)
  | cancelMove (f : WriteFrame) (tag : Byte)
  | moveFinish (f : WriteFrame)
  | position (f : WriteFrame) (p : PositionFields)
  | setMode (f : WriteFrame) (target : Option Mode)
  | status (f : WriteFrame)
  | readTable (f : WriteFrame) (table : Option TableName) (index : Nat)
  | restart (f : WriteFrame)
  | unknownRequest (f : WriteFrame) (code : Byte)
  | readReply (clocked : Nat)
  | readNotice (clocked : Nat)
  | voidTransaction (operation : Byte)
  | telegramOfUnknownKind (kind : Byte) (t : Telegram)
  deriving DecidableEq, Repr

end Sys2Proof
end

