-- ==== Sys2Proof/Machine/State.lean ====
section
/-! DEFINITION. The state of the part: every register, queue, table, timer, flag, counter and line the manual gives
it, as plain data, and the state right after reset. Reset values the manual does not give are named in log entries
5, 6, 7, 41 and 42. -/

namespace Sys2Proof.Machine

/-! ### Shared values -/

/-- A timer's base and length: the count at which it was started and its length in milliseconds (00_scope.md 0.5). -/
structure Timer where
  start  : Count
  length : Nat
  deriving DecidableEq, Repr

/-- A rectangle of two closed intervals (00_scope.md 0.5). -/
structure Rect where
  xlo : Int
  xhi : Int
  ylo : Int
  yhi : Int
  deriving DecidableEq, Repr

/-- A closed interval on X: a runway span (R5, R155). -/
structure Span where
  lo : Nat
  hi : Nat
  deriving DecidableEq, Repr

/-- The three roles (00_scope.md 0.2). -/
inductive Role where
  | cutter | crane | rack
  deriving DecidableEq, Repr

/-- Fume classes, in rising order (chapter 1.2). -/
inductive FumeClass where
  | none | mark | cutLow | cutHigh
  deriving DecidableEq, Repr

/-- Load states of a crane's hook (R5, R182). -/
inductive LoadState where
  | empty | plate | skeleton | remnant | unknown
  deriving DecidableEq, Repr

/-- Hook height classes (R5, R182). -/
inductive HookClass where
  | high | transit | low
  deriving DecidableEq, Repr

/-- The intrusion results, in rising order (chapter 1.5). -/
inductive Intrusion where
  | clear | hold | cutoff
  deriving DecidableEq, Repr

/-- The release states (R78). -/
inductive Release where
  | idle | waiting | inFlight | broken | faulted
  deriving DecidableEq, Repr

/-- The corners a notch may take (R182). -/
inductive Corner where
  | lowerLeft | lowerRight | upperLeft | upperRight
  deriving DecidableEq, Repr

/-- A rectangle missing from one corner of a piece (R58, R116). -/
structure Notch where
  length : Nat
  width  : Nat
  corner : Corner
  deriving DecidableEq, Repr

/-- Kinds of stock record (R116). -/
inductive PieceKind where
  | plate | remnant
  deriving DecidableEq, Repr

/-- The fields of a stock record that travel when it is handed over (R116, R182). -/
structure Piece where
  id          : StockId
  kind        : PieceKind
  grade       : Nat
  thickness   : Nat
  length      : Nat
  width       : Nat
  notch       : Option Notch
  heat        : Text
  parent      : Option StockId
  marked      : Bool
  reservation : Option Nat
  deriving DecidableEq, Repr

/-- What a move telegram carries of a move (R154, R182). -/
structure MoveInfo where
  kind        : MoveKind
  stock       : Option StockId
  fromStation : Nat
  fromX       : Nat
  toStation   : Nat
  toX         : Nat
  priority    : Nat
  deriving DecidableEq, Repr

/-- Reasons a custody telegram refuses with (R124, R126, R128, R182). -/
inductive CustodyRefusal where
  | duplicate | retired | full | busy | notReservedHere | bedOccupied | late | notOffered | badRecord
  deriving DecidableEq, Repr

/-- Results of a reservation request (R148, R182). -/
inductive ReserveResult where
  | ok | gone | full | notHeard
  deriving DecidableEq, Repr

/-- A candidate as a rack gives it (R142, R144). -/
structure Candidate where
  rack      : Nat
  id        : StockId
  slot      : Nat
  grade     : Nat
  thickness : Nat
  length    : Nat
  width     : Nat
  notch     : Option Notch
  heat      : Text
  score     : Nat
  deriving DecidableEq, Repr

/-- Telegram kinds (R41, R182). -/
inductive TelegramKind where
  | beaconCutter | beaconCrane | beaconRack
  | custodyOffer | custodyAccept | custodyRelease | custodyRefuse
  | stockQuery | stockCandidate | reserve | reserveReply | unreserve
  | moveCall | moveBid | moveAward | awardReply | moveRevoke | revokeReply | moveStarted | moveReturn | moveDone
  deriving DecidableEq, Repr

/-- The content of a telegram other than a beacon (R182). -/
inductive Message where
  | custodyOffer (p : Piece)
  | custodyAccept (id : StockId)
  | custodyRelease (id : StockId)
  | custodyRefuse (id : StockId) (reason : CustodyRefusal)
  | stockQuery (number : Byte) (q : QueryFields)
  | stockCandidate (number : Byte) (c : Candidate)
  | reserve (number : Byte) (id : StockId) (requester : Nat)
  | reserveReply (number : Byte) (id : StockId) (result : ReserveResult)
  | unreserve (id : StockId)
  | moveCall (tag : Byte) (call : Nat) (m : MoveInfo)
  | moveBid (tag : Byte) (call : Nat) (bid : Nat)
  | moveAward (tag : Byte) (m : MoveInfo)
  | awardReply (tag : Byte) (taken : Bool)
  | moveRevoke (tag : Byte)
  | revokeReply (tag : Byte) (late : Bool)
  | moveStarted (tag : Byte)
  | moveReturn (tag : Byte)
  | moveDone (tag : Byte) (carried : Bool) (taker : Option Nat)
  deriving DecidableEq, Repr

/-! ### Configuration loader (chapter 11) -/

/-- Break modes (R89). -/
inductive BreakMode where
  | finishFirst | breakFirst
  deriving DecidableEq, Repr

/-- What a pinned item gives beside its station (R34). -/
inductive PinArea where
  | crane (span : Option Span)
  | cutter (bed : Rect)
  | rack
  deriving DecidableEq, Repr

/-- One item of the pinned station list (R34). -/
structure Pin where
  station : Nat
  area    : PinArea
  deriving DecidableEq, Repr

/-- The fields a template may name (R104). -/
inductive LegendField where
  | part | heat | grade | thick | stockId | dims | station
  deriving DecidableEq, Repr

/-- A template item (R104). -/
inductive TemplateItem where
  | literal (text : Text)
  | field (f : LegendField)
  deriving DecidableEq, Repr

/-- Hold and cut-off margins of one fume class (R4). -/
structure Margins where
  hold   : Nat
  cutoff : Nat
  deriving DecidableEq, Repr

/-- The parameter set (R178), one field per parameter. -/
structure Params where
  role            : Role
  station         : Nat
  breakMode       : BreakMode
  markBeforeStore : Bool
  xmax            : Nat
  ymax            : Nat
  bedX            : Nat
  bedY            : Nat
  bedLength       : Nat
  bedWidth        : Nat
  ownSpan         : Span
  anchorX         : Nat
  anchorY         : Nat
  marginMark      : Margins
  marginLow       : Margins
  marginHigh      : Margins
  lookCut         : Nat
  lookCrane       : Nat
  beaconCrane     : Nat
  beaconCutter    : Nat
  beaconRack      : Nat
  staleMobile     : Nat
  staleRack       : Nat
  lostMobile      : Nat
  lostRack        : Nat
  ownStale        : Nat
  resumeDelay     : Nat
  pierceAllowance : Nat
  offerTime       : Nat
  pendingTime     : Nat
  bidWindow       : Nat
  queryWindow     : Nat
  queuePenalty    : Nat
  pierceLimit     : Nat
  arcLimit        : Nat
  slotCount       : Nat
  configLocks     : List Nat
  groups          : List Nat
  rackGroup       : Option Nat
  craneGroup      : Option Nat
  pins            : List Pin
  partPrefix      : Text
  templates       : List (List TemplateItem)
  deriving DecidableEq, Repr

/-- The default template: PART, one space, HEAT (R104). -/
def defaultTemplate : List TemplateItem := [.field .part, .literal [0x20#8], .field .heat]

/-- The defaults of R178 for everything but the identity block. Before a first load they stand with role CUTTER and
station 0 (DESIGN CHOICE, log 5). -/
def Params.default : Params where
  role := .cutter
  station := 0
  breakMode := .finishFirst
  markBeforeStore := false
  xmax := 499999
  ymax := 99999
  bedX := 0
  bedY := 0
  bedLength := 24000
  bedWidth := 6000
  ownSpan := ⟨0, 499999⟩
  anchorX := 0
  anchorY := 0
  marginMark := ⟨1500, 500⟩
  marginLow := ⟨3000, 1000⟩
  marginHigh := ⟨5000, 2000⟩
  lookCut := 800
  lookCrane := 600
  beaconCrane := 100
  beaconCutter := 200
  beaconRack := 1000
  staleMobile := 1000
  staleRack := 3000
  lostMobile := 5000
  lostRack := 15000
  ownStale := 300
  resumeDelay := 1000
  pierceAllowance := 2000
  offerTime := 3000
  pendingTime := 3000
  bidWindow := 250
  queryWindow := 300
  queuePenalty := 20000
  pierceLimit := 800
  arcLimit := 7200
  slotCount := 16
  configLocks := []
  groups := []
  rackGroup := none
  craneGroup := none
  pins := []
  partPrefix := [0x50#8]
  templates := List.replicate 8 defaultTemplate

/-- Load states of the configuration loader (R175). -/
inductive LoadStatus where
  | loading | loaded | configFault
  deriving DecidableEq, Repr

/-- Causes of CONFIG_FAULT (R175, R177). -/
inductive LoadCause where
  | noAck | badKind | badLength | badCrc | badIdentity
  deriving DecidableEq, Repr

/-- The blocks of the image (R177). -/
inductive ImageBlock where
  | identity | geometry | margins | timing | wear | rackSlots | groupsAndPins | templates
  deriving DecidableEq, Repr

/-- The configuration loader (R175, R177, R178). -/
structure Cfg where
  load       : LoadStatus
  cause      : Option LoadCause
  remembered : Option (Role × Nat)
  image      : List Byte
  refusals   : Nat
  validity   : List Nat
  clamped    : Nat
  params     : Params
  deriving DecidableEq, Repr

/-! ### Floor link controller (chapter 3) -/

/-- Causes of isolation (R48). -/
inductive IsolationCause where
  | collisions | jabber | duplicate
  deriving DecidableEq, Repr

/-- Link states (R48). -/
inductive Link where
  | normal
  | isolated (cause : IsolationCause)
  deriving DecidableEq, Repr

/-- What a queued telegram is: a beacon, whose content is formed at each attempt (R45, R53), or a message. -/
inductive Outgoing where
  | beacon
  | message (m : Message)
  deriving DecidableEq, Repr

/-- A telegram in a transmit class queue (R42, R46, R53): a beacon's sequence once its first attempt has begun. -/
structure Queued where
  dest     : Nat
  body     : Outgoing
  attempts : Nat
  sequence : Option Byte
  deriving DecidableEq, Repr

/-- The four transmit classes (R42). -/
inductive TxClass where
  | urgent | custody | search | periodic
  deriving DecidableEq, Repr

/-- Where the telegram on the line comes from: the front of a class queue, or a probe (R43, R49). -/
inductive TxSource where
  | queue (c : TxClass)
  | probe
  deriving DecidableEq, Repr

/-- An attempt in progress and the characters it sends (R45). -/
structure Attempt where
  source     : TxSource
  characters : List Byte
  deriving DecidableEq, Repr

/-- The counts of R54, each 0..65,535. -/
structure LinkCounts where
  sent              : Nat
  collisions        : Nat
  drops             : Nat
  superseded        : Nat
  refused           : Nat
  isolationDiscards : Nat
  isolations        : Nat
  received          : Nat
  crcErrors         : Nat
  framingErrors     : Nat
  filtered          : Nat
  kindErrors        : Nat
  deriving DecidableEq, Repr

/-- The floor link controller (R42 to R55). -/
structure Flc where
  link          : Link
  class0        : List Queued
  class1        : List Queued
  class2        : List Queued
  class3        : List Queued
  attempt       : Option Attempt
  backoff       : Option Nat
  probePending  : Bool
  collisionRun  : Nat
  beaconSeq     : Byte
  beaconTimer   : Option Timer
  spacingTimer  : Option Timer
  probeTimer    : Option Timer
  urgentPending : Bool
  counts        : LinkCounts
  deriving DecidableEq, Repr

/-! ### Peer table (chapter 2) -/

/-- The standing of a peer entry (R22). -/
inductive PeerState where
  | fresh | stale | lost
  deriving DecidableEq, Repr

/-- A crane entry's role data (R23). The span is the pinned station list's (R5, R30). -/
structure CraneData where
  x    : Nat
  y    : Nat
  vx   : Int
  vy   : Int
  hx   : Nat
  hy   : Nat
  load : LoadState
  hook : HookClass
  span : Span
  deriving DecidableEq, Repr

/-- A cutter entry's role data (R24). -/
structure CutterData where
  bed     : Rect
  window  : Option Rect
  fume    : FumeClass
  arcOn   : Bool
  release : Release
  deriving DecidableEq, Repr

/-- Role data of a peer entry; its constructor is the entry's role (R22 to R25). -/
inductive PeerData where
  | crane (d : CraneData)
  | cutter (d : CutterData)
  | rack (free : Nat)
  deriving DecidableEq, Repr

/-- A peer entry (R22), with the envelope unit's result kept alongside (R12). -/
structure PeerEntry where
  station   : Nat
  data      : PeerData
  state     : PeerState
  pinned    : Bool
  heard     : Bool
  received  : Count
  ageHeld   : Bool
  reportAge : Nat
  sequence  : Byte
  anchorX   : Nat
  anchorY   : Nat
  result    : Option Intrusion
  deriving DecidableEq, Repr

/-- The peer table: 48 positions, the aging timer and five counters (R22, R31, R36). -/
structure PeerTable where
  entries        : List (Option PeerEntry)
  agingTimer     : Option Timer
  stored         : Nat
  seqDiscards    : Nat
  sourceDiscards : Nat
  evictions      : Nat
  tableFull      : Nat
  deriving DecidableEq, Repr

/-! ### Envelope unit (chapter 1) -/

/-- The crane's own position record (R15). -/
structure OwnPosition where
  x        : Nat
  y        : Nat
  vx       : Int
  vy       : Int
  hx       : Nat
  hy       : Nat
  load     : LoadState
  hook     : HookClass
  receipt  : Count
  received : Bool
  deriving DecidableEq, Repr

/-- The five results of a crane: true is GRANTED, false WITHDRAWN (R18, R19). -/
structure Permits where
  xp    : Bool
  xn    : Bool
  yp    : Bool
  yn    : Bool
  lower : Bool
  deriving DecidableEq, Repr

/-- The envelope unit (R12, R15, R18, R19). -/
structure Env where
  station : Intrusion
  own     : OwnPosition
  permits : Permits
  deriving DecidableEq, Repr

/-! ### Segment queue (chapter 4) -/

/-- A mark's tool, with its current for ARC (R57). -/
inductive Tool where
  | arc (current : Nat)
  | ink
  deriving DecidableEq, Repr

/-- A mark's target (R57). -/
inductive MarkTarget where
  | part
  | remnant (serial : Nat)
  deriving DecidableEq, Repr

/-- The content of a segment record by kind (R56 to R58). Windows are in table coordinates. -/
inductive SegContent where
  | cut (current : Nat) (pierce : Bool) (window : Rect) (budget : Nat) (part : Option Text)
  | travel (budget : Nat)
  | mark (tool : Tool) (window : Rect) (budget : Nat) (template : Nat) (target : MarkTarget) (part : Option Text)
  | repeats (count : Nat) (dx dy : Int)
  | nestStart (id : StockId)
  | nestEnd
  | remnant (serial length width : Nat) (notch : Option Notch)
  deriving DecidableEq, Repr

/-- A held record (R59). -/
structure SegRecord where
  seq     : Seq
  content : SegContent
  deriving DecidableEq, Repr

/-- Lock reasons (R61). -/
inductive LockReason where
  | unknownKind | sequence | repeatTarget | fieldRange | windowInverted | windowOutsideBed
  deriving DecidableEq, Repr

/-- Stream states (R59). -/
inductive Stream where
  | opened
  | locked (reason : LockReason) (seq : Seq) (kind : Byte)
  | seeking (target : Seq)
  deriving DecidableEq, Repr

/-- The expansion cursor (R59). -/
structure Cursor where
  record : SegRecord
  copies : Nat
  k      : Nat
  dx     : Int
  dy     : Int
  deriving DecidableEq, Repr

/-- A copy as the queue forms it (R67). The window is in table coordinates with the copy's offset applied. -/
structure Copy where
  seq     : Seq
  content : SegContent
  k       : Nat
  copies  : Nat
  window  : Option Rect
  deriving DecidableEq, Repr

/-- The segment queue (R59). `expected` none is ANY. -/
structure SegQueue where
  held          : List SegRecord
  stream        : Stream
  expected      : Option Seq
  repeatPending : Bool
  cursor        : Option Cursor
  armed         : Bool
  accepted      : BitVec 32
  consumed      : BitVec 32
  discarded     : BitVec 32
  deriving DecidableEq, Repr

/-! ### Release controller (chapter 5) and legend composer (chapter 6) -/

/-- Break causes (R90). -/
inductive BreakCause where
  | cutoff | hold | estop
  deriving DecidableEq, Repr

/-- Fault reasons (R92). -/
inductive FaultReason where
  | bedOverrun | controllerAbort | inFlightTimeout | haltTimeout
  | plateMismatch | noSourceRecord | stockIdInUse | stockFull | legendLong
  deriving DecidableEq, Repr

/-- A composed legend and the number of literals dropped (R105). -/
structure Legend where
  text    : Text
  dropped : Nat
  deriving DecidableEq, Repr

/-- The current copy and what RC keeps with it (R78). -/
structure Current where
  copy         : Copy
  cause        : Option BreakCause
  brokenBefore : Bool
  halted       : Bool
  flushed      : Bool
  legend       : Option Legend
  deriving DecidableEq, Repr

/-- What RC keeps in FAULTED (R92). `recordAtHead` says that the faulted copy's record is still the queue's head
record, which CONTINUE looks at (R93; log 40). -/
structure ReleaseFault where
  reason       : FaultReason
  seq          : Seq
  k            : Nat
  flushed      : Bool
  recordAtHead : Bool
  deriving DecidableEq, Repr

/-- What RC announces: the live window and its class (R100). -/
structure LiveWindow where
  window : Option Rect
  fume   : FumeClass
  deriving DecidableEq, Repr

/-- The release controller (R78). `lastNonclear` none is "never". -/
structure Rc where
  release      : Release
  fault        : Option ReleaseFault
  head         : Option Copy
  current      : Option Current
  flightTimer  : Option Timer
  haltTimer    : Option Timer
  resumeTimer  : Option Timer
  lastNonclear : Option Count
  pierces      : Nat
  arcMs        : Nat
  wearKnown    : Bool
  stopPending  : Bool
  live         : LiveWindow
  deriving DecidableEq, Repr

/-- Outcomes a mark log entry records (R111). -/
inductive MarkOutcome where
  | done | broken | aborted
  deriving DecidableEq, Repr

/-- A mark log entry (R111). -/
structure MarkEntry where
  number  : BitVec 16
  seq     : Seq
  k       : Nat
  ink     : Bool
  target  : MarkTarget
  length  : Nat
  dropped : Nat
  outcome : MarkOutcome
  deriving DecidableEq, Repr

/-- The legend composer: its log, newest entry first, and the mark number counter (R111). -/
structure Composer where
  log        : List MarkEntry
  markNumber : BitVec 16
  deriving DecidableEq, Repr

/-! ### Stock table (chapters 7 and 8) -/

/-- Locations of a stock record (R116). -/
inductive Location where
  | bed | table | hook
  | slot (n : Nat)
  deriving DecidableEq, Repr

/-- Custody states (R116). -/
inductive Custody where
  | held | offered | pending | disputed
  deriving DecidableEq, Repr

/-- A stock record (R116); `timer` is its offer or pending timer (R123, R127). -/
structure StockRecord where
  piece     : Piece
  location  : Location
  custody   : Custody
  partner   : Option Nat
  entryTime : Count
  timer     : Option Timer
  deriving DecidableEq, Repr

/-- An offer held in an incoming slot (R124). -/
structure HeldOffer where
  piece : Piece
  giver : Nat
  taken : Count
  timer : Option Timer
  deriving DecidableEq, Repr

/-- The rack's search counts (R150). -/
structure SearchCounts where
  answered        : Nat
  unanswered      : Nat
  granted         : Nat
  refusedGone     : Nat
  refusedFull     : Nat
  refusedNotHeard : Nat
  dropped         : Nat
  ignored         : Nat
  deriving DecidableEq, Repr

/-- The stock table (R117, R120, R124, R134, R137). -/
structure Stock where
  records      : List (Option StockRecord)
  bed          : Option Nat
  retired      : List StockId
  slot0        : Option HeldOffer
  slot1        : Option HeldOffer
  lastPlaced   : Nat
  runtimeLocks : List Nat
  offersMade   : Nat
  acceptsSent  : Nat
  releasesSent : Nat
  refusalsSent : Nat
  heldExpired  : Nat
  linkRefusals : Nat
  ignored      : Nat
  search       : SearchCounts
  deriving DecidableEq, Repr

/-! ### Search unit (chapter 8) -/

/-- Phases of the search unit (R143). -/
inductive Phase where
  | closed | collecting | reserving
  deriving DecidableEq, Repr

/-- The search unit (R143, R150). -/
structure Search where
  phase        : Phase
  number       : Byte
  query        : Option QueryFields
  candidates   : List Candidate
  windowTimer  : Option Timer
  reserveTimer : Option Timer
  awaited      : Option Candidate
  found        : Option (Nat × StockId)
  taken        : Nat
  ignored      : Nat
  displaced    : Nat
  strays       : Nat
  linkRefusals : Nat
  deriving DecidableEq, Repr

/-! ### Move unit (chapter 9) -/

/-- States of a requester's move (R152). -/
inductive MoveStanding where
  | opened | awarded | started | done | failed
  deriving DecidableEq, Repr

/-- Reasons of a move (R152). -/
inductive MoveReason where
  | noCrane | cancelled | notCarried | noReply
  deriving DecidableEq, Repr

/-- A crane's bid (R152). -/
structure Bid where
  crane : Nat
  cost  : Nat
  deriving DecidableEq, Repr

/-- A requester move entry (R152); `endOrder` orders ended entries (R153; log 41). -/
structure MoveEntry where
  tag           : Byte
  info          : MoveInfo
  state         : MoveStanding
  crane         : Option Nat
  callNumber    : Nat
  bids          : List Bid
  windowTimer   : Option Timer
  replyTimer    : Option Timer
  cancelPending : Bool
  reason        : Option MoveReason
  endOrder      : Nat
  deriving DecidableEq, Repr

/-- A move in a crane's queue (R160). -/
structure QueuedMove where
  requester : Nat
  tag       : Byte
  info      : MoveInfo
  order     : Nat
  started   : Bool
  deriving DecidableEq, Repr

/-- The move unit's counts (R167). -/
structure MoveCounts where
  callsMade        : Nat
  bidsTaken        : Nat
  bidsIgnored      : Nat
  awardsSent       : Nat
  awardsTaken      : Nat
  awardsDeclined   : Nat
  callsPassed      : Nat
  revocationsSent  : Nat
  returns          : Nat
  unplannedLoads   : Nat
  movesDropped     : Nat
  telegramsIgnored : Nat
  linkRefusals     : Nat
  deriving DecidableEq, Repr

/-- The move unit (R152, R160, R166, R167). -/
structure Moves where
  moves        : List (Option MoveEntry)
  tag          : Byte
  endCount     : Nat
  queue        : List QueuedMove
  awardOrder   : Nat
  leavePending : Bool
  live         : Bool
  counts       : MoveCounts
  deriving DecidableEq, Repr

/-! ### Line unit (chapter 10.5) -/

/-- The line unit: input samples and output lines; true is asserted (R172). -/
structure Lines where
  estop        : Bool
  loadAttached : Bool
  arcPermit    : Bool
  travelXP     : Bool
  travelXN     : Bool
  travelYP     : Bool
  travelYN     : Bool
  lower        : Bool
  deriving DecidableEq, Repr

/-! ### Station port (chapter 10) -/

/-- The requests (R169). -/
inductive RequestCode where
  | segment | flush | resync | segmentDone | segmentAborted | segmentHalted | continueRequest
  | wearRestore | consumableChanged | declareStock | handOff | confirmCustody | bedLoaded | placed
  | lockSlot | unlockSlot | queryStock | cancelQuery | moveRequest | cancelMove | moveFinish | position
  | setMode | status | readTable
  | unknown (code : Byte)
  deriving DecidableEq, Repr

/-- Result codes: OK and every refusal the rules name (R169). -/
inductive ResultCode where
  | ok | wrongMode | busy | full | locked | notInFlight | fieldRange | sendRefused | unknownRequest
  | malformed | notFaulted | wearKnown | badLocation | idInUse | retired | slotBad | bedOccupied
  | badStation | noRecord | notHeld | slotLocked | unmarked | notDisputed | noOffer | duplicate
  | configLocked | noQuery | noAnchor | noMove
  deriving DecidableEq, Repr

/-- Kinds of copy a SEGMENT_GO names (R85). -/
inductive CopyKind where
  | cut | travel | mark | repeats | nestStart | nestEnd | remnant
  deriving DecidableEq, Repr

/-- Sides of a handover (R128, R130). -/
inductive Side where
  | giver | taker
  deriving DecidableEq, Repr

/-- Reasons HANDOVER_FAILED carries (R122, R129). -/
inductive HandoverReason where
  | timeout | sendRefused | notHeld
  | refused (r : CustodyRefusal)
  deriving DecidableEq, Repr

/-- Limits WEAR_LIMIT names (R95). -/
inductive WearLimit where
  | pierce | arc
  deriving DecidableEq, Repr

/-- The notices and the data they carry (R170 and the rules it gathers). -/
inductive NoticeData where
  | segmentGo (seq : Seq) (k : Nat) (kind : CopyKind) (window : Option Rect) (pierce resume atRelease : Bool)
  | markGo (seq : Seq) (k : Nat) (legend : Text) (window : Option Rect) (tool : Tool)
  | segmentBreak (seq : Seq) (k : Nat) (cause : BreakCause)
  | releaseFaulted (reason : FaultReason) (seq : Seq) (k : Nat) (flushed : Bool)
  | wearLimit (limit : WearLimit)
  | queueLow (held : Nat)
  | streamLocked (reason : LockReason) (seq : Seq) (kind : Byte)
  | peerRoleChanged (station : Nat) (old new : Role)
  | linkDrop (kind : TelegramKind) (dest : Nat)
  | linkIsolated (cause : IsolationCause)
  | linkRestored
  | offerHeld (id : StockId) (giver : Nat) (kind : PieceKind)
  | handoverDone (id : StockId) (partner : Nat) (side : Side)
  | handoverFailed (id : StockId) (taker : Nat) (reason : HandoverReason)
  | handoverRejected (id : StockId) (giver : Nat) (reason : CustodyRefusal)
  | handoverDisputed (id : StockId) (giver : Nat)
  | plateRetired (id : StockId)
  | reservationsDropped (station : Nat) (number : Nat)
  | queryResult (number : Byte) (found : Option Candidate)
  | moveState (tag : Byte) (state : MoveStanding) (crane : Option Nat) (reason : Option MoveReason)
      (taker : Option Nat)
  | moveNext (head : Option (Nat × Byte × MoveInfo))
  | movesDropped (number : Nat)
  | unplannedLoad (id : StockId)
  | modeChanged (old new : Mode)
  | estopChanged (asserted : Bool)
  | loadLoaded (role : Role) (station : Nat) (same : Bool) (defaulted : List ImageBlock) (clamped : Nat)
  | loadFault (cause : LoadCause)
  deriving DecidableEq, Repr

/-- A notice: the count at which it was raised and its data (R170). -/
structure Notice where
  time : Count
  data : NoticeData
  deriving DecidableEq, Repr

/-- The hold reasons (R82). -/
inductive HoldReason where
  | notRun | estop | isolated | intrusion | resumeDelay | wearArc | wearUnknown | wearPierce
  deriving DecidableEq, Repr

/-- What a slot's READ_TABLE reports (R150). -/
structure SlotReport where
  record      : Option (StockId × Custody × Option Nat)
  configLock  : Bool
  runtimeLock : Bool
  deriving DecidableEq, Repr

/-- The reply of READ_TABLE, by table (R36, R114, R134, R150, R167). -/
inductive TableReply where
  | peer (entry : Option (PeerEntry × Nat × Option Intrusion))
  | stock (record : Option (StockRecord × Option Nat))
  | retired (id : Option StockId)
  | incoming (offer : Option (StockId × PieceKind × Nat × Option Nat))
  | mark (entry : Option MarkEntry) (held : Nat) (number : BitVec 16)
  | slot (report : Option SlotReport)
  | move (entry : Option (MoveEntry × Option Nat × Option Nat))
  | queue (move : Option QueuedMove)
  deriving DecidableEq, Repr

/-- The port's own STATUS items (R173). -/
structure PortStatus where
  load         : LoadStatus
  role         : Role
  station      : Nat
  mode         : Mode
  leavePending : Bool
  taken        : Nat
  bufferFull   : Nat
  notLoaded    : Nat
  frameErrors  : Nat
  notices      : Nat
  lost         : Nat
  lines        : Lines
  notice       : Bool
  cause        : Option LoadCause
  validity     : List Nat
  clamped      : Nat
  deriving DecidableEq, Repr

/-- The floor link's STATUS items (R54). -/
structure LinkStatus where
  link         : Link
  collisionRun : Nat
  class0       : Nat
  class1       : Nat
  class2       : Nat
  class3       : Nat
  counts       : LinkCounts
  deriving DecidableEq, Repr

/-- The segment queue's STATUS items (R75). -/
structure QueueStatus where
  stream    : Stream
  expected  : Option Seq
  held      : Nat
  head      : Option (Seq × CopyKind × Nat × Nat)
  accepted  : BitVec 32
  consumed  : BitVec 32
  discarded : BitVec 32
  deriving DecidableEq, Repr

/-- The release controller's STATUS items (R102). -/
structure ReleaseStatus where
  release     : Release
  fault       : Option (FaultReason × Seq × Nat)
  reasons     : List HoldReason
  current     : Option (Seq × Nat × Option BreakCause × Bool)
  stopPending : Bool
  wearKnown   : Bool
  pierces     : Nat
  arcMs       : Nat
  arcPermit   : Bool
  deriving DecidableEq, Repr

/-- The stock table's STATUS items (R134, R150). -/
structure StockStatus where
  held         : Nat
  offered      : Nat
  pending      : Nat
  disputed     : Nat
  retired      : Nat
  incoming     : Nat
  bed          : Option StockId
  offersMade   : Nat
  acceptsSent  : Nat
  releasesSent : Nat
  refusalsSent : Nat
  heldExpired  : Nat
  linkRefusals : Nat
  ignored      : Nat
  slotCount    : Nat
  slotsFree    : Nat
  slotsUsed    : Nat
  slotsLocked  : Nat
  reservations : Nat
  search       : SearchCounts
  deriving DecidableEq, Repr

/-- The search unit's STATUS items (R150). -/
structure SearchStatus where
  phase        : Phase
  number       : Byte
  candidates   : Nat
  awaited      : Option Candidate
  found        : Option (Nat × StockId)
  taken        : Nat
  ignored      : Nat
  displaced    : Nat
  strays       : Nat
  linkRefusals : Nat
  deriving DecidableEq, Repr

/-- The move unit's STATUS items (R167). -/
structure MoveStatus where
  live         : Nat
  ended        : Nat
  queue        : Nat
  started      : Option (Nat × Byte)
  leavePending : Bool
  counts       : MoveCounts
  deriving DecidableEq, Repr

/-- The peer table's STATUS items (R36). -/
structure PeerStatus where
  stored         : Nat
  seqDiscards    : Nat
  sourceDiscards : Nat
  evictions      : Nat
  tableFull      : Nat
  deriving DecidableEq, Repr

/-- The reply of STATUS (R173). -/
structure StatusReport where
  port    : PortStatus
  peers   : PeerStatus
  link    : LinkStatus
  queue   : QueueStatus
  release : ReleaseStatus
  stock   : StockStatus
  search  : SearchStatus
  moves   : MoveStatus
  deriving DecidableEq, Repr

/-- The owner's reply data beside the result code. -/
inductive ReplyData where
  | none
  | queued (held : Nat) (stream : Stream)
  | lockedBy (reason : LockReason)
  | flushed (discarded : Nat)
  | query (number : Byte)
  | tag (tag : Byte)
  | mode (pending : Bool)
  | status (report : StatusReport)
  | table (reply : TableReply)
  deriving DecidableEq, Repr

/-- A held reply (R169). -/
structure Reply where
  number : Byte
  code   : RequestCode
  result : ResultCode
  data   : ReplyData
  deriving DecidableEq, Repr

/-- Take statuses (R168). -/
inductive TakeStatus where
  | taken | bufferFull | notLoaded | restarting
  deriving DecidableEq, Repr

/-- What the port shifted out after the port status byte (R168). -/
inductive PortAnswer where
  | nothing
  | take (status : TakeStatus) (number : Byte)
  | reply (r : Option Reply)
  | notice (lost : Nat) (n : Option Notice)
  deriving DecidableEq, Repr

/-- The output of the last transaction (R168, R183); the model's own observation field (log 7). -/
structure PortOutput where
  status : Byte
  answer : PortAnswer
  deriving DecidableEq, Repr

/-- The station port (R168 to R174). -/
structure Port where
  mode        : Mode
  number      : Byte
  buffer      : List Reply
  notices     : List Notice
  lost        : Nat
  taken       : Nat
  bufferFull  : Nat
  notLoaded   : Nat
  frameErrors : Nat
  output      : PortOutput
  deriving DecidableEq, Repr

/-! ### The whole part -/

/-- Everything the part holds, the queue of waiting commands, and the counter of free values (log 1). -/
structure State where
  pending   : List Instr
  time      : Count
  cfg       : Cfg
  flc       : Flc
  pt        : PeerTable
  env       : Env
  sq        : SegQueue
  rc        : Rc
  lc        : Composer
  st        : Stock
  su        : Search
  mu        : Moves
  sp        : Port
  lu        : Lines
  freeCount : Nat
  deriving DecidableEq, Repr

/-- Faults: no command of this part ends its run (INVENTORY.md, Faults), so no constructor is needed. -/
inductive Fault where
  deriving DecidableEq, Repr

/-- Refusals: the host's interface asks for `notModelled`; no arm answers it. -/
inductive Refusal where
  /-- Raised by an arm of `exec` whose command has no meaning yet; no arm does. Safe. -/
  | notModelled (mnemonic : String)
  deriving DecidableEq, Repr

/-! ### Reset values -/

/-- R55. -/
def LinkCounts.reset : LinkCounts := ⟨0, 0, 0, 0, 0, 0, 0, 0, 0, 0, 0, 0⟩

/-- R55. -/
def Flc.reset : Flc where
  link := .normal
  class0 := []
  class1 := []
  class2 := []
  class3 := []
  attempt := none
  backoff := none
  probePending := false
  collisionRun := 0
  beaconSeq := 0
  beaconTimer := none
  spacingTimer := none
  probeTimer := none
  urgentPending := false
  counts := .reset

/-- R37: 48 empty positions, counters 0. -/
def PeerTable.reset : PeerTable := ⟨List.replicate 48 none, none, 0, 0, 0, 0, 0⟩

/-- R15: the own position record at reset. -/
def OwnPosition.reset : OwnPosition := ⟨0, 0, 0, 0, 0, 0, .unknown, .low, 0, false⟩

/-- R18, R19, R21: all five results WITHDRAWN. -/
def Permits.withdrawn : Permits := ⟨false, false, false, false, false⟩

/-- R21. -/
def Env.reset : Env := ⟨.clear, .reset, .withdrawn⟩

/-- R76. -/
def SegQueue.reset : SegQueue := ⟨[], .opened, none, false, none, false, 0, 0, 0⟩

/-- R100 with neither copy present. -/
def LiveWindow.absent : LiveWindow := ⟨none, .none⟩

/-- R102: the power-on state. -/
def Rc.reset : Rc where
  release := .idle
  fault := none
  head := none
  current := none
  flightTimer := none
  haltTimer := none
  resumeTimer := none
  lastNonclear := none
  pierces := 0
  arcMs := 0
  wearKnown := false
  stopPending := false
  live := .absent

/-- R115. -/
def Composer.reset : Composer := ⟨[], 0⟩

/-- R151. -/
def SearchCounts.reset : SearchCounts := ⟨0, 0, 0, 0, 0, 0, 0, 0⟩

/-- R135: 96 empty positions, nothing retired, offered or counted. -/
def Stock.reset : Stock where
  records := List.replicate 96 none
  bed := none
  retired := []
  slot0 := none
  slot1 := none
  lastPlaced := 0
  runtimeLocks := []
  offersMade := 0
  acceptsSent := 0
  releasesSent := 0
  refusalsSent := 0
  heldExpired := 0
  linkRefusals := 0
  ignored := 0
  search := .reset

/-- R151. -/
def Search.reset : Search where
  phase := .closed
  number := 0
  query := none
  candidates := []
  windowTimer := none
  reserveTimer := none
  awaited := none
  found := none
  taken := 0
  ignored := 0
  displaced := 0
  strays := 0
  linkRefusals := 0

/-- R167. -/
def MoveCounts.reset : MoveCounts := ⟨0, 0, 0, 0, 0, 0, 0, 0, 0, 0, 0, 0, 0⟩

/-- R167. -/
def Moves.reset : Moves where
  moves := List.replicate 8 none
  tag := 0
  endCount := 0
  queue := []
  awardOrder := 0
  leavePending := false
  live := false
  counts := .reset

/-- R174. -/
def Port.reset : Port where
  mode := .offline
  number := 0
  buffer := []
  notices := []
  lost := 0
  taken := 0
  bufferFull := 0
  notLoaded := 0
  frameErrors := 0
  output := ⟨0, .nothing⟩

/-- R172: output lines withdrawn; the input samples of log 6. -/
def Lines.reset : Lines := ⟨false, false, false, false, false, false, false, false⟩

/-- R175: LOADING, nothing remembered, nothing read yet; the parameters of log 5. -/
def Cfg.reset : Cfg where
  load := .loading
  cause := none
  remembered := none
  image := []
  refusals := 0
  validity := [0, 0, 0, 0, 0, 0, 0, 0]
  clamped := 0
  params := .default

/-- The part right after power-on reset. -/
def State.reset : State where
  pending := []
  time := 0
  cfg := .reset
  flc := .reset
  pt := .reset
  env := .reset
  sq := .reset
  rc := .reset
  lc := .reset
  st := .reset
  su := .reset
  mu := .reset
  sp := .reset
  lu := .reset
  freeCount := 0

end Sys2Proof.Machine
end

