-- ==== Sys2Proof/Config.lean ====
section
/-! DEFINITION. The values the manual leaves open: constants with no body, applied to the state's plain counter of
free values (`State.freeCount`), so that nothing in Lean can evaluate them. Log entry 1. -/

namespace Sys2Proof.Config

open Sys2Proof.Machine

/-- The draw behind a backoff: R46 says k is "drawn uniformly from 0..2^min(n,8) − 1"; the model takes this free
number modulo 2^min(n,8). Log entry 11. -/
opaque backoffDraw : Nat → Nat

/-- Which of two hand-ons that the manual leaves in no set order is taken first (R35, R161, R170). Log entry 12. -/
opaque firstHandOn : Nat → Bool

/-- The request number byte that follows a take status of a request that got no number (R168). Log entry 22. -/
opaque idleNumber : Nat → Byte

/-- The value read for a byte that a SEGMENT payload is too short to hold: free value and byte place (R61).
Log entry 20. -/
opaque unsentByte : Nat → Nat → Byte

/-- The byte of a request's code: the manual gives none (R169, R183). Log entry 66. -/
opaque requestByte : RequestCode → Byte

/-- The byte of a result code: the manual gives none (R169, R183). Log entry 66. -/
opaque resultByte : ResultCode → Byte

/-- The bytes of a reply's data: the manual lays out none (R169, R183). Log entry 66. -/
opaque replyBytes : ReplyData → List Byte

/-- The byte of a notice's code: the manual gives none (R170, R183). Log entry 66. -/
opaque noticeByte : NoticeData → Byte

/-- The bytes of a notice's data: the manual lays out none (R170, R183). Log entry 66. -/
opaque noticeBytes : NoticeData → List Byte

end Sys2Proof.Config
end

