-- ==== Sys2Proof/Machine/Ops.lean ====
section
/-! DEFINITION. Shared operations: held counts, ages and timers, tables of positions, notices, free values, byte
order and the CRC. -/

namespace Sys2Proof.Machine

/-! ### Counts and timers -/

/-- A count 0..65,535 that gains 1 and holds (R36, R54, R134, R150, R167, R173). -/
def bump (n : Nat) : Nat := min (n + 1) 65535

/-- A held count that gains n. -/
def bumpBy (k n : Nat) : Nat := min (n + k) 65535

/-- The milliseconds from `since` to `now`, modulo 2^32. -/
def elapsed (now since : Count) : Nat := (now - since).toNat

/-- An age: elapsed time with 65,535 as its largest value (00_scope.md 0.5). -/
def ageOf (now since : Count) : Nat := min (elapsed now since) 65535

/-- The timer's time has come. -/
def Timer.due (t : Timer) (now : Count) : Bool := decide (t.length ≤ elapsed now t.start)

/-- A timer that runs and whose time has come (log 4). -/
def timerDue (t : Option Timer) (now : Count) : Bool :=
  match t with
  | some t => t.due now
  | none => false

/-- The time left on a timer (R134, R167, R173). -/
def Timer.left (t : Timer) (now : Count) : Nat := t.length - elapsed now t.start

/-- A periodic timer's next period starts where the last one ended (R31, R49, R51). -/
def Timer.again (t : Timer) : Timer := ⟨t.start + BitVec.ofNat 32 t.length, t.length⟩

/-- A timer started now. -/
def State.timer (s : State) (n : Nat) : Option Timer := some ⟨s.time, n⟩

/-! ### Tables of positions -/

/-- What a position holds; a position outside the table is empty. -/
def entryAt {α : Type} (l : List (Option α)) (i : Nat) : Option α := (l[i]?).join

/-- The lowest-numbered empty position (R22, R117). -/
def lowestEmpty {α : Type} (l : List (Option α)) : Option Nat := l.findIdx? (fun o => o.isNone)

/-- The lowest position whose entry satisfies a test. -/
def findPos {α : Type} (p : α → Bool) (l : List (Option α)) : Option Nat :=
  l.findIdx? (fun o => o.any p)

/-- The entries a table holds, in position order. -/
def entriesOf {α : Type} (l : List (Option α)) : List α := l.filterMap id

/-- Changes the entry of one position; an empty position stays empty. -/
def modifyAt {α : Type} (l : List (Option α)) (i : Nat) (f : α → α) : List (Option α) :=
  l.modify i (fun o => o.map f)

/-! ### Notices (R170) -/

/-- Raises a notice: it joins the queue, or with 32 notices held it is dropped and the lost-notice count gains 1,
holding at 255 (R170). -/
def raise (d : NoticeData) (s : State) : State :=
  if s.sp.notices.length < 32 then
    { s with sp := { s.sp with notices := s.sp.notices ++ [⟨s.time, d⟩] } }
  else
    { s with sp := { s.sp with lost := min (s.sp.lost + 1) 255 } }

/-! ### Free values (log 1, log 12) -/

/-- Two hand-ons of one event that the manual leaves in no set order: a free value says which is first. -/
def unordered (f g : State → State) (s : State) : State :=
  let t := { s with freeCount := s.freeCount + 1 }
  if Config.firstHandOn s.freeCount then g (f t) else f (g t)

/-! ### Byte order and CRC (R38, R181) -/

/-- The number as `k` bytes, least significant first (R181). -/
def leBytes : Nat → Nat → List Byte
  | 0, _ => []
  | k + 1, n => BitVec.ofNat 8 n :: leBytes k (n / 256)

/-- The number that bytes give, least significant first (R181). -/
def leNat : List Byte → Nat
  | [] => 0
  | b :: bs => b.toNat + 256 * leNat bs

/-- Bytes `i .. i + k - 1` of a layout as a number; a byte that is not there counts 0. -/
def fieldNat (bs : List Byte) (i k : Nat) : Nat := leNat ((bs.drop i).take k)

/-- A signed field in two's complement (R181). -/
def fieldInt (bs : List Byte) (i k : Nat) : Int := (BitVec.ofNat (8 * k) (fieldNat bs i k)).toInt

/-- A signed number as `k` bytes in two's complement (R181). -/
def leInt (k : Nat) (n : Int) : List Byte := leBytes k (BitVec.ofInt (8 * k) n).toNat

/-- One bit of the CRC: shift left, and the polynomial 0x1021 where the bit shifted out is 1 (R38). -/
def crcBit (c : BitVec 16) : BitVec 16 := if c.msb then (c <<< 1) ^^^ 0x1021#16 else c <<< 1

/-- One character of the CRC, most significant bit first (PRESUMED, log 8). -/
def crcByte (c : BitVec 16) (b : Byte) : BitVec 16 :=
  let d := c ^^^ (b.zeroExtend 16 <<< 8)
  crcBit (crcBit (crcBit (crcBit (crcBit (crcBit (crcBit (crcBit d)))))))

/-- CRC-16 with polynomial 0x1021 and initial value 0xFFFF (R38, R177). -/
def crc16 (bs : List Byte) : BitVec 16 := bs.foldl crcByte 0xFFFF#16

/-- The CRC as two characters, low byte first (R181). -/
def crcBytes (c : BitVec 16) : List Byte := [c.truncate 8, (c >>> 8).truncate 8]

/-! ### Roles and the load -/

/-- The role of a parameter set as the state has it. -/
def State.role (s : State) : Role := s.cfg.params.role

/-- The load has succeeded (R175). -/
def State.isLoaded (s : State) : Bool := decide (s.cfg.load = .loaded)

/-- A timer has expired: the load has succeeded (R175), the timer runs and its time has come (log 4). -/
def State.expired (s : State) (t : Option Timer) : Bool := s.isLoaded && timerDue t s.time

/-- The role of a peer entry (R22). -/
def PeerData.role : PeerData → Role
  | .crane _ => .crane
  | .cutter _ => .cutter
  | .rack _ => .rack

end Sys2Proof.Machine
end

