-- ==== Sys2Proof/Machine/Operands.lean ====
section
/-! DEFINITION. The operand layouts of chapter 12: the operation byte of a transaction, the carried stock record and
the segment record (R183), telegram payloads (R182), and the ranges R56 to R58 and R116 give their fields. -/

namespace Sys2Proof.Machine

/-! ### The operation byte (R168, R183) -/

/-- The three operations of the station port (R168). -/
inductive Operation
  | writeRequest
  | readReply
  | readNotice
  deriving DecidableEq, Repr

/-- The operation byte (R183). -/
def Operation.code : Operation → Byte
  | .writeRequest => 0x01
  | .readReply => 0x02
  | .readNotice => 0x03

/-- The operation a byte names; none makes the transaction void (R168). -/
def readOperation (b : Byte) : Option Operation :=
  [Operation.writeRequest, .readReply, .readNotice].find? (fun o => o.code = b)

/-- The operation byte that begins the transaction of a command of the station port (R168, R183). -/
def operationByte (c : Instr) : Option Byte :=
  match c with
  | .segment _ | .flush _ | .resync _ _ | .segmentDone _ _ _ _ | .segmentAborted _ _ _ _ | .segmentHalted _ _ _ _
  | .continueRequest _ | .wearRestore _ _ _ | .consumableChanged _ | .declareStock _ _ _ _ | .handOff _ _ _
  | .confirmCustody _ _ | .bedLoaded _ _ | .placed _ _ _ | .lockSlot _ _ | .unlockSlot _ _ | .queryStock _ _
  | .cancelQuery _ | .moveRequest _ _ | .cancelMove _ _ | .moveFinish _ | .position _ _ | .setMode _ _ | .status _
  | .readTable _ _ _ | .restart _ | .unknownRequest _ _ => some Operation.writeRequest.code
  | .readReply _ => some Operation.readReply.code
  | .readNotice _ => some Operation.readNotice.code
  | .voidTransaction b => some b
  | .powerOn | .timeBaseTick | .i2cTransferDone _ _ | .agingStep | .beaconTimerExpiry | .urgentSpacingExpiry
  | .attemptStart | .attemptClean | .attemptCollided | .backoffEnd | .jabberLimit | .probeTimerExpiry | .probeStart
  | .telegramFramingError | .beaconCutter _ | .beaconCrane _ | .beaconRack _ | .custodyOffer _ | .custodyAccept _
  | .custodyRelease _ | .custodyRefuse _ | .stockQuery _ | .stockCandidate _ | .reserve _ | .reserveReply _
  | .unreserve _ | .moveCall _ | .moveBid _ | .moveAward _ | .awardReply _ | .moveRevoke _ | .revokeReply _
  | .moveStarted _ | .moveReturn _ | .moveDone _ | .estopAsserted | .estopReleased | .loadAttachedRises
  | .loadAttachedFalls | .inFlightTimeout | .haltTimeout | .resumeTimerExpiry | .offerTimeout _ | .heldOfferExpiry _
  | .pendingTimeout _ | .queryWindowExpiry | .reserveTimerExpiry | .bidWindowExpiry _ | .awardReplyTimeout _
  | .cancelReplyTimeout _ | .telegramOfUnknownKind _ _ => none

/-! ### Text (R181; 00_scope.md 0.5) -/

/-- The marking alphabet: A to Z, 0 to 9, hyphen, slash, full stop, space. -/
def inAlphabet (b : Byte) : Bool :=
  let n := b.toNat
  (65 ≤ n && n ≤ 90) || (48 ≤ n && n ≤ 57) || n == 45 || n == 47 || n == 46 || n == 32

/-- A text of `n` characters at most, padded with spaces to a fixed field (R182, R183). -/
def textField (n : Nat) (t : Text) : List Byte :=
  BitVec.ofNat 8 t.length :: (t ++ List.replicate (n - t.length) 0x20#8)

/-- Reads a fixed text field; one whose length byte is above the field's size is read whole, which no range
accepts. The characters behind the text are not looked at, be they spaces or not (DESIGN CHOICE, log 68). -/
def readText (n : Nat) (bs : List Byte) : Text :=
  match bs with
  | [] => []
  | len :: cs => if len.toNat ≤ n then cs.take len.toNat else bs

/-! ### Codes (R182) -/

/-- The kind code of a telegram. -/
def TelegramKind.code : TelegramKind → Byte
  | .beaconCutter => 0x10
  | .beaconCrane => 0x11
  | .beaconRack => 0x12
  | .custodyOffer => 0x20
  | .custodyAccept => 0x21
  | .custodyRelease => 0x22
  | .custodyRefuse => 0x23
  | .stockQuery => 0x30
  | .stockCandidate => 0x31
  | .reserve => 0x32
  | .reserveReply => 0x33
  | .unreserve => 0x34
  | .moveCall => 0x40
  | .moveBid => 0x41
  | .moveAward => 0x42
  | .awardReply => 0x43
  | .moveRevoke => 0x44
  | .revokeReply => 0x45
  | .moveStarted => 0x46
  | .moveReturn => 0x47
  | .moveDone => 0x48

/-- The fixed payload length of a telegram kind. -/
def TelegramKind.payloadLength : TelegramKind → Nat
  | .beaconCutter => 29
  | .beaconCrane => 17
  | .beaconRack => 8
  | .custodyOffer => 32
  | .custodyAccept => 3
  | .custodyRelease => 3
  | .custodyRefuse => 4
  | .stockQuery => 10
  | .stockCandidate => 32
  | .reserve => 5
  | .reserveReply => 5
  | .unreserve => 3
  | .moveCall => 15
  | .moveBid => 5
  | .moveAward => 14
  | .awardReply => 2
  | .moveRevoke => 1
  | .revokeReply => 2
  | .moveStarted => 1
  | .moveReturn => 1
  | .moveDone => 3

/-- The kind codes of R182's table. -/
def knownKinds : List Byte :=
  [0x10, 0x11, 0x12, 0x20, 0x21, 0x22, 0x23, 0x30, 0x31, 0x32, 0x33, 0x34,
   0x40, 0x41, 0x42, 0x43, 0x44, 0x45, 0x46, 0x47, 0x48]

def LoadState.code : LoadState → Byte
  | .empty => 0
  | .plate => 1
  | .skeleton => 2
  | .remnant => 3
  | .unknown => 4

/-- R5: an undefined load code is stored as UNKNOWN. -/
def readLoad (b : Byte) : LoadState :=
  match b.toNat with
  | 0 => .empty
  | 1 => .plate
  | 2 => .skeleton
  | 3 => .remnant
  | _ => .unknown

def HookClass.code : HookClass → Byte
  | .high => 0
  | .transit => 1
  | .low => 2

/-- R5: an undefined hook code is stored as LOW. -/
def readHook (b : Byte) : HookClass :=
  match b.toNat with
  | 0 => .high
  | 1 => .transit
  | _ => .low

def FumeClass.code : FumeClass → Byte
  | .none => 0
  | .mark => 1
  | .cutLow => 2
  | .cutHigh => 3

/-- R24: a class code PT cannot read is stored as CUT_HIGH. -/
def readFume (b : Byte) : FumeClass :=
  match b.toNat with
  | 0 => .none
  | 1 => .mark
  | 2 => .cutLow
  | _ => .cutHigh

def Release.code : Release → Byte
  | .idle => 0
  | .waiting => 1
  | .inFlight => 2
  | .broken => 3
  | .faulted => 4

/-- R24: a release summary code PT cannot read is stored as FAULTED. -/
def readRelease (b : Byte) : Release :=
  match b.toNat with
  | 0 => .idle
  | 1 => .waiting
  | 2 => .inFlight
  | 3 => .broken
  | _ => .faulted

def moveKindCode : MoveKind → Byte
  | .deliver => 0
  | .store => 1
  | .clear => 2

def readMoveKind (b : Byte) : Option MoveKind :=
  match b.toNat with
  | 0 => some .deliver
  | 1 => some .store
  | 2 => some .clear
  | _ => none

def CustodyRefusal.code : CustodyRefusal → Byte
  | .duplicate => 1
  | .retired => 2
  | .full => 3
  | .busy => 4
  | .notReservedHere => 5
  | .bedOccupied => 6
  | .late => 7
  | .notOffered => 8
  | .badRecord => 9

def readCustodyRefusal (b : Byte) : Option CustodyRefusal :=
  match b.toNat with
  | 1 => some .duplicate
  | 2 => some .retired
  | 3 => some .full
  | 4 => some .busy
  | 5 => some .notReservedHere
  | 6 => some .bedOccupied
  | 7 => some .late
  | 8 => some .notOffered
  | 9 => some .badRecord
  | _ => none

def ReserveResult.code : ReserveResult → Byte
  | .ok => 0
  | .gone => 1
  | .full => 2
  | .notHeard => 3

def readReserveResult (b : Byte) : Option ReserveResult :=
  match b.toNat with
  | 0 => some .ok
  | 1 => some .gone
  | 2 => some .full
  | 3 => some .notHeard
  | _ => none

/-- A two-valued code: the first named value 0, the second 1 (TAKEN, DECLINED; OK, LATE; CARRIED, NOT_CARRIED:
DEDUCED, log 45). -/
def readFlag (b : Byte) : Option Bool :=
  match b.toNat with
  | 0 => some false
  | 1 => some true
  | _ => none

def flagCode (b : Bool) : Byte := if b then 1 else 0

def Corner.code : Corner → Byte
  | .lowerLeft => 1
  | .lowerRight => 2
  | .upperLeft => 3
  | .upperRight => 4

/-! ### Fields of layouts (R181, R182) -/

def idBytes (i : StockId) : List Byte := BitVec.ofNat 8 i.origin :: leBytes 2 i.serial

/-- An absent ID is written as 0 (R181). -/
def optIdBytes : Option StockId → List Byte
  | some i => idBytes i
  | none => [0, 0, 0]

def readId (bs : List Byte) (i : Nat) : StockId := ⟨fieldNat bs i 1, fieldNat bs (i + 1) 2⟩

def readOptId (bs : List Byte) (i : Nat) : Option StockId :=
  let d := readId bs i
  if d = ⟨0, 0⟩ then none else some d

/-- An absent station is written as 0 (R181). -/
def readOptStation (n : Nat) : Option Nat := if n = 0 then none else some n

def optStationByte : Option Nat → Byte
  | some n => BitVec.ofNat 8 n
  | none => 0

/-- A notch takes 5 bytes: corner code, or 0 for none, length, width (12.1). -/
def notchBytes : Option Notch → List Byte
  | some n => n.corner.code :: (leBytes 2 n.length ++ leBytes 2 n.width)
  | none => [0, 0, 0, 0, 0]

/-- Reads a notch; the outer none is a notch byte that cannot be read. With the notch byte 0, the length and width
bytes are not looked at (DESIGN CHOICE, log 60). -/
def readNotch (bs : List Byte) (i : Nat) : Option (Option Notch) :=
  let l := fieldNat bs (i + 1) 2
  let w := fieldNat bs (i + 3) 2
  match fieldNat bs i 1 with
  | 0 => some none
  | 1 => some (some ⟨l, w, .lowerLeft⟩)
  | 2 => some (some ⟨l, w, .lowerRight⟩)
  | 3 => some (some ⟨l, w, .upperLeft⟩)
  | 4 => some (some ⟨l, w, .upperRight⟩)
  | _ => none

/-- A hall rectangle takes 12 bytes: xlo, xhi, ylo, yhi (R181). -/
def rectBytes (r : Rect) : List Byte :=
  leBytes 3 r.xlo.toNat ++ leBytes 3 r.xhi.toNat ++ leBytes 3 r.ylo.toNat ++ leBytes 3 r.yhi.toNat

def readRect (bs : List Byte) (i : Nat) : Rect :=
  ⟨fieldNat bs i 3, fieldNat bs (i + 3) 3, fieldNat bs (i + 6) 3, fieldNat bs (i + 9) 3⟩

/-! ### The carried stock record (12.1) -/

def pieceBytes (p : Piece) : List Byte :=
  idBytes p.id ++ [if p.kind = .plate then 0 else 1] ++ [BitVec.ofNat 8 p.grade] ++ leBytes 2 p.thickness
    ++ leBytes 2 p.length ++ leBytes 2 p.width ++ notchBytes p.notch ++ textField 10 p.heat
    ++ optIdBytes p.parent ++ [flagCode p.marked] ++ [optStationByte p.reservation]

/-- Reads a carried record; none where its kind, notch or MARKED code cannot be read (R182; log 21). -/
def readPiece (bs : List Byte) : Option Piece :=
  match readFlag (bs.getD 3 0), readNotch bs 11, readFlag (bs.getD 30 0) with
  | some kind, some notch, some marked =>
    some { id := readId bs 0
           kind := if kind then .remnant else .plate
           grade := fieldNat bs 4 1
           thickness := fieldNat bs 5 2
           length := fieldNat bs 7 2
           width := fieldNat bs 9 2
           notch := notch
           heat := readText 10 ((bs.drop 16).take 11)
           parent := readOptId bs 27
           marked := marked
           reservation := readOptStation (fieldNat bs 31 1) }
  | _, _, _ => none

def inRange (lo hi n : Nat) : Bool := decide (lo ≤ n) && decide (n ≤ hi)

/-- The ID ranges of R116 and R58. -/
def idOk (i : StockId) : Bool := inRange 1 62 i.origin && inRange 1 65535 i.serial

/-- The notch ranges of R58: 100..(length − 100) by 100..(width − 100). -/
def notchOk (length width : Nat) : Option Notch → Bool
  | some n => inRange 100 (length - 100) n.length && inRange 100 (width - 100) n.width
  | none => true

/-- Every field that travels but the reservation is in its range (R116). -/
def pieceOk (p : Piece) : Bool :=
  idOk p.id && inRange 0 63 p.grade && inRange 30 1500 p.thickness && inRange 200 24000 p.length
    && inRange 200 6000 p.width && notchOk p.length p.width p.notch
    && inRange 1 10 p.heat.length && p.heat.all inAlphabet && p.parent.all idOk

/-- The reservation is a station number where there is one (R116). -/
def reservationOk (p : Piece) : Bool := p.reservation.all (inRange 1 62)

/-! ### Messages (R182) -/

def Message.kind : Message → TelegramKind
  | .custodyOffer _ => .custodyOffer
  | .custodyAccept _ => .custodyAccept
  | .custodyRelease _ => .custodyRelease
  | .custodyRefuse _ _ => .custodyRefuse
  | .stockQuery _ _ => .stockQuery
  | .stockCandidate _ _ => .stockCandidate
  | .reserve _ _ _ => .reserve
  | .reserveReply _ _ _ => .reserveReply
  | .unreserve _ => .unreserve
  | .moveCall _ _ _ => .moveCall
  | .moveBid _ _ _ => .moveBid
  | .moveAward _ _ => .moveAward
  | .awardReply _ _ => .awardReply
  | .moveRevoke _ => .moveRevoke
  | .revokeReply _ _ => .revokeReply
  | .moveStarted _ => .moveStarted
  | .moveReturn _ => .moveReturn
  | .moveDone _ _ _ => .moveDone

/-- Kind, stock ID, stations with X values, and priority of a move (R182). -/
def moveBytes (m : MoveInfo) : List Byte :=
  [moveKindCode m.kind] ++ optIdBytes m.stock ++ [BitVec.ofNat 8 m.fromStation] ++ leBytes 3 m.fromX
    ++ [BitVec.ofNat 8 m.toStation] ++ leBytes 3 m.toX ++ [BitVec.ofNat 8 m.priority]

def readMove (bs : List Byte) (i : Nat) : Option MoveInfo :=
  (readMoveKind (bs.getD i 0)).map fun k =>
    { kind := k
      stock := readOptId bs (i + 1)
      fromStation := fieldNat bs (i + 4) 1
      fromX := fieldNat bs (i + 5) 3
      toStation := fieldNat bs (i + 8) 1
      toX := fieldNat bs (i + 9) 3
      priority := fieldNat bs (i + 12) 1 }

/-- The payload of a message (R182). -/
def Message.payload : Message → List Byte
  | .custodyOffer p => pieceBytes p
  | .custodyAccept i => idBytes i
  | .custodyRelease i => idBytes i
  | .custodyRefuse i r => idBytes i ++ [r.code]
  | .stockQuery n q =>
    [n, BitVec.ofNat 8 q.grade, BitVec.ofNat 8 q.mask] ++ leBytes 2 q.thickness ++ leBytes 2 q.minLength
      ++ leBytes 2 q.minWidth ++ [flagCode q.rotation]
  | .stockCandidate n c =>
    [n] ++ idBytes c.id ++ [BitVec.ofNat 8 c.slot, BitVec.ofNat 8 c.grade] ++ leBytes 2 c.thickness
      ++ leBytes 2 c.length ++ leBytes 2 c.width ++ notchBytes c.notch ++ textField 10 c.heat ++ leBytes 4 c.score
  | .reserve n i r => [n] ++ idBytes i ++ [BitVec.ofNat 8 r]
  | .reserveReply n i r => [n] ++ idBytes i ++ [r.code]
  | .unreserve i => idBytes i
  | .moveCall t c m => [t, BitVec.ofNat 8 c] ++ moveBytes m
  | .moveBid t c b => [t, BitVec.ofNat 8 c] ++ leBytes 3 b
  | .moveAward t m => [t] ++ moveBytes m
  | .awardReply t taken => [t, flagCode (!taken)]
  | .moveRevoke t => [t]
  | .revokeReply t late => [t, flagCode late]
  | .moveStarted t => [t]
  | .moveReturn t => [t]
  | .moveDone t carried taker => [t, flagCode (!carried), optStationByte taker]

/-- The message a payload of a kind carries; none where an enumerated code cannot be read (R182). The rack of a
candidate is the telegram's source. -/
def readMessage (k : TelegramKind) (source : Nat) (bs : List Byte) : Option Message :=
  let tag : Byte := bs.getD 0 0
  match k with
  | .custodyOffer => (readPiece bs).map .custodyOffer
  | .custodyAccept => some (.custodyAccept (readId bs 0))
  | .custodyRelease => some (.custodyRelease (readId bs 0))
  | .custodyRefuse => (readCustodyRefusal (bs.getD 3 0)).map (.custodyRefuse (readId bs 0))
  | .stockQuery =>
    (readFlag (bs.getD 9 0)).map fun rot =>
      .stockQuery tag ⟨fieldNat bs 1 1, fieldNat bs 2 1, fieldNat bs 3 2, fieldNat bs 5 2, fieldNat bs 7 2, rot⟩
  | .stockCandidate =>
    (readNotch bs 12).map fun notch =>
      .stockCandidate tag
        { rack := source
          id := readId bs 1
          slot := fieldNat bs 4 1
          grade := fieldNat bs 5 1
          thickness := fieldNat bs 6 2
          length := fieldNat bs 8 2
          width := fieldNat bs 10 2
          notch := notch
          heat := readText 10 ((bs.drop 17).take 11)
          score := fieldNat bs 28 4 }
  | .reserve => some (.reserve tag (readId bs 1) (fieldNat bs 4 1))
  | .reserveReply => (readReserveResult (bs.getD 4 0)).map (.reserveReply tag (readId bs 1))
  | .unreserve => some (.unreserve (readId bs 0))
  | .moveCall => (readMove bs 2).map (.moveCall tag (fieldNat bs 1 1))
  | .moveBid => some (.moveBid tag (fieldNat bs 1 1) (fieldNat bs 2 3))
  | .moveAward => (readMove bs 1).map (.moveAward tag)
  | .awardReply => (readFlag (bs.getD 1 0)).map fun d => .awardReply tag (!d)
  | .moveRevoke => some (.moveRevoke tag)
  | .revokeReply => (readFlag (bs.getD 1 0)).map (.revokeReply tag)
  | .moveStarted => some (.moveStarted tag)
  | .moveReturn => some (.moveReturn tag)
  | .moveDone => (readFlag (bs.getD 1 0)).map fun d => .moveDone tag (!d) (readOptStation (fieldNat bs 2 1))
  | .beaconCutter => none
  | .beaconCrane => none
  | .beaconRack => none

/-! ### Segment records (R56 to R58, R183) -/

/-- A table-coordinate window: 2 bytes a bound (R181, R183). -/
def readWindow (bs : List Byte) (i : Nat) : Rect :=
  ⟨fieldNat bs i 2, fieldNat bs (i + 2) 2, fieldNat bs (i + 4) 2, fieldNat bs (i + 6) 2⟩

/-- A part number field of 13 bytes; the outer none is out of range (R56, R183). -/
def readPart (bs : List Byte) (i : Nat) : Option (Option Text) :=
  let t := readText 12 ((bs.drop i).take 13)
  if t.length ≤ 12 && t.all inAlphabet then some (if t.isEmpty then none else some t) else none

def budgetOk (d : Nat) : Bool := inRange 1 600000 d

/-- R56. -/
def readCut (bs : List Byte) : Option SegContent :=
  let current := fieldNat bs 3 2
  let d := fieldNat bs 14 3
  match readPart bs 17 with
  | some part =>
    if bs.length = 30 ∧ inRange 20 400 current ∧ budgetOk d then
      some (.cut current ((bs.getD 5 0).getLsbD 0) (readWindow bs 6) d part)
    else none
  | none => none

/-- R56. -/
def readTravel (bs : List Byte) : Option SegContent :=
  let d := fieldNat bs 3 3
  if bs.length = 6 ∧ budgetOk d then some (.travel d) else none

/-- R57: the tool and its current; a current with INK is ignored. -/
def readTool (bs : List Byte) : Option Tool :=
  let current := fieldNat bs 4 1
  match fieldNat bs 3 1 with
  | 0 => if inRange 5 40 current then some (.arc current) else none
  | 1 => some .ink
  | _ => none

/-- R57: the target; a PART target's serial is not checked (R183). -/
def readTarget (bs : List Byte) : Option MarkTarget :=
  let serial := fieldNat bs 18 2
  match fieldNat bs 17 1 with
  | 0 => some .part
  | 1 => if 1 ≤ serial then some (.remnant serial) else none
  | _ => none

/-- R57. -/
def readMark (bs : List Byte) : Option SegContent :=
  let d := fieldNat bs 13 3
  let template := fieldNat bs 16 1
  match readTool bs, readTarget bs, readPart bs 20 with
  | some tool, some target, some part =>
    if bs.length = 33 ∧ budgetOk d ∧ template ≤ 7 then
      some (.mark tool (readWindow bs 5) d template target part)
    else none
  | _, _, _ => none

/-- R58. -/
def readRepeat (bs : List Byte) : Option SegContent :=
  let dx := fieldInt bs 4 2
  let dy := fieldInt bs 6 2
  if bs.length = 8 ∧ -20000 ≤ dx ∧ dx ≤ 20000 ∧ -20000 ≤ dy ∧ dy ≤ 20000 then
    some (.repeats (fieldNat bs 3 1) dx dy)
  else none

/-- R58. -/
def readNestStart (bs : List Byte) : Option SegContent :=
  let i := readId bs 3
  if bs.length = 6 ∧ idOk i then some (.nestStart i) else none

/-- R58. -/
def readRemnant (bs : List Byte) : Option SegContent :=
  let serial := fieldNat bs 3 2
  let l := fieldNat bs 5 2
  let w := fieldNat bs 7 2
  match readNotch bs 9 with
  | some notch =>
    if bs.length = 14 ∧ 1 ≤ serial ∧ inRange 200 24000 l ∧ inRange 200 6000 w ∧ notchOk l w notch then
      some (.remnant serial l w notch)
    else none
  | none => none

/-- The seven kind codes of a segment record (R183). -/
def segKindKnown (k : Byte) : Bool := inRange 1 7 k.toNat

/-- The content of a segment record payload; none is FIELD_RANGE, or a kind that is none of the seven (R61). -/
def readSegment (bs : List Byte) : Option SegContent :=
  match fieldNat bs 0 1 with
  | 1 => readCut bs
  | 2 => readTravel bs
  | 3 => readMark bs
  | 4 => readRepeat bs
  | 5 => readNestStart bs
  | 6 => if bs.length = 3 then some .nestEnd else none
  | 7 => readRemnant bs
  | _ => none

end Sys2Proof.Machine
end

