-- ==== Sys2Proof/Machine/Geometry.lean ====
section
/-! DEFINITION. Hall geometry and the intrusion test of chapter 1, as computations on numbers. -/

namespace Sys2Proof.Machine

/-! ### Rectangles (00_scope.md 0.5) -/

def clampInt (lo hi n : Int) : Int := max lo (min hi n)

/-- Two rectangles overlap when their intervals overlap on both axes, ends included (R8). -/
def Rect.overlaps (a b : Rect) : Bool :=
  decide (a.xlo ≤ b.xhi) && decide (b.xlo ≤ a.xhi) && decide (a.ylo ≤ b.yhi) && decide (b.ylo ≤ a.yhi)

def Rect.shift (r : Rect) (dx dy : Int) : Rect := ⟨r.xlo + dx, r.xhi + dx, r.ylo + dy, r.yhi + dy⟩

def Rect.widen (r : Rect) (m : Int) : Rect := ⟨r.xlo - m, r.xhi + m, r.ylo - m, r.yhi + m⟩

/-- The smallest rectangle that contains both. -/
def Rect.join (a b : Rect) : Rect := ⟨min a.xlo b.xlo, max a.xhi b.xhi, min a.ylo b.ylo, max a.yhi b.yhi⟩

/-- Each bound held within the hall (R8). -/
def Rect.toHall (p : Params) (r : Rect) : Rect :=
  ⟨clampInt 0 p.xmax r.xlo, clampInt 0 p.xmax r.xhi, clampInt 0 p.ymax r.ylo, clampInt 0 p.ymax r.yhi⟩

def Rect.centreX (r : Rect) : Int := (r.xlo + r.xhi) / 2
def Rect.centreY (r : Rect) : Int := (r.ylo + r.yhi) / 2

/-- A cutter's own bed in hall coordinates (R1). -/
def Params.bedRect (p : Params) : Rect := ⟨p.bedX, p.bedX + p.bedLength, p.bedY, p.bedY + p.bedWidth⟩

/-- A window in table coordinates turned into hall coordinates (R2). -/
def Params.toHallWindow (p : Params) (w : Rect) : Rect := w.shift p.bedX p.bedY

/-- A table window lies within the bed (R61, R69). -/
def Params.inBed (p : Params) (w : Rect) : Bool :=
  decide (0 ≤ w.xlo) && decide (w.xhi ≤ p.bedLength) && decide (0 ≤ w.ylo) && decide (w.yhi ≤ p.bedWidth)

/-! ### Classes and margins (R3, R4) -/

def FumeClass.rank : FumeClass → Nat
  | .none => 0
  | .mark => 1
  | .cutLow => 2
  | .cutHigh => 3

/-- The higher of two classes (chapter 1.2). -/
def FumeClass.higher (a b : FumeClass) : FumeClass := if a.rank ≤ b.rank then b else a

/-- The margins of a class; NONE has no window under test (R3), so its margins are not used. -/
def Params.margins (p : Params) : FumeClass → Margins
  | .none => ⟨0, 0⟩
  | .mark => p.marginMark
  | .cutLow => p.marginLow
  | .cutHigh => p.marginHigh

/-- The fume class of a record's copies (R3). -/
def SegContent.fume : SegContent → FumeClass
  | .cut current _ _ _ _ => if current ≤ 130 then .cutLow else .cutHigh
  | .mark (.arc _) _ _ _ _ _ => .mark
  | .mark .ink _ _ _ _ _ => .none
  | .travel _ => .none
  | .repeats _ _ _ => .none
  | .nestStart _ => .none
  | .nestEnd => .none
  | .remnant _ _ _ _ => .none

/-- An arc copy burns with the plasma arc: a CUT, or a MARK with the ARC tool (00_scope.md 0.6). -/
def SegContent.isArc (c : SegContent) : Bool := decide (c.fume ≠ .none)

/-- The window of a CUT or MARK record (R56, R57). -/
def SegContent.window : SegContent → Option Rect
  | .cut _ _ w _ _ => some w
  | .mark _ w _ _ _ _ => some w
  | .travel _ => none
  | .repeats _ _ _ => none
  | .nestStart _ => none
  | .nestEnd => none
  | .remnant _ _ _ _ => none

/-! ### Ages and reaches (R6, R7) -/

/-- The receipt age of an entry: 65,535 while the age-held flag is set (R6, R31). -/
def PeerEntry.receiptAge (e : PeerEntry) (now : Count) : Nat :=
  if e.ageHeld then 65535 else ageOf now e.received

/-- The age of a crane entry at an evaluation (R6). -/
def PeerEntry.age (e : PeerEntry) (now : Count) : Nat := min (e.receiptAge now + e.reportAge) 65535

/-- The velocity cap Vcap (R4). -/
def vcap : Nat := 5000

/-- The distance covered at speed `v` in `t` milliseconds, rounded up and capped (R7). -/
def reach (v t cap : Nat) : Nat := min ((v * t + 999) / 1000) cap

/-! ### The envelope of a crane entry (R8, R10, R11) -/

/-- The reported footprint, before clamping (R8). -/
def CraneData.footprint (d : CraneData) : Rect :=
  ⟨(d.x : Int) - d.hx, (d.x : Int) + d.hx, (d.y : Int) - d.hy, (d.y : Int) + d.hy⟩

/-- The FRESH envelope with margin m at age a (R8). -/
def freshEnvelope (p : Params) (d : CraneData) (a m : Nat) : Rect :=
  let dx : Int := reach d.vx.natAbs (a + p.lookCut) p.xmax
  let dy : Int := reach d.vy.natAbs (a + p.lookCut) p.ymax
  Rect.toHall p
    { xlo := (d.x : Int) - d.hx - m - (if d.vx < 0 then dx else 0)
      xhi := (d.x : Int) + d.hx + m + (if 0 < d.vx then dx else 0)
      ylo := (d.y : Int) - d.hy - m - (if d.vy < 0 then dy else 0)
      yhi := (d.y : Int) + d.hy + m + (if 0 < d.vy then dy else 0) }

/-- The STALE envelope: Vcap on both sides of both axes (R10). -/
def staleEnvelope (p : Params) (d : CraneData) (a m : Nat) : Rect :=
  let dx : Int := reach vcap (a + p.lookCut) p.xmax
  let dy : Int := reach vcap (a + p.lookCut) p.ymax
  Rect.toHall p
    { xlo := (d.x : Int) - d.hx - m - dx
      xhi := (d.x : Int) + d.hx + m + dx
      ylo := (d.y : Int) - d.hy - m - dy
      yhi := (d.y : Int) + d.hy + m + dy }

/-- The LOST envelope of a pinned crane: its runway by the hall width, joined with its last footprint clipped to the
hall if it has been heard (R11). -/
def lostEnvelope (p : Params) (d : CraneData) (heard : Bool) : Rect :=
  let runway : Rect := ⟨d.span.lo, d.span.hi, 0, p.ymax⟩
  if heard then runway.join (Rect.toHall p d.footprint) else runway

/-- The result of the two envelopes of one report (R9, R10). -/
def twoMargins (p : Params) (envelope : Nat → Rect) (w : Rect) (c : FumeClass) : Intrusion :=
  if (envelope (p.margins c).cutoff).overlaps w then .cutoff
  else if (envelope (p.margins c).hold).overlaps w then .hold
  else .clear

/-- The result of one crane entry against the window `w` of class `c` (R9, R10, R11). -/
def craneResult (p : Params) (now : Count) (e : PeerEntry) (d : CraneData) (w : Rect) (c : FumeClass) : Intrusion :=
  match e.state with
  | .fresh =>
    if d.load = .empty ∧ d.hook = .high then .clear
    else twoMargins p (freshEnvelope p d (e.age now)) w c
  | .stale => twoMargins p (staleEnvelope p d (e.age now)) w c
  | .lost => if (lostEnvelope p d e.heard).overlaps w then .cutoff else .clear

def Intrusion.rank : Intrusion → Nat
  | .clear => 0
  | .hold => 1
  | .cutoff => 2

/-- The higher of two results, CLEAR < HOLD < CUTOFF (R12). -/
def Intrusion.worse (a b : Intrusion) : Intrusion := if a.rank ≤ b.rank then b else a

/-! ### The crane's own tests (R15 to R19) -/

/-- The age of the own position record (R15). -/
def OwnPosition.age (o : OwnPosition) (now : Count) : Nat := ageOf now o.receipt

/-- The own record is stale: never received, or older than the own-position stale time (R15). -/
def OwnPosition.isStale (o : OwnPosition) (p : Params) (now : Count) : Bool :=
  !o.received || decide (p.ownStale < o.age now)

/-- The window and class a cutter entry supplies to a crane, or none (R16). -/
def PeerEntry.craneWindow (e : PeerEntry) : Option (Rect × FumeClass) :=
  match e.data with
  | .cutter d =>
    match e.state with
    | .fresh =>
      match d.window with
      | some w => if d.fume = .none then none else some (w, d.fume)
      | none => none
    | .stale => some (d.bed, .cutHigh)
    | .lost => some (d.bed, .cutHigh)
  | .crane _ => none
  | .rack _ => none

/-- The own footprint, before clamping (R17). -/
def OwnPosition.footprint (o : OwnPosition) : Rect :=
  ⟨(o.x : Int) - o.hx, (o.x : Int) + o.hx, (o.y : Int) - o.hy, (o.y : Int) + o.hy⟩

/-- The crane's reach Rc (R17). -/
def Params.craneReach (p : Params) : Nat := 5 * p.lookCrane

/-- The four probes: the footprint widened by Mh(c) and extended by Rc on one side (R17). -/
def probeXP (p : Params) (o : OwnPosition) (c : FumeClass) : Rect :=
  let r := o.footprint.widen (p.margins c).hold
  Rect.toHall p { r with xhi := r.xhi + p.craneReach }
def probeXN (p : Params) (o : OwnPosition) (c : FumeClass) : Rect :=
  let r := o.footprint.widen (p.margins c).hold
  Rect.toHall p { r with xlo := r.xlo - p.craneReach }
def probeYP (p : Params) (o : OwnPosition) (c : FumeClass) : Rect :=
  let r := o.footprint.widen (p.margins c).hold
  Rect.toHall p { r with yhi := r.yhi + p.craneReach }
def probeYN (p : Params) (o : OwnPosition) (c : FumeClass) : Rect :=
  let r := o.footprint.widen (p.margins c).hold
  Rect.toHall p { r with ylo := r.ylo - p.craneReach }

/-- The footprint widened by Mc(c), for the lower test (R19). -/
def lowerRect (p : Params) (o : OwnPosition) (c : FumeClass) : Rect :=
  Rect.toHall p (o.footprint.widen (p.margins c).cutoff)

/-- The five results of a crane against the cutter windows (R18, R19). -/
def cranePermits (p : Params) (now : Count) (o : OwnPosition) (ws : List (Rect × FumeClass)) : Permits :=
  if o.isStale p now then .withdrawn
  else
    let exempt : Bool := decide (o.load = .empty) && decide (o.hook = .high)
    { xp := exempt || !ws.any (fun w => (probeXP p o w.2).overlaps w.1 && decide ((o.x : Int) < w.1.centreX))
      xn := exempt || !ws.any (fun w => (probeXN p o w.2).overlaps w.1 && decide (w.1.centreX < o.x))
      yp := exempt || !ws.any (fun w => (probeYP p o w.2).overlaps w.1 && decide ((o.y : Int) < w.1.centreY))
      yn := exempt || !ws.any (fun w => (probeYN p o w.2).overlaps w.1 && decide (w.1.centreY < o.y))
      lower := !ws.any (fun w => (lowerRect p o w.2).overlaps w.1) }

end Sys2Proof.Machine
end

