-- ==== Sys2Proof/Machine/Flags.lean ====
section
/-! DEFINITION. Levels and conditions computed from the state: the NOTICE line, the port status byte, slot occupancy
and locks, the release conditions (R80, R81) and the hold reasons (R82). -/

namespace Sys2Proof.Machine

/-! ### Port (R168, R170, R183) -/

/-- The NOTICE line is asserted while the notice queue holds a notice (R170). -/
def State.noticeLine (s : State) : Bool := !s.sp.notices.isEmpty

def LoadStatus.code : LoadStatus → Nat
  | .loading => 0
  | .loaded => 1
  | .configFault => 2

def modeCode : Mode → Nat
  | .offline => 0
  | .ready => 1
  | .run => 2

/-- The port status byte (R183). -/
def State.statusByte (s : State) : Byte :=
  BitVec.ofNat 8 (s.cfg.load.code + 4 * min s.sp.buffer.length 4 + (if s.noticeLine then 32 else 0)
    + 64 * modeCode s.sp.mode)

/-- Whether a leave of RUN is pending (R171, R173). -/
def State.leavePending (s : State) : Bool := s.rc.stopPending || s.mu.leavePending

/-! ### Stock table and slot map (R117, R137) -/

/-- The position of the record with an ID (R117). -/
def Stock.find (t : Stock) (i : StockId) : Option Nat := findPos (fun r => decide (r.piece.id = i)) t.records

/-- The record with an ID. -/
def Stock.record (t : Stock) (i : StockId) : Option StockRecord := (t.find i).bind (entryAt t.records)

/-- The record at a slot (R117). -/
def Stock.atSlot (t : Stock) (n : Nat) : Option StockRecord :=
  (entriesOf t.records).find? (fun r => decide (r.location = .slot n))

/-- A slot is locked while either lock is set (R137). -/
def State.slotLocked (s : State) (n : Nat) : Bool :=
  s.cfg.params.configLocks.contains n || s.st.runtimeLocks.contains n

/-- The slots of the map (R137). -/
def State.slots (s : State) : List Nat := (List.range s.cfg.params.slotCount).map (· + 1)

/-- The free slot count of the rack beacon (R117): a locked FREE slot counts as free (R137). -/
def State.freeSlots (s : State) : Nat := (s.slots.filter (fun n => (s.st.atSlot n).isNone)).length

/-- The record whose location is BED, through the bed pointer (R117). -/
def State.bedRecord (s : State) : Option StockRecord := s.st.bed.bind (entryAt s.st.records)

/-! ### Release conditions and hold reasons (R80 to R82) -/

/-- The kind of a record's copies. -/
def SegContent.kind : SegContent → CopyKind
  | .cut _ _ _ _ _ => .cut
  | .travel _ => .travel
  | .mark _ _ _ _ _ _ => .mark
  | .repeats _ _ _ => .repeats
  | .nestStart _ => .nestStart
  | .nestEnd => .nestEnd
  | .remnant _ _ _ _ => .remnant

/-- A CUT with the pierce flag set, or any resume of a broken CUT (R80). -/
def SegContent.pierceBearing (c : SegContent) (again : Bool) : Bool :=
  match c with
  | .cut _ pierce _ _ _ => pierce || again
  | .travel _ => false
  | .mark _ _ _ _ _ _ => false
  | .repeats _ _ _ => false
  | .nestStart _ => false
  | .nestEnd => false
  | .remnant _ _ _ _ => false

/-- The copy that waits to go, and whether it goes again after a break (R82). -/
def Rc.waiting (r : Rc) : Option (Copy × Bool) :=
  match r.release with
  | .waiting => r.head.map (fun c => (c, false))
  | .broken => r.current.map (fun c => (c.copy, true))
  | .idle => none
  | .inFlight => none
  | .faulted => none

/-- The resume delay has passed since the last non-clear time (R80, condition 5). -/
def State.delayPassed (s : State) : Bool :=
  match s.rc.lastNonclear with
  | none => true
  | some t => decide (s.cfg.params.resumeDelay ≤ ageOf s.time t)

/-- Conditions 2 to 7 of R80 for an arc copy; 2 and 3 for one that does not burn (R81). -/
def State.mayRelease (s : State) (c : SegContent) (again : Bool) : Bool :=
  decide (s.sp.mode = .run) && !s.rc.stopPending && !s.lu.estop
    && (!c.isArc ||
      (decide (s.flc.link = .normal) && decide (s.env.station = .clear) && s.delayPassed
        && decide (s.rc.arcMs < s.cfg.params.arcLimit * 1000)
        && (!c.pierceBearing again || (s.rc.wearKnown && decide (s.rc.pierces < s.cfg.params.pierceLimit)))))

/-- The hold reasons of a copy (R82). -/
def State.reasonsFor (s : State) (c : SegContent) (again : Bool) : List HoldReason :=
  (if s.sp.mode ≠ .run ∨ s.rc.stopPending then [.notRun] else [])
  ++ (if s.lu.estop then [.estop] else [])
  ++ (if c.isArc ∧ s.flc.link ≠ .normal then [.isolated] else [])
  ++ (if c.isArc ∧ s.env.station ≠ .clear then [.intrusion] else [])
  ++ (if c.isArc ∧ s.env.station = .clear ∧ ¬ s.delayPassed then [.resumeDelay] else [])
  ++ (if c.isArc ∧ s.cfg.params.arcLimit * 1000 ≤ s.rc.arcMs then [.wearArc] else [])
  ++ (if c.pierceBearing again ∧ ¬ s.rc.wearKnown then [.wearUnknown] else [])
  ++ (if c.pierceBearing again ∧ s.rc.wearKnown ∧ s.cfg.params.pierceLimit ≤ s.rc.pierces then [.wearPierce] else [])

/-- The set of hold reasons RC keeps (R82); empty in IDLE, IN_FLIGHT and FAULTED. -/
def State.holdReasons (s : State) : List HoldReason :=
  match s.rc.waiting with
  | some (c, again) => s.reasonsFor c.content again
  | none => []

end Sys2Proof.Machine
end

