-- ==== Sys2Proof/Machine/Link.lean ====
section
/-! DEFINITION. The floor link controller's shared operations (chapter 3): offering telegrams, placing and forming
beacons, urgent beacons, isolation. -/

namespace Sys2Proof.Machine

/-! ### Class queues (R42) -/

def Flc.queueOf (f : Flc) : TxClass → List Queued
  | .urgent => f.class0
  | .custody => f.class1
  | .search => f.class2
  | .periodic => f.class3

def Flc.setQueue (f : Flc) (c : TxClass) (q : List Queued) : Flc :=
  match c with
  | .urgent => { f with class0 := q }
  | .custody => { f with class1 := q }
  | .search => { f with class2 := q }
  | .periodic => { f with class3 := q }

/-- Custody kinds go in class 1, search and move kinds in class 2 (R42). -/
def Message.txClass : Message → TxClass
  | .custodyOffer _ => .custody
  | .custodyAccept _ => .custody
  | .custodyRelease _ => .custody
  | .custodyRefuse _ _ => .custody
  | .stockQuery _ _ => .search
  | .stockCandidate _ _ => .search
  | .reserve _ _ _ => .search
  | .reserveReply _ _ _ => .search
  | .unreserve _ => .search
  | .moveCall _ _ _ => .search
  | .moveBid _ _ _ => .search
  | .moveAward _ _ => .search
  | .awardReply _ _ => .search
  | .moveRevoke _ => .search
  | .revokeReply _ _ => .search
  | .moveStarted _ => .search
  | .moveReturn _ => .search
  | .moveDone _ _ _ => .search

/-- A destination the link takes a message for (R42): not the part's own station number, and in 1..62 or 65..80, or
0 for a STOCK_QUERY or a MOVE_CALL. -/
def goodDestination (own dest : Nat) (m : Message) : Bool :=
  decide (dest ≠ own)
    && (inRange 1 62 dest || inRange 65 80 dest
      || (dest == 0 && (decide (m.kind = .stockQuery) || decide (m.kind = .moveCall))))

/-- Offers a message (R42). The Bool is true when the link refuses it: the offering block handles that as a send
failure. -/
def offer (dest : Nat) (m : Message) (s : State) : State × Bool :=
  let f := s.flc
  match f.link with
  | .isolated _ =>
    ({ s with flc := { f with counts := { f.counts with isolationDiscards := bump f.counts.isolationDiscards } } },
      false)
  | .normal =>
    if !goodDestination s.cfg.params.station dest m then (s, true)
    else if 8 ≤ (f.queueOf m.txClass).length then
      ({ s with flc := { f with counts := { f.counts with refused := bump f.counts.refused } } }, true)
    else
      ({ s with flc := f.setQueue m.txClass (f.queueOf m.txClass ++ [⟨dest, .message m, 0, none⟩]) }, false)

/-! ### Beacons (R44, R51 to R53) -/

/-- The entries of a class queue on the line in an attempt: its front while the attempt is that class's. -/
def Flc.onLine (f : Flc) (c : TxClass) : Nat :=
  match f.attempt with
  | some a => if a.source = .queue c then 1 else 0
  | none => 0

/-- A beacon joins its class by supersession (R44). -/
def placeBeacon (c : TxClass) (f : Flc) : Flc :=
  let q := f.queueOf c
  let new : Queued := ⟨0, .beacon, 0, none⟩
  match q.drop (f.onLine c) with
  | [] => f.setQueue c (q ++ [new])
  | _ :: rest =>
    { f.setQueue c (q.take (f.onLine c) ++ new :: rest) with
      counts := { f.counts with superseded := bump f.counts.superseded } }

/-- The part announces itself: mode READY or RUN, link NORMAL, loaded (R51, R52). -/
def State.announces (s : State) : Bool :=
  s.isLoaded && decide (s.sp.mode ≠ .offline) && decide (s.flc.link = .normal)

/-- A change calls for an urgent beacon (R52). -/
def callUrgent (s : State) : State :=
  if s.announces then
    match s.flc.spacingTimer with
    | none => { s with flc := { placeBeacon .urgent s.flc with spacingTimer := s.timer 20 } }
    | some _ => { s with flc := { s.flc with urgentPending := true } }
  else s

/-- A crane's beacon is withheld: its own record is stale or older than 255 ms (R53). -/
def State.beaconWithheld (s : State) : Bool :=
  decide (s.role = .crane)
    && (s.env.own.isStale s.cfg.params s.time || decide (255 < s.env.own.age s.time))

def beaconKind : Role → TelegramKind
  | .cutter => .beaconCutter
  | .crane => .beaconCrane
  | .rack => .beaconRack

/-- The payload of the part's own beacon, from the owners' state as it stands (R53, R182). -/
def State.beaconPayload (s : State) : List Byte :=
  match s.role with
  | .cutter =>
    [0] ++ rectBytes s.cfg.params.bedRect
      ++ (match s.rc.live.window with
          | some w => [1] ++ rectBytes w
          | none => [0] ++ List.replicate 12 0)
      ++ [s.rc.live.fume.code, flagCode s.lu.arcPermit, s.rc.release.code]
  | .crane =>
    let o := s.env.own
    [BitVec.ofNat 8 (o.age s.time)] ++ leBytes 3 o.x ++ leBytes 3 o.y ++ leInt 2 o.vx ++ leInt 2 o.vy
      ++ leBytes 2 o.hx ++ leBytes 2 o.hy ++ [o.load.code, o.hook.code]
  | .rack =>
    [0] ++ leBytes 3 s.cfg.params.anchorX ++ leBytes 3 s.cfg.params.anchorY ++ [BitVec.ofNat 8 s.freeSlots]

/-- The characters of a telegram, in the order sent (R38). -/
def telegramCharacters (dest source : Nat) (kind seq : Byte) (payload : List Byte) : List Byte :=
  let body := [BitVec.ofNat 8 dest, BitVec.ofNat 8 source, kind, seq, BitVec.ofNat 8 payload.length] ++ payload
  body ++ crcBytes (crc16 body)

/-- The characters of the part's own beacon with a sequence. -/
def State.beaconCharacters (s : State) (seq : Byte) : List Byte :=
  telegramCharacters 0 s.cfg.params.station (beaconKind s.role).code seq s.beaconPayload

/-- The kind of a queued telegram, for LINK_DROP (R46). -/
def Queued.kind (q : Queued) (role : Role) : TelegramKind :=
  match q.body with
  | .beacon => beaconKind role
  | .message m => m.kind

/-- The lowest-numbered class queue that is not empty (R43). -/
def Flc.firstClass (f : Flc) : Option TxClass :=
  if f.class0 ≠ [] then some .urgent
  else if f.class1 ≠ [] then some .custody
  else if f.class2 ≠ [] then some .search
  else if f.class3 ≠ [] then some .periodic
  else none

/-! ### The crane's move queue, as isolation acts on it (R160, R165) -/

/-- What MOVE_NEXT reports of the head (R160). -/
def headReport (q : List QueuedMove) : Option (Nat × Byte × MoveInfo) :=
  q.head?.map (fun m => (m.requester, m.tag, m.info))

/-- The identity of the head. -/
def headKey (q : List QueuedMove) : Option (Nat × Byte) := q.head?.map (fun m => (m.requester, m.tag))

/-- Replaces the crane's queue; MOVE_NEXT is raised when the head changes (R160). -/
def setMoveQueue (q : List QueuedMove) (s : State) : State :=
  let t := { s with mu := { s.mu with queue := q } }
  if headKey q = headKey s.mu.queue then t else raise (.moveNext (headReport q)) t

/-- On isolation a crane removes every queued move that is not started (R165). -/
def dropUnstarted (s : State) : State :=
  let kept := s.mu.queue.filter (fun m => m.started)
  let n := s.mu.queue.length - kept.length
  let s := { s with mu := { s.mu with counts :=
    { s.mu.counts with movesDropped := bumpBy n s.mu.counts.movesDropped } } }
  let s := if 1 ≤ n then raise (.movesDropped n) s else s
  setMoveQueue kept s

/-! ### Isolation (R48 to R50) -/

/-- The telegrams in the four class queues. -/
def Flc.queuedCount (f : Flc) : Nat :=
  f.class0.length + f.class1.length + f.class2.length + f.class3.length

/-- The link controller's part of an entry into ISOLATED (R48). -/
def Flc.isolate (f : Flc) (cause : IsolationCause) (now : Count) : Flc :=
  { f with
    link := .isolated cause
    class0 := []
    class1 := []
    class2 := []
    class3 := []
    attempt := none
    backoff := none
    probePending := false
    collisionRun := 0
    probeTimer := some ⟨now, 1000⟩
    counts := { f.counts with
      isolationDiscards := bumpBy f.queuedCount f.counts.isolationDiscards
      isolations := bump f.counts.isolations } }

/-- An entry into ISOLATED with a cause (R48): LINK_ISOLATED, then in a crane the unstarted moves are dropped
(R165). The release controller's hold reason follows from the link state (R82). -/
def isolate (cause : IsolationCause) (s : State) : State :=
  let s := raise (.linkIsolated cause) { s with flc := s.flc.isolate cause s.time }
  if s.role = .crane then dropUnstarted s else s

/-- A telegram with the part's own source number, not its own echo (R50). -/
def duplicate (s : State) : State :=
  match s.flc.link with
  | .normal => isolate .duplicate s
  | .isolated .duplicate =>
    { s with flc := { s.flc with counts := { s.flc.counts with isolations := bump s.flc.counts.isolations } } }
  | .isolated _ =>
    raise (.linkIsolated .duplicate)
      { s with flc := { s.flc with
          link := .isolated .duplicate
          counts := { s.flc.counts with isolations := bump s.flc.counts.isolations } } }

end Sys2Proof.Machine
end

