-- ==== Sys2Proof/Machine/Compose.lean ====
section
/-! DEFINITION. The legend composer (chapter 6): rendering, the overflow rule, and the mark log. -/

namespace Sys2Proof.Machine

/-! ### Rendering (R107, R108) -/

/-- The character of a decimal digit. -/
def digit (n : Nat) : Byte := BitVec.ofNat 8 (48 + n % 10)

/-- `k` digits with leading zeros. -/
def fixedDigits : Nat → Nat → Text
  | 0, _ => []
  | k + 1, n => fixedDigits k (n / 10) ++ [digit n]

/-- Whole millimetres without leading zeros (R107). -/
def decimal (n : Nat) : Text :=
  match (fixedDigits 9 n).dropWhile (fun b => b == 0x30#8) with
  | [] => [0x30#8]
  | t => t

/-- `SS-NNNNN` (00_scope.md 0.5). -/
def idText (i : StockId) : Text := fixedDigits 2 i.origin ++ [0x2D#8] ++ fixedDigits 5 i.serial

/-- The thickness in millimetres with its tenths digit (R107). -/
def thickText (n : Nat) : Text := decimal (n / 10) ++ [0x2E#8, digit n]

/-- The part number, or the default prefix with the record's sequence in five digits (R108). -/
def partText (p : Params) (part : Option Text) (seq : Seq) : Text :=
  match part with
  | some t => t
  | none => p.partPrefix ++ fixedDigits 5 seq.toNat

/-- Renders a field from the source record, the MARK record and the part's own identity (R107). -/
def renderField (p : Params) (source : Piece) (part : Option Text) (seq : Seq) : LegendField → Text
  | .part => partText p part seq
  | .heat => source.heat
  | .grade => 0x47#8 :: fixedDigits 2 source.grade
  | .thick => thickText source.thickness
  | .stockId => idText source.id
  | .dims => decimal source.length ++ [0x58#8] ++ decimal source.width
  | .station => fixedDigits 2 p.station

/-- A rendered item: whether it is a literal, and its characters. -/
def renderItem (p : Params) (source : Piece) (part : Option Text) (seq : Seq) : TemplateItem → Bool × Text
  | .literal t => (true, t)
  | .field f => (false, renderField p source part seq f)

/-! ### The overflow rule (R109) -/

/-- Rendered items joined with nothing between them (R105). -/
def joinItems (items : List (Bool × Text)) : Text := items.flatMap (fun i => i.2)

/-- Drops the last literal in template order. -/
def dropLastLiteral (items : List (Bool × Text)) : List (Bool × Text) :=
  (items.reverse.eraseP (fun i => i.1)).reverse

/-- Drops literals from the last until the legend is 40 characters or fewer; none is LEGEND_LONG (R109). -/
def fitLegend : Nat → Nat → List (Bool × Text) → Option Legend
  | fuel, dropped, items =>
    if (joinItems items).length ≤ 40 then some ⟨joinItems items, dropped⟩
    else
      match fuel with
      | 0 => none
      | n + 1 => if items.any (fun i => i.1) then fitLegend n (dropped + 1) (dropLastLiteral items) else none

/-! ### Composing (R105, R106) -/

/-- The source record of a mark's target (R106). -/
def State.markSource (s : State) : MarkTarget → Option Piece
  | .part => s.bedRecord.map (fun r => r.piece)
  | .remnant serial =>
    match s.st.record ⟨s.cfg.params.station, serial⟩ with
    | some r => if r.piece.kind = .remnant ∧ r.location = .table then some r.piece else none
    | none => none

/-- Composes the legend of a MARK copy, or names the fault (R105). -/
def compose (s : State) (seq : Seq) (template : Nat) (target : MarkTarget) (part : Option Text) :
    Except FaultReason Legend :=
  match s.markSource target with
  | none => .error .noSourceRecord
  | some source =>
    let items := (s.cfg.params.templates.getD template defaultTemplate).map (renderItem s.cfg.params source part seq)
    match fitLegend items.length 0 items with
    | some l => .ok l
    | none => .error .legendLong

/-! ### The mark log (R111 to R113) -/

def Tool.isInk : Tool → Bool
  | .arc _ => false
  | .ink => true

/-- Sets the MARKED flag of a record of this station, if it is in the table (R113). -/
def Stock.setMarked (t : Stock) (i : StockId) : Stock :=
  match t.find i with
  | some n => { t with records := modifyAt t.records n (fun r => { r with piece := { r.piece with marked := true } }) }
  | none => t

/-- Writes a log entry: the mark number counter advances and the ring keeps the 32 newest (R111). -/
def Composer.write (l : Composer) (seq : Seq) (k : Nat) (tool : Tool) (target : MarkTarget) (g : Legend)
    (o : MarkOutcome) : Composer :=
  let n := l.markNumber + 1
  { markNumber := n
    log := (⟨n, seq, k, tool.isInk, target, g.text.length, g.dropped, o⟩ :: l.log).take 32 }

/-- The end of a MARK copy's attempt writes its entry, and a DONE entry marks its remnant (R112, R113). Another copy
writes nothing. -/
def logMark (c : Current) (o : MarkOutcome) (s : State) : State :=
  match c.copy.content, c.legend with
  | .mark tool _ _ _ target _, some g =>
    let s := { s with lc := s.lc.write c.copy.seq c.copy.k tool target g o }
    match o, target with
    | .done, .remnant serial => { s with st := s.st.setMarked ⟨s.cfg.params.station, serial⟩ }
    | .done, .part => s
    | .broken, _ => s
    | .aborted, _ => s
  | _, _ => s

end Sys2Proof.Machine
end

