-- ==== Sys2Proof/Machine/StockOps.lean ====
section
/-! DEFINITION. Shared operations of the stock table (chapter 7): entering, removing and retiring records, the nest
effects of R119 and R120, and making an offer (R123). -/

namespace Sys2Proof.Machine

/-- A record enters the lowest-numbered empty position; a BED record sets the bed pointer (R117). -/
def Stock.enter (t : Stock) (r : StockRecord) : Stock :=
  match lowestEmpty t.records with
  | some n => { t with
      records := t.records.set n (some r)
      bed := if r.location = .bed then some n else t.bed }
  | none => t

/-- A record is removed; the bed pointer is cleared with the bed record (R117). -/
def Stock.remove (t : Stock) (n : Nat) : Stock :=
  { t with records := t.records.set n none, bed := if t.bed = some n then none else t.bed }

/-- All 96 positions are filled (R117). -/
def Stock.isFull (t : Stock) : Bool := (lowestEmpty t.records).isNone

/-- An ID joins the newest end of the retired list, which keeps 64 (R120). -/
def Stock.retire (t : Stock) (i : StockId) : Stock := { t with retired := (i :: t.retired).take 64 }

/-- Changes the record at a position. -/
def Stock.update (t : Stock) (n : Nat) (f : StockRecord → StockRecord) : Stock :=
  { t with records := modifyAt t.records n f }

/-- The record at a position returns to, or becomes, HELD with no custody partner and no timer. -/
def StockRecord.toHeld (r : StockRecord) : StockRecord :=
  { r with custody := .held, partner := none, timer := none }

/-- The stock effect of a released NEST_END: the bed record is retired (R120). -/
def retireBed (s : State) : State :=
  match s.st.bed, s.bedRecord with
  | some n, some r =>
    raise (.plateRetired r.piece.id) { s with st := (s.st.remove n).retire r.piece.id }
  | _, _ => s

/-- The stock effect of a released REMNANT: an unmarked remnant record at TABLE (R119). -/
def createRemnant (serial length width : Nat) (notch : Option Notch) (s : State) : State :=
  match s.bedRecord with
  | some bed =>
    let piece : Piece :=
      { id := ⟨s.cfg.params.station, serial⟩
        kind := .remnant
        grade := bed.piece.grade
        thickness := bed.piece.thickness
        length := length
        width := width
        notch := notch
        heat := bed.piece.heat
        parent := some bed.piece.id
        marked := false
        reservation := none }
    { s with st := s.st.enter ⟨piece, .table, .held, none, s.time, none⟩ }
  | none => s

/-- The stock effect of a released copy, before it is reported complete (R119, R120). -/
def stockEffect (c : SegContent) (s : State) : State :=
  match c with
  | .nestEnd => retireBed s
  | .remnant serial length width notch => createRemnant serial length width notch s
  | .nestStart _ => s
  | .cut _ _ _ _ _ => s
  | .travel _ => s
  | .mark _ _ _ _ _ _ => s
  | .repeats _ _ _ => s

/-- ST counts a telegram the link refused (R134). -/
def countStockRefusal (s : State) : State :=
  { s with st := { s.st with linkRefusals := bump s.st.linkRefusals } }

/-- Offers the record at a position to a taker (R123). The Bool is true when the link refuses the CUSTODY_OFFER:
the record stays HELD and nothing but the refusal's counts changes. -/
def offerRecord (n : Nat) (r : StockRecord) (taker : Nat) (s : State) : State × Bool :=
  let (t, refused) := offer taker (.custodyOffer r.piece) s
  if refused then (countStockRefusal t, true)
  else
    ({ t with st := { t.st.update n (fun r =>
          { r with custody := .offered, partner := some taker, timer := t.timer t.cfg.params.offerTime }) with
        offersMade := bump t.st.offersMade } }, false)

/-- Sends a CUSTODY_REFUSE and counts it, or counts the link's refusal (R124, R134). -/
def refuseCustody (giver : Nat) (i : StockId) (r : CustodyRefusal) (s : State) : State :=
  let (t, refused) := offer giver (.custodyRefuse i r) s
  if refused then countStockRefusal t
  else { t with st := { t.st with refusalsSent := bump t.st.refusalsSent } }

/-- A custody telegram is counted as ignored (R134). -/
def ignoreCustody (s : State) : State := { s with st := { s.st with ignored := bump s.st.ignored } }

end Sys2Proof.Machine
end

