-- ==== Sys2Proof/Machine/CraneOps.lean ====
section
/-! DEFINITION. The crane's evaluation and its five lines (R20, R166). -/

namespace Sys2Proof.Machine

/-- A cause that withdraws the five lines (R166). -/
def State.linesWithdrawn (s : State) : Bool :=
  decide (s.sp.mode = .offline) || s.lu.estop || !s.isLoaded

def Lines.withPermits (l : Lines) (p : Permits) : Lines :=
  { l with travelXP := p.xp, travelXN := p.xn, travelYP := p.yp, travelYN := p.yn, lower := p.lower }

/-- Sets the five lines (R166): withdrawn while a cause holds, and after it until results are handed on; otherwise
each follows its result. In the other roles they stay as they are, withdrawn. -/
def driveLines (s : State) : State :=
  if s.role = .crane then
    if s.linesWithdrawn then
      { s with mu := { s.mu with live := false }, lu := s.lu.withPermits .withdrawn }
    else if s.mu.live then { s with lu := s.lu.withPermits s.env.permits }
    else { s with lu := s.lu.withPermits .withdrawn }
  else s

/-- The windows the cutter entries supply (R16). -/
def State.cutterWindows (s : State) : List (Rect × FumeClass) :=
  (entriesOf s.pt.entries).filterMap (fun e => e.craneWindow)

/-- A crane evaluates its five results and hands them to the move unit, which drives the lines (R20, R166). -/
def craneEvaluates (s : State) : State :=
  let permits := cranePermits s.cfg.params s.time s.env.own s.cutterWindows
  driveLines { s with env := { s.env with permits := permits }, mu := { s.mu with live := !s.linesWithdrawn } }

end Sys2Proof.Machine
end

