-- ==== Sys2Proof/Machine/Cutter.lean ====
section
/-! DEFINITION. The cutter's burn permission (chapters 1, 4, 5): the queue's copies, the intrusion evaluation, and
the release controller's judgement, release, break, completion and fault, as operations that requests, beacons, timers
and lines share. -/

namespace Sys2Proof.Machine

/-! ### The queue: copies (R67 to R71) -/

/-- The copy an expansion cursor stands at (R67, R69). -/
def Cursor.copy (c : Cursor) : Copy :=
  { seq := c.record.seq
    content := c.record.content
    k := c.k
    copies := c.copies
    window := c.record.content.window.map (fun w => w.shift (c.k * c.dx) (c.k * c.dy)) }

/-- The cursor of a record that no REPEAT precedes (R67). -/
def SegRecord.cursor (r : SegRecord) : Cursor := ⟨r, 1, 0, 0, 0⟩

/-- The low watermark: an armed queue that holds 16 records or fewer raises QUEUE_LOW once (R73). -/
def lowWater (s : State) : State :=
  if s.sq.armed ∧ s.sq.held.length ≤ 16 then
    raise (.queueLow s.sq.held.length) { s with sq := { s.sq with armed := false } }
  else s

/-- The head record leaves the queue as consumed, and the cursor is emptied (R68, R70, R74). -/
def consumeHead (s : State) : State :=
  match s.sq.held with
  | [] => s
  | _ :: rest => lowWater { s with sq := { s.sq with held := rest, cursor := none, consumed := s.sq.consumed + 1 } }

/-- The head record leaves the queue as discarded, and the cursor is emptied (R69, R71, R74). -/
def discardHead (s : State) : State :=
  match s.sq.held with
  | [] => s
  | _ :: rest => lowWater { s with sq := { s.sq with held := rest, cursor := none, discarded := s.sq.discarded + 1 } }

/-- Every held record is discarded, the cursor emptied, the repeat-pending flag cleared, the expected sequence ANY
and the stream OPEN (R65, R72). -/
def discardAll (s : State) : State :=
  lowWater { s with sq := { s.sq with
    held := []
    cursor := none
    repeatPending := false
    expected := none
    stream := .opened
    discarded := s.sq.discarded + BitVec.ofNat 32 s.sq.held.length } }

/-- RC takes a copy the queue forms (R79). -/
def takeCopy (c : Copy) (s : State) : State :=
  { s with rc := { s.rc with
    head := some c
    release := if s.rc.release = .idle then .waiting else s.rc.release } }

/-- Sets the cursor and hands its copy to RC. -/
def formCopy (c : Cursor) (s : State) : State :=
  takeCopy c.copy { s with sq := { s.sq with cursor := some c } }

/-- With an empty cursor, the head record's copy 0 is formed; a REPEAT whose target is held is consumed and its
target's expansion begins (R67, R68). -/
def formHead (s : State) : State :=
  match s.sq.cursor, s.sq.held with
  | none, r :: rest =>
    match r.content, rest with
    | .repeats count dx dy, target :: _ => formCopy ⟨target, count + 1, 0, dx, dy⟩ (consumeHead s)
    | .repeats _ _ _, [] => s
    | _, _ => formCopy r.cursor s
  | _, _ => s

/-- The queue takes the completion of the head copy (R70). Answers the sequence and index of a copy found outside
the bed, whose target it has discarded (R69): the next head copy is then formed before RC enters FAULTED (DEDUCED,
log 78). -/
def queueCompletes (s : State) : State × Option (Seq × Nat) :=
  match s.sq.cursor with
  | none => (s, none)
  | some c =>
    if c.k + 1 < c.copies then
      let next := { c with k := c.k + 1 }
      if (next.copy.window.all s.cfg.params.inBed) then (formCopy next s, none)
      else (formHead (discardHead s), some (c.record.seq, c.k + 1))
    else (formHead (consumeHead s), none)

/-- The copy the queue would form next on completion of the current copy (R100); one outside the bed is left out. -/
def SegQueue.nextCopy (q : SegQueue) (p : Params) : Option Copy :=
  match q.cursor with
  | none => none
  | some c =>
    if c.k + 1 < c.copies then
      let next := ({ c with k := c.k + 1 } : Cursor).copy
      if next.window.all p.inBed then some next else none
    else
      match q.held.tail with
      | [] => none
      | r :: rest =>
        match r.content, rest with
        | .repeats count dx dy, target :: _ => some (Cursor.copy ⟨target, count + 1, 0, dx, dy⟩)
        | .repeats _ _ _, [] => none
        | _, _ => some r.cursor.copy

/-! ### The live window (R100) -/

/-- An arc copy's window in hall coordinates, with its class (R2, R3). -/
def Copy.hallWindow (p : Params) (c : Copy) : Option (Rect × FumeClass) :=
  if c.content.isArc then c.window.map (fun w => (p.toHallWindow w, c.content.fume)) else none

/-- The waiting copy of R100. -/
def State.liveNext (s : State) : Option Copy :=
  match s.rc.head, s.rc.current with
  | some c, _ => some c
  | none, some _ => s.sq.nextCopy s.cfg.params
  | none, none => none

/-- The live window and class as RC forms them now (R100). -/
def State.formLive (s : State) : LiveWindow :=
  if s.sp.mode = .run then
    match s.rc.current.bind (fun c => c.copy.hallWindow s.cfg.params),
        s.liveNext.bind (fun c => c.hallWindow s.cfg.params) with
    | some a, some b => ⟨some (a.1.join b.1), a.2.higher b.2⟩
    | some a, none => ⟨some a.1, a.2⟩
    | none, some b => ⟨some b.1, b.2⟩
    | none, none => .absent
  else .absent

/-- RC forms the live window again and hands a change of it, and a change of the arc state, to the floor link, which
calls for one urgent beacon (R52, R85, R100; log 25). -/
def announce (arcChanged : Bool) (s : State) : State :=
  let live := s.formLive
  let t := { s with rc := { s.rc with live := live } }
  if arcChanged ∨ live ≠ s.rc.live then callUrgent t else t

/-! ### Evaluation (R12 to R14) -/

/-- The window under test and its class (R13). -/
def State.windowUnderTest (s : State) : Option (Rect × FumeClass) :=
  match s.rc.release with
  | .waiting => s.rc.head.bind (fun c => c.hallWindow s.cfg.params)
  | .inFlight => s.rc.current.bind (fun c => c.copy.hallWindow s.cfg.params)
  | .broken => s.rc.current.bind (fun c => c.copy.hallWindow s.cfg.params)
  | .idle => none
  | .faulted => none

/-- Evaluates one entry: a crane entry against the window under test; without one it holds no result (R12, R14). -/
def State.evaluateEntry (s : State) (e : PeerEntry) : PeerEntry :=
  match s.windowUnderTest, e.data with
  | some w, .crane d => { e with result := some (craneResult s.cfg.params s.time e d w.1 w.2) }
  | some _, .cutter _ => { e with result := none }
  | some _, .rack _ => { e with result := none }
  | none, _ => { e with result := none }

/-- The highest of the entries' stored results (R12). -/
def worstResult (l : List (Option PeerEntry)) : Intrusion :=
  (entriesOf l).foldl (fun a e => a.worse (e.result.getD .clear)) .clear

/-- Forms the station result: CLEAR when there is no window under test, otherwise the highest result (R12). -/
def formStation (s : State) : State :=
  { s with env := { s.env with station :=
    if s.windowUnderTest.isSome then worstResult s.pt.entries else .clear } }

/-- Every crane entry is evaluated and the station result formed again (R14). -/
def evaluateAll (s : State) : State :=
  if s.role = .cutter then
    formStation { s with pt := { s.pt with entries := s.pt.entries.map (fun o => o.map s.evaluateEntry) } }
  else s

/-- One entry is evaluated and the station result formed again (R14). -/
def evaluateOne (n : Nat) (s : State) : State :=
  if s.role = .cutter then
    formStation { s with pt := { s.pt with entries := modifyAt s.pt.entries n s.evaluateEntry } }
  else s

/-- RC takes a station result: HOLD or CUTOFF sets last_nonclear and starts the resume timer (R83). -/
def noteResult (s : State) : State :=
  if s.env.station = .clear then s
  else { s with rc := { s.rc with lastNonclear := some s.time, resumeTimer := s.timer s.cfg.params.resumeDelay } }

/-! ### Breaks (R89, R90) -/

/-- The break cause a station result gives the copy in flight, if it breaks it (R89). -/
def State.resultBreaks (s : State) : Option BreakCause :=
  match s.rc.release, s.rc.current with
  | .inFlight, some c =>
    if c.copy.content.isArc then
      match s.env.station with
      | .cutoff => some .cutoff
      | .hold =>
        if s.cfg.params.breakMode = .breakFirst ∧ c.copy.content.kind = .cut ∧ ¬ c.brokenBefore then some .hold
        else none
      | .clear => none
    else none
  | _, _ => none

/-- Breaks the current copy (R90); the window under test and the arc state have changed, so ENV evaluates and the
floor link is told. -/
def breakCopy (cause : BreakCause) (s : State) : State :=
  match s.rc.current with
  | some c =>
    let c' := { c with cause := some cause, brokenBefore := true, halted := false }
    let s := { s with
      lu := { s.lu with arcPermit := false }
      rc := { s.rc with
        release := .broken
        current := some c'
        flightTimer := none
        haltTimer := s.timer 2000 } }
    let s := raise (.segmentBreak c.copy.seq c.copy.k cause) s
    let s := logMark c' .broken s
    noteResult (evaluateAll (announce true s))
  | none => s

/-- RC acts on a station result handed on, but for the judgement of the waiting copy (R83, R89). -/
def handOn (s : State) : State :=
  let s := noteResult s
  match s.resultBreaks with
  | some cause => breakCopy cause s
  | none => s

/-- The window under test may have changed: every crane entry is evaluated and the result handed on (R14). -/
def windowChanged (s : State) : State := if s.role = .cutter then handOn (evaluateAll s) else s

/-! ### Changes of station mode (R171, R72) -/

/-- The queue discards its held records on leaving RUN, and RC drops the head copy; it is not a flush (R72, R79). -/
def queueLeavesRun (s : State) : State :=
  let t := discardAll s
  let t := { t with rc := { t.rc with
    head := none
    release := if t.rc.release = .waiting then .idle else t.rc.release
    fault := t.rc.fault.map (fun f => { f with recordAtHead := false }) } }
  if s.rc.head.isSome then windowChanged t else t

/-- The station mode changes (R171): MODE_CHANGED, then the blocks act. The judgement on entering RUN (R83) is
`settle`, which the caller adds: it comes after the live window is formed (R100; DESIGN CHOICE, log 81). -/
def changeMode (m : Mode) (s : State) : State :=
  let old := s.sp.mode
  let s := raise (.modeChanged old m) { s with sp := { s.sp with mode := m } }
  let s := if old = .offline then callUrgent s else s
  let s := driveLines s
  if s.role = .cutter then announce false (if old = .run then queueLeavesRun s else s) else s

/-- A pending stop ends: the flag is cleared and the mode becomes READY (R99). -/
def endStop (s : State) : State :=
  if s.rc.stopPending then changeMode .ready { s with rc := { s.rc with stopPending := false } } else s

/-! ### Faults (R92) -/

/-- RC enters FAULTED: the change is handed on and evaluated (R79), and then a pending stop ends (R92, R99). -/
def enterFaulted (f : ReleaseFault) (arcChanged : Bool) (s : State) : State :=
  let s := { s with
    lu := { s.lu with arcPermit := false }
    rc := { s.rc with
      release := .faulted
      fault := some f
      current := none
      flightTimer := none
      haltTimer := none } }
  let s := raise (.releaseFaulted f.reason f.seq f.k f.flushed) s
  endStop (windowChanged (announce arcChanged s))

/-! ### Wear (R95) -/

/-- Adds arc time, holding at 2^32 − 1; WEAR_LIMIT when the limit is reached from below (R95). -/
def addArc (ms : Nat) (s : State) : State :=
  let total := min (s.rc.arcMs + ms) 4294967295
  let limit := s.cfg.params.arcLimit * 1000
  let t := { s with rc := { s.rc with arcMs := total } }
  if s.rc.arcMs < limit ∧ limit ≤ total then raise (.wearLimit .arc) t else t

/-! ### Release (R84 to R86) -/

/-- The budget of a record's copies. -/
def SegContent.budget : SegContent → Nat
  | .cut _ _ _ d _ => d
  | .travel d => d
  | .mark _ _ d _ _ _ => d
  | .repeats _ _ _ => 0
  | .nestStart _ => 0
  | .nestEnd => 0
  | .remnant _ _ _ _ => 0

/-- A NEST_START, NEST_END or REMNANT copy, which completes at its release (R84). -/
def SegContent.isNest : SegContent → Bool
  | .nestStart _ => true
  | .nestEnd => true
  | .remnant _ _ _ _ => true
  | .cut _ _ _ _ _ => false
  | .travel _ => false
  | .mark _ _ _ _ _ _ => false
  | .repeats _ _ _ => false

/-- The release-time check: the fault reason, or the legend of a MARK (R84). -/
def releaseCheck (c : Copy) (s : State) : Except FaultReason (Option Legend) :=
  match c.content with
  | .nestStart i =>
    if s.bedRecord.map (fun r => r.piece.id) = some i then .ok none else .error .plateMismatch
  | .remnant serial _ _ _ =>
    let i : StockId := ⟨s.cfg.params.station, serial⟩
    if s.bedRecord.isNone then .error .noSourceRecord
    else if (s.st.find i).isSome ∨ i ∈ s.st.retired then .error .stockIdInUse
    else if s.st.isFull then .error .stockFull
    else .ok none
  | .mark _ _ _ template target part =>
    match compose s c.seq template target part with
    | .ok l => .ok (some l)
    | .error e => .error e
  | .cut _ _ _ _ _ => .ok none
  | .travel _ => .ok none
  | .repeats _ _ _ => .ok none
  | .nestEnd => .ok none

/-- The in-flight timer's length (R86). -/
def flightTime (p : Params) (c : SegContent) (again : Bool) : Nat :=
  c.budget + c.budget / 8 + (if c.pierceBearing again then p.pierceAllowance else 0)

/-- The notice of a release (R85). -/
def goNotice (c : Copy) (again : Bool) (legend : Option Legend) : NoticeData :=
  match c.content with
  | .mark tool _ _ _ _ _ => .markGo c.seq c.k ((legend.map (fun l => l.text)).getD []) c.window tool
  | .cut _ _ _ _ _ => .segmentGo c.seq c.k .cut c.window (c.content.pierceBearing again) again false
  | .travel _ => .segmentGo c.seq c.k .travel none false false false
  | .repeats _ _ _ => .segmentGo c.seq c.k .repeats none false false false
  | .nestStart _ => .segmentGo c.seq c.k .nestStart none false false true
  | .nestEnd => .segmentGo c.seq c.k .nestEnd none false false true
  | .remnant _ _ _ _ => .segmentGo c.seq c.k .remnant none false false true

/-- What RC keeps with the copy at its release: kept flags for a copy that goes again, cleared for a first release
(R85). -/
def releasedCopy (prev : Option Current) (c : Copy) (again : Bool) (legend : Option Legend) : Current :=
  { copy := c
    cause := none
    brokenBefore := again && (prev.map (fun d => d.brokenBefore)).getD false
    halted := false
    flushed := again && (prev.map (fun d => d.flushed)).getD false
    legend := legend }

/-- Releases a TRAVEL, CUT or MARK copy (R85, R86): the pierce is counted and ARC_PERMIT asserted with the change of
state, then ENV evaluates the copy's window again, which may break it at once. -/
def startCopy (c : Copy) (again : Bool) (legend : Option Legend) (s : State) : State :=
  let pierce := c.content.pierceBearing again
  let pierces := s.rc.pierces + (if pierce then 1 else 0)
  let s := { s with
    lu := { s.lu with arcPermit := c.content.isArc }
    rc := { s.rc with
      release := .inFlight
      head := if again then s.rc.head else none
      current := some (releasedCopy s.rc.current c again legend)
      pierces := pierces
      flightTimer := s.timer (flightTime s.cfg.params c.content again) } }
  let s := raise (goNotice c again legend) s
  let s := if pierce ∧ pierces = s.cfg.params.pierceLimit then raise (.wearLimit .pierce) s else s
  windowChanged (announce c.content.isArc s)

/-- The state RC takes when no copy is current (R79). -/
def Rc.rest (r : Rc) : Rc := { r with release := if r.head.isSome then .waiting else .idle }

/-- After a completion the queue's answer settles RC's state (R79): a bed overrun faults RC (R69); otherwise the
copy formed in answer is the head copy, its window is evaluated at once (R14), and then a pending stop ends (R99). -/
def afterCompletion (overrun : Option (Seq × Nat)) (arcChanged : Bool) (s : State) : State :=
  match overrun with
  | some o => enterFaulted ⟨.bedOverrun, o.1, o.2, false, false⟩ arcChanged s
  | none => endStop (windowChanged (announce arcChanged { s with rc := s.rc.rest }))

/-- Releases a nest copy: its stock effect is applied and it completes at the same moment (R84, R85). -/
def releaseNest (c : Copy) (s : State) : State :=
  let s := raise (goNotice c false none) { s with rc := { s.rc with head := none, release := .inFlight } }
  let (s, overrun) := queueCompletes (stockEffect c.content s)
  afterCompletion overrun false s

/-- The current copy completes (R87): ARC_PERMIT falls, the timers stop, arc time is added, a mark is logged, and
the queue takes the completion unless the copy was flushed. -/
def completeCurrent (c : Current) (arcMs : Nat) (s : State) : State :=
  let arc := c.copy.content.isArc
  let wasOn := s.lu.arcPermit
  let s := { s with
    lu := { s.lu with arcPermit := false }
    rc := { s.rc with flightTimer := none, haltTimer := none } }
  let s := if arc then addArc arcMs s else s
  let s := logMark c .done s
  let s := { s with rc := { s.rc with current := none } }
  let (s, overrun) := if c.flushed then (s, none) else queueCompletes s
  afterCompletion overrun wasOn s

/-! ### Judgement (R83) -/

/-- Judges the waiting copy once. The Bool says that a nest copy was released and completed, so that the copy formed
in answer is judged in its turn. -/
def judgeOnce (s : State) : State × Bool :=
  if s.role = .cutter then
    match s.rc.release, s.rc.head, s.rc.current with
    | .waiting, some c, _ =>
      if s.mayRelease c.content false then
        match releaseCheck c s with
        | .error e => (enterFaulted ⟨e, c.seq, c.k, false, true⟩ false s, false)
        | .ok legend => if c.content.isNest then (releaseNest c s, true) else (startCopy c false legend s, false)
      else (s, false)
    | .broken, _, some c =>
      if c.halted ∧ s.mayRelease c.copy.content true then (startCopy c.copy true c.legend s, false) else (s, false)
    | _, _, _ => (s, false)
  else (s, false)

/-- Judges the waiting copy, and again after each nest copy that completed at its release. -/
def settleFor : Nat → State → State
  | 0, s => s
  | n + 1, s =>
    match judgeOnce s with
    | (t, true) => settleFor n t
    | (t, false) => t

/-- The judgement of R83, to its end: each nest copy takes a record from the queue, so the held count bounds it. -/
def settle (s : State) : State := settleFor (s.sq.held.length + 1) s

/-- RC forms the live window again (R100). A change of the head copy or of the release state since `before` is
evaluated (R79), and the waiting copy is judged; without one no event of R83 has come, and the copy waits on. -/
def rcSettles (before : State) (s : State) : State :=
  let s := announce false s
  if s.rc.release ≠ before.rc.release ∨ s.rc.head ≠ before.rc.head then settle (windowChanged s) else s

end Sys2Proof.Machine
end

