-- ==== Sys2Proof/Machine/MoveOps.lean ====
section
/-! DEFINITION. The move unit's shared operations (chapter 9): calls, awards and revocations at the requester, and
the queue, starts, finishes and returns at the crane. -/

namespace Sys2Proof.Machine

/-! ### Counts and telegrams (R154, R167) -/

/-- Changes the move unit's counts. -/
def countMove (f : MoveCounts → MoveCounts) (s : State) : State :=
  { s with mu := { s.mu with counts := f s.mu.counts } }

/-- A move telegram is counted as ignored (R167). -/
def ignoreMove (s : State) : State :=
  countMove (fun c => { c with telegramsIgnored := bump c.telegramsIgnored }) s

/-- Offers a move telegram. A refusal by the link is counted, and the Bool is then true (R154, R160 to R164). -/
def sendMove (dest : Nat) (m : Message) (s : State) : State × Bool :=
  let (t, refused) := offer dest m s
  if refused then (countMove (fun c => { c with linkRefusals := bump c.linkRefusals }) t, true) else (t, false)

/-- Offers a MOVE_REVOKE and counts it as sent unless the link refuses it (R156 to R159). -/
def sendRevoke (dest : Nat) (tag : Byte) (s : State) : State × Bool :=
  let (t, refused) := sendMove dest (.moveRevoke tag) s
  if refused then (t, true)
  else (countMove (fun c => { c with revocationsSent := bump c.revocationsSent }) t, false)

/-! ### The requester's move list (R152) -/

/-- A move is live in OPEN, AWARDED and STARTED (R152). -/
def MoveEntry.live (e : MoveEntry) : Bool :=
  match e.state with
  | .opened => true
  | .awarded => true
  | .started => true
  | .done => false
  | .failed => false

/-- An award of the move awaits its reply (R156): an OPEN move whose reply timer runs. -/
def MoveEntry.awaiting (e : MoveEntry) : Bool := decide (e.state = .opened) && e.replyTimer.isSome

/-- The position of the live move with a tag. -/
def Moves.findLive (m : Moves) (tag : Byte) : Option Nat :=
  findPos (fun e => e.live && decide (e.tag = tag)) m.moves

/-- Writes a move entry. -/
def putMove (n : Nat) (e : MoveEntry) (s : State) : State :=
  { s with mu := { s.mu with moves := s.mu.moves.set n (some e) } }

/-- The MOVE_STATE notice of an entry (R152). -/
def MoveEntry.report (e : MoveEntry) (taker : Option Nat) : NoticeData :=
  .moveState e.tag e.state e.crane e.reason taker

/-- Writes an entry that replaces `old`; MOVE_STATE is raised when its state has changed (R152; log 29). -/
def changeMove (n : Nat) (old e : MoveEntry) (taker : Option Nat) (s : State) : State :=
  let t := putMove n e s
  if e.state = old.state then t else raise (e.report taker) t

/-- The entry of a move that has ended (R152, R153). -/
def MoveEntry.ended (e : MoveEntry) (st : MoveStanding) (reason : Option MoveReason) (order : Nat) : MoveEntry :=
  { e with
    state := st
    crane := none
    bids := []
    windowTimer := none
    replyTimer := none
    cancelPending := false
    reason := reason
    endOrder := order }

/-- A live move ends as DONE or FAILED. -/
def endMove (n : Nat) (e : MoveEntry) (st : MoveStanding) (reason : Option MoveReason) (taker : Option Nat)
    (s : State) : State :=
  changeMove n e (e.ended st reason s.mu.endCount) taker { s with mu := { s.mu with endCount := s.mu.endCount + 1 } }

/-! ### Calls and awards (R154, R156) -/

/-- The destination of a call: the configured crane group, or all stations (R154). -/
def State.callDest (s : State) : Nat :=
  match s.cfg.params.craneGroup with
  | some g => 64 + g
  | none => 0

/-- The MOVE_CALL of an entry (R154). -/
def MoveEntry.call (e : MoveEntry) : Message := .moveCall e.tag e.callNumber e.info

/-- The entry as a call leaves it: the call number gains 1, the bid list is emptied and the bid window starts
(R154). -/
def MoveEntry.called (e : MoveEntry) (window : Option Timer) : MoveEntry :=
  { e with
    callNumber := e.callNumber + 1
    crane := none
    bids := []
    windowTimer := window
    replyTimer := none }

/-- Makes the next call of an OPEN move; a call the link refuses still counts (R154). -/
def makeCall (n : Nat) (e : MoveEntry) (s : State) : State :=
  let e' := e.called (s.timer s.cfg.params.bidWindow)
  let t := (sendMove s.callDest e'.call (putMove n e' s)).1
  countMove (fun c => { c with callsMade := bump c.callsMade }) t

/-- Acts on the bid list as at the window's end: awards the first bid the link takes an award for, and with none left
calls again or fails the move (R156). -/
def actOnBids (n : Nat) (e : MoveEntry) : List Bid → State → State
  | [], s => if e.callNumber < 3 then makeCall n e s else endMove n e .failed (some .noCrane) none s
  | b :: rest, s =>
    let (t, refused) := sendMove b.crane (.moveAward e.tag e.info) s
    if refused then actOnBids n e rest t
    else
      countMove (fun c => { c with awardsSent := bump c.awardsSent })
        (putMove n { e with
          bids := rest
          crane := some b.crane
          windowTimer := none
          replyTimer := t.timer t.cfg.params.bidWindow } t)

/-- The award passes down the list of an OPEN move (R156). -/
def passDown (n : Nat) (e : MoveEntry) (s : State) : State := actOnBids n e e.bids s

/-- The move becomes OPEN with no crane and its first call is made again, or ends as FAILED, CANCELLED where its
cancel-pending flag was set (R157, R159). -/
def reopenMove (n : Nat) (e : MoveEntry) (s : State) : State :=
  if e.cancelPending then endMove n e .failed (some .cancelled) none s
  else
    let e' := { e with
      state := .opened
      crane := none
      callNumber := 0
      bids := []
      windowTimer := none
      replyTimer := none
      reason := if e.state = .opened then e.reason else none }
    makeCall n e' (changeMove n e e' none s)

/-! ### Bids (R154) -/

/-- The order of the bid list: by bid, and among equal bids by station number, lowest first (R152). -/
def Bid.before (a b : Bid) : Bool :=
  decide (a.cost < b.cost) || (decide (a.cost = b.cost) && decide (a.crane < b.crane))

/-- A bid's place in the ordered list. -/
def insertBid (b : Bid) : List Bid → List Bid
  | [] => [b]
  | c :: rest => if b.before c then b :: c :: rest else c :: insertBid b rest

/-- A bid is taken into the list: it replaces the crane's own bid, and the list keeps the first eight (R154). -/
def takeBid (b : Bid) (l : List Bid) : List Bid := (insertBid b (l.filter (fun c => c.crane ≠ b.crane))).take 8

/-! ### A crane's reports (R157) -/

/-- A live move becomes STARTED with crane C, and is withdrawn from any other crane that has it or awaits an award of
it (R157). -/
def startedWith (n : Nat) (e : MoveEntry) (crane : Nat) (s : State) : State :=
  let e' := { e with
    state := .started
    crane := some crane
    bids := []
    windowTimer := none
    replyTimer := none
    cancelPending := false
    reason := if e.state = .started then e.reason else none }
  let s := changeMove n e e' none s
  match e.crane with
  | some other =>
    if other ≠ crane ∧ (e.awaiting ∨ e.state = .awarded) then (sendRevoke other e.tag s).1 else s
  | none => s

/-! ### Losing a crane (R159) -/

/-- Acts on the move at one position for a station that has become LOST (R159). -/
def loseCraneAt (station n : Nat) (s : State) : State :=
  match entryAt s.mu.moves n with
  | none => s
  | some e =>
    match e.state with
    | .awarded => if e.crane = some station then reopenMove n e (sendRevoke station e.tag s).1 else s
    | .opened =>
      let e' := { e with bids := e.bids.filter (fun b => b.crane ≠ station) }
      if e.replyTimer.isSome ∧ e.crane = some station then
        passDown n { e' with replyTimer := none, crane := none } (sendRevoke station e.tag s).1
      else putMove n e' s
    | .started => s
    | .done => s
    | .failed => s

/-- A station has become LOST: in the CUTTER and RACK roles every live move that involves it is acted on (R159), from
position 0 upward (DESIGN CHOICE, log 70). -/
def loseCrane (station : Nat) (s : State) : State :=
  if s.role = .crane then s
  else (List.range 8).foldl (fun t n => loseCraneAt station n t) s

/-! ### The crane's move queue (R160) -/

/-- A new move's place: behind the started move, the more urgent and the equally urgent (R160). -/
def insertQueued (m : QueuedMove) : List QueuedMove → List QueuedMove
  | [] => [m]
  | q :: rest =>
    if ¬ q.started ∧ m.info.priority < q.info.priority then m :: q :: rest else q :: insertQueued m rest

/-- A queued move's identity: the requester and the tag. -/
def QueuedMove.is (m : QueuedMove) (requester : Nat) (tag : Byte) : Bool :=
  decide (m.requester = requester) && decide (m.tag = tag)

/-- A move is started. -/
def Moves.anyStarted (m : Moves) : Bool := m.queue.any (fun q => q.started)

/-- Starts the queued move at a place: it goes to the front marked started, and MOVE_STARTED is offered (R161). -/
def startQueued (i : Nat) (s : State) : State :=
  match s.mu.queue[i]? with
  | some m =>
    let s := setMoveQueue ({ m with started := true } :: s.mu.queue.eraseIdx i) s
    (sendMove m.requester (.moveStarted m.tag) s).1
  | none => s

/-- The stock table hands an acceptance to a crane's move unit (R161): of several queued moves that name the record,
the first in queue order is started (DESIGN CHOICE, log 56). -/
def acceptedLoad (id : StockId) (s : State) : State :=
  let wanted (m : QueuedMove) : Bool :=
    !m.started && decide (m.info.kind ≠ .clear) && decide (m.info.stock = some id)
  match s.mu.queue.findIdx? wanted with
  | some i =>
    if s.mu.anyStarted then
      raise (.unplannedLoad id) (countMove (fun c => { c with unplannedLoads := bump c.unplannedLoads }) s)
    else startQueued i s
  | none => raise (.unplannedLoad id) (countMove (fun c => { c with unplannedLoads := bump c.unplannedLoads }) s)

/-- LOAD_ATTACHED has risen: a CLEAR move at the head is started when no move is (R161). -/
def clearRises (s : State) : State :=
  match s.mu.queue.head? with
  | some m => if m.info.kind = .clear ∧ ¬ s.mu.anyStarted then startQueued 0 s else s
  | none => s

/-- A pending leave of RUN is completed once no move is started (R162, R164). -/
def completeLeave (s : State) : State :=
  if s.mu.leavePending then changeMode .ready { s with mu := { s.mu with leavePending := false } } else s

/-- The started move at the head is finished: MOVE_DONE is offered and the move is removed (R162). -/
def finishMove (carried : Bool) (taker : Option Nat) (s : State) : State :=
  match s.mu.queue with
  | [] => s
  | m :: rest =>
    completeLeave (setMoveQueue rest (sendMove m.requester (.moveDone m.tag carried taker) s).1)

/-- The started move, if there is one: the head of the queue, started (R160). -/
def Moves.startedMove (m : Moves) : Option QueuedMove := m.queue.head?.filter (fun q => q.started)

/-- A record leaves the hook, by release to a taker or by loss: the started DELIVER or STORE that names it is
finished (R162). -/
def recordLeaves (id : StockId) (carried : Bool) (taker : Option Nat) (s : State) : State :=
  match s.mu.startedMove with
  | some m => if m.info.kind ≠ .clear ∧ m.info.stock = some id then finishMove carried taker s else s
  | none => s

/-- Gives back queued moves one by one: each is returned to its requester and removed (R164). -/
def returnMoves : List QueuedMove → State → State
  | [], s => s
  | m :: rest, s =>
    let t := (sendMove m.requester (.moveReturn m.tag) s).1
    let t := countMove (fun c => { c with returns := bump c.returns }) t
    returnMoves rest (setMoveQueue (t.mu.queue.filter (fun q => !q.is m.requester m.tag)) t)

/-- A crane is asked to leave RUN: the unstarted moves are given back; with a move started the leave is pending,
otherwise the mode changes at once (R164). The Bool says that the leave is pending. -/
def craneLeaves (s : State) : State × Bool :=
  let s := returnMoves (s.mu.queue.filter (fun m => !m.started)) s
  if s.mu.anyStarted then ({ s with mu := { s.mu with leavePending := true } }, true)
  else (changeMode .ready s, false)

end Sys2Proof.Machine
end

