-- ==== Sys2Proof/Machine/PeerOps.lean ====
section
/-! DEFINITION. The peer table's shared operations (chapter 2): reading a beacon into an entry, storing it, handing
on what happens to an entry, aging, eviction and the pinned entries. -/

namespace Sys2Proof.Machine

/-! ### Finding entries (R22) -/

/-- The position of the entry of a station. -/
def PeerTable.find (t : PeerTable) (station : Nat) : Option Nat :=
  findPos (fun e => decide (e.station = station)) t.entries

/-- The entry of a station. -/
def State.peer (s : State) (station : Nat) : Option PeerEntry := (s.pt.find station).bind (entryAt s.pt.entries)

/-! ### Values brought into form (R5, R23 to R25) -/

/-- A rectangle whose bounds are exchanged on each axis where the low one exceeds the high (R24). -/
def Rect.ordered (r : Rect) : Rect :=
  ⟨min r.xlo r.xhi, max r.xlo r.xhi, min r.ylo r.yhi, max r.ylo r.yhi⟩

/-- A runway span: its bounds exchanged when the low exceeds the high, then held within [0..Xmax] (R5, R155). -/
def boundSpan (xmax lo hi : Nat) : Span := ⟨min (min lo hi) xmax, min (max lo hi) xmax⟩

/-- The runway span of a crane entry: the configured one of a station pinned as a crane, otherwise the whole hall
(R5, R30). -/
def Params.spanOf (p : Params) (station : Nat) : Span :=
  match p.pins.find? (fun i => decide (i.station = station)) with
  | some i =>
    match i.area with
    | .crane (some sp) => sp
    | .crane none => ⟨0, p.xmax⟩
    | .cutter _ => ⟨0, p.xmax⟩
    | .rack => ⟨0, p.xmax⟩
  | none => ⟨0, p.xmax⟩

/-- A crane's report from its beacon payload (R5, R182). -/
def readCrane (p : Params) (span : Span) (bs : List Byte) : CraneData where
  x := min (fieldNat bs 1 3) p.xmax
  y := min (fieldNat bs 4 3) p.ymax
  vx := clampInt (-5000) 5000 (fieldInt bs 7 2)
  vy := clampInt (-5000) 5000 (fieldInt bs 9 2)
  hx := min (fieldNat bs 11 2) 12000
  hy := min (fieldNat bs 13 2) 12000
  load := readLoad (bs.getD 15 0)
  hook := readHook (bs.getD 16 0)
  span := span

/-- A cutter's announcement from its beacon payload (R24, R182). The live window's bounds are compared after they have
been held within the hall (DEDUCED, log 67). -/
def readCutter (p : Params) (bs : List Byte) : CutterData :=
  let bed := ((readRect bs 1).toHall p).ordered
  let w := (readRect bs 14).toHall p
  { bed := bed
    window :=
      if bs.getD 13 0 = 0 then none
      else if w.xhi < w.xlo ∨ w.yhi < w.ylo then some bed
      else some w
    fume := readFume (bs.getD 26 0)
    arcOn := decide (bs.getD 27 0 ≠ 0)
    release := readRelease (bs.getD 28 0) }

/-- The role data of a beacon (R23 to R25). -/
def readBeacon (p : Params) (role : Role) (station : Nat) (bs : List Byte) : PeerData :=
  match role with
  | .crane => .crane (readCrane p (p.spanOf station) bs)
  | .cutter => .cutter (readCutter p bs)
  | .rack => .rack (min (fieldNat bs 7 1) 64)

/-- The anchor of an entry: a crane's position, the centre of a cutter's bed, or a rack's announced anchor held
within the hall (R23 to R25). -/
def beaconAnchor (p : Params) (d : PeerData) (bs : List Byte) : Nat × Nat :=
  match d with
  | .crane c => (c.x, c.y)
  | .cutter c => (c.bed.centreX.toNat, c.bed.centreY.toNat)
  | .rack _ => (min (fieldNat bs 1 3) p.xmax, min (fieldNat bs 4 3) p.ymax)

/-- The entry a stored beacon leaves (R27, R29, R30): FRESH, heard, received now, without a result yet. -/
def freshEntry (p : Params) (now : Count) (role : Role) (station : Nat) (seq : Byte) (bs : List Byte)
    (pinned : Bool) : PeerEntry :=
  let d := readBeacon p role station bs
  { station := station
    data := d
    state := .fresh
    pinned := pinned
    heard := true
    received := now
    ageHeld := false
    reportAge := fieldNat bs 0 1
    sequence := seq
    anchorX := (beaconAnchor p d bs).1
    anchorY := (beaconAnchor p d bs).2
    result := none }

/-! ### Handing on (R35) -/

/-- The envelope unit takes what has happened to the entry at a position that has, or had, one of `roles`: a cutter
reads crane entries, a crane cutter entries (R14, R20, R35). -/
def envPeer (n : Nat) (roles : List Role) (s : State) : State :=
  match s.role with
  | .cutter => if roles.contains .crane then settle (handOn (evaluateOne n s)) else s
  | .crane => if roles.contains .cutter then craneEvaluates s else s
  | .rack => s

/-- A rack clears every reservation that names a station (R149). -/
def dropReservations (station : Nat) (s : State) : State :=
  let named (r : StockRecord) : Bool := decide (r.piece.reservation = some station)
  let n := ((entriesOf s.st.records).filter named).length
  let clear (r : StockRecord) : StockRecord :=
    if named r then { r with piece := { r.piece with reservation := none } } else r
  if n = 0 then s
  else raise (.reservationsDropped station n)
    { s with st := { s.st with
      records := s.st.records.map (fun o => o.map clear)
      search := { s.st.search with dropped := bumpBy n s.st.search.dropped } } }

/-- An entry has become LOST: the stock table of a rack and the move unit of a cutter or rack take it, in no set
order (R35; log 12). -/
def stationLost (station : Nat) (s : State) : State :=
  match s.role with
  | .cutter => loseCrane station s
  | .crane => s
  | .rack => unordered (dropReservations station) (loseCrane station) s

/-- Writes the entry of a position. -/
def putPeer (n : Nat) (e : Option PeerEntry) (s : State) : State :=
  { s with pt := { s.pt with entries := s.pt.entries.set n e } }

/-- An unpinned entry leaves the table as LOST and then removed (R28, R33; log 28). -/
def removePeer (n : Nat) (e : PeerEntry) (s : State) : State :=
  envPeer n [e.data.role] (putPeer n none (stationLost e.station (putPeer n (some { e with state := .lost }) s)))

/-! ### Storing a beacon (R26 to R30) -/

/-- Changes the peer table's counters. -/
def countPeer (f : PeerTable → PeerTable) (s : State) : State := { s with pt := f s.pt }

/-- A beacon is counted as stored, its entry is written and it is handed on (R27, R29, R35). -/
def storeBeacon (n : Nat) (e : PeerEntry) (s : State) : State :=
  envPeer n [e.data.role] (putPeer n (some e) (countPeer (fun t => { t with stored := bump t.stored }) s))

/-- The newer of two beacon sequences: (new − old) mod 256 in 1..127 (R29). -/
def newerSequence (old new : Byte) : Bool := inRange 1 127 (new - old).toNat

/-- The unpinned entries with their positions. -/
def PeerTable.unpinned (t : PeerTable) : List (Nat × PeerEntry) :=
  (List.range 48).filterMap (fun n => (entryAt t.entries n).bind (fun e => if e.pinned then none else some (n, e)))

/-- The better candidate for eviction: the larger receipt age, then the lower station number (R28). -/
def evictFirst (now : Count) (best : Option (Nat × PeerEntry)) (c : Nat × PeerEntry) : Option (Nat × PeerEntry) :=
  match best with
  | none => some c
  | some b =>
    let a := b.2.receiptAge now
    let a' := c.2.receiptAge now
    if a < a' ∨ (a = a' ∧ c.2.station < b.2.station) then some c else some b

/-- The entry R28 evicts. -/
def PeerTable.evictee (t : PeerTable) (now : Count) : Option (Nat × PeerEntry) :=
  t.unpinned.foldl (evictFirst now) none

/-- A beacon from a station without an entry creates one, in a free position or in the one an eviction frees, or is
dropped (R27, R28). -/
def createPeer (e : PeerEntry) (s : State) : State :=
  match lowestEmpty s.pt.entries with
  | some n => storeBeacon n e s
  | none =>
    match s.pt.evictee s.time with
    | some (n, old) =>
      storeBeacon n e (countPeer (fun t => { t with evictions := bump t.evictions }) (removePeer n old s))
    | none => countPeer (fun t => { t with tableFull := bump t.tableFull }) s

/-- A beacon of another role replaces the entry whole; the notice and the envelope unit's part come in no set order
(R30, R35; log 12). -/
def changeRole (n : Nat) (old e : PeerEntry) (s : State) : State :=
  let t := putPeer n (some e) (countPeer (fun t => { t with stored := bump t.stored }) s)
  unordered (envPeer n [old.data.role, e.data.role])
    (raise (.peerRoleChanged e.station old.data.role e.data.role)) t

/-- The peer table takes a beacon the link delivers (R26). -/
def takeBeacon (role : Role) (source : Nat) (seq : Byte) (bs : List Byte) (s : State) : State :=
  let fresh (pinned : Bool) := freshEntry s.cfg.params s.time role source seq bs pinned
  if ¬ inRange 1 62 source then countPeer (fun t => { t with sourceDiscards := bump t.sourceDiscards }) s
  else if source = s.cfg.params.station then s
  else
    match s.pt.find source with
    | none => createPeer (fresh false) s
    | some n =>
      match entryAt s.pt.entries n with
      | none => s
      | some old =>
        if old.data.role ≠ role then changeRole n old (fresh old.pinned) s
        else if old.state = .fresh ∧ ¬ newerSequence old.sequence seq then
          countPeer (fun t => { t with seqDiscards := bump t.seqDiscards }) s
        else storeBeacon n (fresh old.pinned) s

/-! ### Aging (R31 to R33) -/

/-- The stale time of an entry's role (R32). -/
def Params.staleTime (p : Params) : Role → Nat
  | .cutter => p.staleMobile
  | .crane => p.staleMobile
  | .rack => p.staleRack

/-- The lost time of an entry's role (R32). -/
def Params.lostTime (p : Params) : Role → Nat
  | .cutter => p.lostMobile
  | .crane => p.lostMobile
  | .rack => p.lostRack

/-- A FRESH entry whose receipt age has reached its stale time becomes STALE (R32). -/
def ageToStale (n : Nat) (s : State) : State :=
  match entryAt s.pt.entries n with
  | some e =>
    if e.state = .fresh ∧ s.cfg.params.staleTime e.data.role ≤ e.receiptAge s.time then
      envPeer n [e.data.role] (putPeer n (some { e with state := .stale }) s)
    else s
  | none => s

/-- A STALE entry whose receipt age has reached its lost time becomes LOST, and leaves the table if it is not pinned
(R32, R33). -/
def ageToLost (n : Nat) (s : State) : State :=
  match entryAt s.pt.entries n with
  | some e =>
    if e.state = .stale ∧ s.cfg.params.lostTime e.data.role ≤ e.receiptAge s.time then
      if e.pinned then
        unordered (envPeer n [e.data.role]) (stationLost e.station) (putPeer n (some { e with state := .lost }) s)
      else removePeer n e s
    else s
  | none => s

/-- The age-held flag is set once the receipt age is found at 65,535 (R31). -/
def holdAge (now : Count) (e : PeerEntry) : PeerEntry :=
  if e.receiptAge now = 65535 then { e with ageHeld := true } else e

/-- One entry's part of an aging step (R31). -/
def agePeer (s : State) (n : Nat) : State :=
  ageToLost n (ageToStale n { s with pt := { s.pt with entries := modifyAt s.pt.entries n (holdAge s.time) } })

/-- Every entry of the role the envelope unit reads is evaluated (R14, R20). -/
def envStep (s : State) : State :=
  match s.role with
  | .cutter => settle (windowChanged s)
  | .crane => craneEvaluates s
  | .rack => s

/-! ### Pinned entries (R34) -/

/-- The role data and anchor of a pinned station that has not been heard (R23 to R25). -/
def pinData (p : Params) (i : Pin) : PeerData × Nat × Nat :=
  match i.area with
  | .crane _ =>
    let sp := p.spanOf i.station
    (.crane ⟨0, 0, 0, 0, 0, 0, .unknown, .low, sp⟩, (sp.lo + sp.hi) / 2, p.ymax / 2)
  | .cutter bed =>
    let b := (bed.toHall p).ordered
    (.cutter ⟨b, none, .none, false, .idle⟩, b.centreX.toNat, b.centreY.toNat)
  | .rack => (.rack 0, 0, 0)

/-- The entry created for a pinned station at a load (R34). -/
def pinEntry (p : Params) (now : Count) (i : Pin) : PeerEntry :=
  let d := pinData p i
  { station := i.station
    data := d.1
    state := .lost
    pinned := true
    heard := false
    received := now
    ageHeld := false
    reportAge := 0
    sequence := 0
    anchorX := d.2.1
    anchorY := d.2.2
    result := none }

/-- The table a load begins with: the pinned entries from position 0 upwards, the rest empty (R34). -/
def pinnedTable (p : Params) (now : Count) : List (Option PeerEntry) :=
  let es := (p.pins.take 48).map (fun i => some (pinEntry p now i))
  es ++ List.replicate (48 - es.length) none

end Sys2Proof.Machine
end

