-- ==== Sys2Proof/Machine/Receive.lean ====
section
/-! DEFINITION. The receive path of the floor link (R39 to R41): what the link does with a telegram before the owner
of its kind takes it. -/

namespace Sys2Proof.Machine

/-- Changes the link's counts (R54). -/
def countLink (f : LinkCounts → LinkCounts) (s : State) : State :=
  { s with flc := { s.flc with counts := f s.flc.counts } }

/-- The CRC characters match the header and payload (R38, R40). -/
def crcGood (t : Telegram) (kind : Byte) : Bool :=
  decide (crcBytes (crc16 ([t.dest, t.source, kind, t.seq, BitVec.ofNat 8 t.payload.length] ++ t.payload))
    = [t.crcLo, t.crcHi])

/-- The destination is all stations, this station, or a group of which it is a member (R40). -/
def State.addressed (s : State) (dest : Nat) : Bool :=
  decide (dest = 0) || decide (dest = s.cfg.params.station)
    || s.cfg.params.groups.any (fun g => decide (dest = 64 + g))

/-- A length character above 60 is a framing error (R39). -/
def framingError (s : State) : State := countLink (fun c => { c with framingErrors := bump c.framingErrors }) s

/-- The four checks of R40 in their order, then the delivery of R41. `length` is the payload length of the kind, none
for a kind R182 does not list. Without a good load nothing is judged, and a telegram assembled while the part is
sending an attempt is its own echo (R39; log 9). -/
def receive (kind : Byte) (length : Option Nat) (deliver : State → State) (t : Telegram) (s : State) : State :=
  if ¬ s.isLoaded then s
  else if s.flc.attempt.isSome then s
  else if 60 < t.payload.length then framingError s
  else if ¬ crcGood t kind then countLink (fun c => { c with crcErrors := bump c.crcErrors }) s
  else if t.source.toNat = s.cfg.params.station then duplicate s
  else if ¬ s.addressed t.dest.toNat then countLink (fun c => { c with filtered := bump c.filtered }) s
  else if length ≠ some t.payload.length then countLink (fun c => { c with kindErrors := bump c.kindErrors }) s
  else deliver (countLink (fun c => { c with received := bump c.received }) s)

/-- The receive path for a telegram of a known kind (R40, R182). -/
def receiveKind (k : TelegramKind) (deliver : State → State) (t : Telegram) (s : State) : State :=
  receive k.code (some k.payloadLength) deliver t s

/-- The owner takes the message a payload carries; one with a code it cannot read is counted as ignored (R182). -/
def takeMessage (k : TelegramKind) (t : Telegram) (ignore : State → State) (act : Message → State → State)
    (s : State) : State :=
  match readMessage k t.source.toNat t.payload with
  | some m => act m s
  | none => ignore s

/-- The stock table takes only custody telegrams sent to this station's own number (section 7.3, after R120). -/
def takeCustody (k : TelegramKind) (t : Telegram) (act : Message → State → State) (s : State) : State :=
  if t.dest.toNat = s.cfg.params.station then takeMessage k t ignoreCustody act s else ignoreCustody s

end Sys2Proof.Machine
end

