-- ==== Sys2Proof/Machine/PortOps.lean ====
section
/-! DEFINITION. The station port's transactions (R168, R169): the judgement of a WRITE_REQUEST, the reply of a taken
request, and what the part shifts out. -/

namespace Sys2Proof.Machine

/-- What an owner answers: its reply's result code and data (R169). -/
abbrev Answer := ResultCode × ReplyData

/-- A refusal carries no data of its own. -/
def refuse (r : ResultCode) (s : State) : State × Answer := (s, r, .none)

/-- The plain reply OK. -/
def answerOk (s : State) : State × Answer := (s, .ok, .none)

/-- A request with a result known from a check: refused, or acted on. -/
def judge (checks : Option ResultCode) (act : State → State × Answer) (s : State) : State × Answer :=
  match checks with
  | some r => refuse r s
  | none => act s

/-- The first check that fails gives the refusal. -/
def firstOf : List (Bool × ResultCode) → Option ResultCode
  | [] => none
  | (fails, r) :: rest => if fails then some r else firstOf rest

/-! ### Frames (R183) -/

/-- The codes of the take statuses (R183). -/
def TakeStatus.code : TakeStatus → Byte
  | .taken => 0
  | .bufferFull => 1
  | .notLoaded => 2
  | .restarting => 3

/-- A length byte, which counts the bytes after itself, and those bytes (R183). -/
def lengthFrame (body : List Byte) : List Byte := BitVec.ofNat 8 body.length :: body

/-- The request code of a reply: the byte sent, for a code the part does not know; the manual gives no byte to the
others (log 66). -/
def RequestCode.byte (c : RequestCode) : Byte :=
  match c with
  | .unknown b => b
  | .segment | .flush | .resync | .segmentDone | .segmentAborted | .segmentHalted | .continueRequest | .wearRestore
  | .consumableChanged | .declareStock | .handOff | .confirmCustody | .bedLoaded | .placed | .lockSlot | .unlockSlot
  | .queryStock | .cancelQuery | .moveRequest | .cancelMove | .moveFinish | .position | .setMode | .status
  | .readTable => Config.requestByte c

/-- The bytes of reply data; the manual lays out none but the absence of data (log 66). -/
def ReplyData.bytes (d : ReplyData) : List Byte := if d = .none then [] else Config.replyBytes d

/-- A reply frame (R183). -/
def Reply.frame (r : Reply) : List Byte :=
  lengthFrame ([r.number, r.code.byte, Config.resultByte r.result] ++ r.data.bytes)

/-- A notice frame (R183). -/
def Notice.frame (lost : Nat) (n : Notice) : List Byte :=
  lengthFrame ([BitVec.ofNat 8 lost, Config.noticeByte n.data] ++ leBytes 4 n.time.toNat ++ Config.noticeBytes n.data)

/-- What the part shifts out after the port status byte: a take status and a request number, a reply frame, a notice
frame, or nothing (R183). -/
def PortAnswer.frame : PortAnswer → List Byte
  | .nothing => []
  | .take st number => [st.code, number]
  | .reply none => [0]
  | .reply (some r) => r.frame
  | .notice lost none => lengthFrame [BitVec.ofNat 8 lost]
  | .notice lost (some n) => n.frame lost

/-- The read is complete: the length byte, and as many bytes as it gives, are clocked out (R183; log 66). -/
def PortAnswer.readWhole (a : PortAnswer) (clocked : Nat) : Bool :=
  decide (1 + fieldNat a.frame 0 1 ≤ clocked)

/-! ### The judgement of a request (R168, R169) -/

/-- Records what the port shifted out (R168; log 7). -/
def shiftOut (status : Byte) (a : PortAnswer) (s : State) : State :=
  { s with sp := { s.sp with output := ⟨status, a⟩ } }

/-- A frame error: the request is not taken and no take status is given (R168). -/
def frameError (s : State) : State :=
  shiftOut s.statusByte .nothing { s with sp := { s.sp with frameErrors := bump s.sp.frameErrors } }

/-- A take status other than TAKEN: the request number byte beside it is a free value (log 22). -/
def turnAway (st : TakeStatus) (s : State) : State :=
  shiftOut s.statusByte (.take st (Config.idleNumber s.freeCount)) { s with freeCount := s.freeCount + 1 }

/-- The frame is longer than any request carries, or was cut short (R168, R183). -/
def frameBad (length : Byte) (cut : Bool) : Bool := decide (34 < length.toNat) || cut

/-- A request is taken: it gets the next number, its owner acts, and the reply joins the buffer (R168, R169). It is
counted as taken before its owner acts, so a STATUS reply includes the STATUS itself (DESIGN CHOICE, log 72). -/
def takenRequest (code : RequestCode) (act : State → State × Answer) (s : State) : State :=
  let status := s.statusByte
  let number := s.sp.number
  let (t, r, d) := act { s with sp := { s.sp with number := number + 1, taken := bump s.sp.taken } }
  shiftOut status (.take .taken number)
    { t with sp := { t.sp with buffer := t.sp.buffer ++ [⟨number, code, r, d⟩] } }

/-- The judgement of a WRITE_REQUEST other than RESTART (R168; log 23): frame error, BUFFER_FULL, NOT_LOADED, or
TAKEN. `inFault` says that it is also taken in CONFIG_FAULT. -/
def request (length : Byte) (cut inFault : Bool) (code : RequestCode) (act : State → State × Answer)
    (s : State) : State :=
  if frameBad length cut then frameError s
  else if 4 ≤ s.sp.buffer.length then
    turnAway .bufferFull { s with sp := { s.sp with bufferFull := bump s.sp.bufferFull } }
  else if s.isLoaded ∨ (inFault ∧ s.cfg.load = .configFault) then takenRequest code act s
  else turnAway .notLoaded { s with sp := { s.sp with notLoaded := bump s.sp.notLoaded } }

/-- A request taken only after a good load (R168). -/
def loadedRequest (f : WriteFrame) (code : RequestCode) (act : State → State × Answer) (s : State) : State :=
  request f.length f.cut false code act s

/-- A request of one role, whose unsuitable payload length its owner answers FIELD_RANGE (R183; log 19). -/
def roleRequest (f : WriteFrame) (code : RequestCode) (roleOk : Role → Bool) (act : State → State × Answer)
    (s : State) : State :=
  loadedRequest f code
    (fun s => judge (firstOf [(!roleOk s.role, .wrongMode), (!f.suits, .fieldRange)]) act s) s

def cutterOnly (r : Role) : Bool := decide (r = .cutter)
def craneOnly (r : Role) : Bool := decide (r = .crane)
def rackOnly (r : Role) : Bool := decide (r = .rack)
def requesterRole (r : Role) : Bool := decide (r ≠ .crane)

end Sys2Proof.Machine
end

