-- ==== Sys2Proof/Machine/LinkTiming.lean ====
section
/-! DEFINITION. The time base, the peer table's aging step, and the link's own events: beacon timers, attempts,
backoff, jabber, probes and framing errors. -/

namespace Sys2Proof.Machine

/-- Changes the floor link controller. -/
def withFlc (f : Flc → Flc) (s : State) : State := { s with flc := f s.flc }

/-- TIME_BASE_TICK: the count gains 1 and wraps (R176). -/
def execTimeBaseTick (s : State) : Host.Outcome State Fault Refusal := .next { s with time := s.time + 1 }

/-! ### Aging (R31) -/

/-- An aging step: every entry is aged, then the step goes to the envelope unit (R31). R14 and R31 set no order of the
entries: the model ages them from position 0 upward, and each change is handed on, evaluated and judged before the
next entry is aged (DESIGN CHOICE, log 58). -/
def agingStep (s : State) : State := envStep ((List.range 48).foldl agePeer s)

/-- AGING_STEP (R31; log 4). -/
def execAgingStep (s : State) : Host.Outcome State Fault Refusal :=
  match s.pt.agingTimer with
  | some t =>
    if s.expired (some t) then .next (agingStep { s with pt := { s.pt with agingTimer := some t.again } })
    else .next s
  | none => .next s

/-! ### Beacon timers (R51, R52) -/

/-- BEACON_TIMER_EXPIRY: a periodic beacon is offered where the part announces itself; the timer runs on (R51). -/
def execBeaconTimerExpiry (s : State) : Host.Outcome State Fault Refusal :=
  match s.flc.beaconTimer with
  | some t =>
    if s.expired (some t) then
      let s := withFlc (fun f => { f with beaconTimer := some t.again }) s
      .next (if s.announces then withFlc (placeBeacon .periodic) s else s)
    else .next s
  | none => .next s

/-- The spacing timer has expired (R52): with the flag set the urgent beacon is offered and the spacing starts again,
otherwise it stops. -/
def spacingEnds (s : State) : State :=
  if s.flc.urgentPending then
    let s := withFlc (fun f => { f with urgentPending := false, spacingTimer := s.timer 20 }) s
    if s.announces then withFlc (placeBeacon .urgent) s else s
  else withFlc (fun f => { f with spacingTimer := none }) s

/-- URGENT_SPACING_EXPIRY (R52). -/
def execUrgentSpacingExpiry (s : State) : Host.Outcome State Fault Refusal :=
  .next (if s.expired s.flc.spacingTimer then spacingEnds s else s)

/-! ### Attempts (R43, R45, R46, R53) -/

/-- The front of a class queue leaves it. -/
def Flc.popFront (f : Flc) (c : TxClass) : Flc := f.setQueue c (f.queueOf c).tail

/-- An attempt at a beacon begins: it takes the current sequence at its first attempt, and its content is formed now
(R53). -/
def startBeacon (c : TxClass) (q : Queued) (rest : List Queued) (s : State) : State :=
  let seq := q.sequence.getD s.flc.beaconSeq
  let next := if q.sequence.isSome then s.flc.beaconSeq else s.flc.beaconSeq + 1
  withFlc (fun f => { f.setQueue c ({ q with sequence := some seq } :: rest) with
    beaconSeq := next
    attempt := some ⟨.queue c, s.beaconCharacters seq⟩ }) s

/-- The attempt with the telegram at the front of a class queue begins; a crane beacon may be withheld (R45, R53). -/
def startAttempt (c : TxClass) (s : State) : State :=
  match s.flc.queueOf c with
  | [] => s
  | q :: rest =>
    match q.body with
    | .beacon =>
      if s.beaconWithheld then
        withFlc (fun f => { f.popFront c with counts := { f.counts with drops := bump f.counts.drops } }) s
      else startBeacon c q rest s
    | .message m =>
      withFlc (fun f => { f with
        attempt := some ⟨.queue c, telegramCharacters q.dest s.cfg.params.station m.kind.code 0 m.payload⟩ }) s

/-- An attempt may begin: link NORMAL, no backoff and no attempt (R43); the idle line is the command's own (log 10). -/
def State.mayAttempt (s : State) : Bool :=
  s.isLoaded && decide (s.flc.link = .normal) && s.flc.backoff.isNone && s.flc.attempt.isNone

/-- ATTEMPT_START (R43, R45). -/
def execAttemptStart (s : State) : Host.Outcome State Fault Refusal :=
  match s.flc.firstClass with
  | some c => .next (if s.mayAttempt then startAttempt c s else s)
  | none => .next s

/-- The attempt in progress; the link sends nothing without a good load (R55). -/
def State.sending (s : State) : Option Attempt := if s.isLoaded then s.flc.attempt else none

/-- The attempt in progress has ended. -/
def endAttempt (s : State) : State := withFlc (fun f => { f with attempt := none }) s

/-- The return to NORMAL (R49). -/
def restoreLink (s : State) : State :=
  let s := withFlc (fun f => { f with
    link := .normal
    collisionRun := 0
    probeTimer := none
    probePending := false }) s
  settle (raise .linkRestored (callUrgent s))

/-- A clean probe ends an isolation that is not for DUPLICATE (R49). -/
def probeClean (s : State) : State :=
  match s.flc.link with
  | .isolated .collisions => restoreLink s
  | .isolated .jabber => restoreLink s
  | .isolated .duplicate => s
  | .normal => s

/-- The sent count gains 1. -/
def countSent (s : State) : State := countLink (fun c => { c with sent := bump c.sent }) s

/-- ATTEMPT_CLEAN (R45, R49). -/
def execAttemptClean (s : State) : Host.Outcome State Fault Refusal :=
  match s.sending with
  | some ⟨.queue c, _⟩ => .next (withFlc (fun f => { f.popFront c with collisionRun := 0 }) (countSent (endAttempt s)))
  | some ⟨.probe, _⟩ => .next (probeClean (countSent (endAttempt s)))
  | none => .next s

/-- The backoff of a telegram's n-th attempt: k slots, k a free value below 2^min(n,8) (R46; log 11). -/
def startBackoff (n : Nat) (s : State) : State :=
  let k := Config.backoffDraw s.freeCount % 2 ^ min n 8
  withFlc (fun f => { f with backoff := if k = 0 then none else some k }) { s with freeCount := s.freeCount + 1 }

/-- A queued telegram's collided attempt (R46), its counts added. -/
def collide (c : TxClass) (q : Queued) (rest : List Queued) (s : State) : State :=
  let n := q.attempts + 1
  let s := withFlc (fun f => { f.setQueue c ({ q with attempts := n } :: rest) with
    attempt := none
    collisionRun := f.collisionRun + 1
    counts := { f.counts with collisions := bump f.counts.collisions } }) s
  let drop (s : State) : State :=
    withFlc (fun f => { f.popFront c with counts := { f.counts with drops := bump f.counts.drops } }) s
  if 40 ≤ s.flc.collisionRun then isolate .collisions s
  else
    match q.body with
    | .beacon => if 4 ≤ n then drop s else startBackoff n s
    | .message m => if 16 ≤ n then raise (.linkDrop m.kind q.dest) (drop s) else startBackoff n s

/-- ATTEMPT_COLLIDED (R46, R49). -/
def execAttemptCollided (s : State) : Host.Outcome State Fault Refusal :=
  match s.sending with
  | some ⟨.queue c, _⟩ =>
    match s.flc.queueOf c with
    | q :: rest => .next (collide c q rest s)
    | [] => .next (endAttempt s)
  | some ⟨.probe, _⟩ => .next (countLink (fun c => { c with collisions := bump c.collisions }) (endAttempt s))
  | none => .next s

/-- BACKOFF_END (R46). -/
def execBackoffEnd (s : State) : Host.Outcome State Fault Refusal :=
  .next (withFlc (fun f => { f with backoff := none }) s)

/-- JABBER_LIMIT: a cut-off attempt isolates the link; a probe is given up (R47, R48). -/
def execJabberLimit (s : State) : Host.Outcome State Fault Refusal :=
  match s.sending with
  | some ⟨.queue _, _⟩ => .next (isolate .jabber s)
  | some ⟨.probe, _⟩ => .next (endAttempt s)
  | none => .next s

/-! ### Probes (R49) -/

/-- PROBE_TIMER_EXPIRY: one probe is made in READY or RUN, in place of one that found no idle line (R49). One withheld
at the expiry was never made, and changes no count (DEDUCED, log 75). -/
def execProbeTimerExpiry (s : State) : Host.Outcome State Fault Refusal :=
  match s.flc.probeTimer, s.flc.link with
  | some t, .isolated _ =>
    if s.expired (some t) then
      .next (withFlc (fun f => { f with
        probeTimer := some t.again
        probePending := decide (s.sp.mode ≠ .offline) && !s.beaconWithheld }) s)
    else .next s
  | _, _ => .next s

/-- The waiting probe goes on the line, or is withheld (R49, R53): it then gains the drop count, as R53 states for a
beacon whose attempt would begin (DEDUCED, log 75). -/
def startProbe (s : State) : State :=
  let s := withFlc (fun f => { f with probePending := false }) s
  if s.beaconWithheld then countLink (fun c => { c with drops := bump c.drops }) s
  else withFlc (fun f => { f with
    beaconSeq := f.beaconSeq + 1
    attempt := some ⟨.probe, s.beaconCharacters f.beaconSeq⟩ }) s

/-- A probe may begin: it waits, the link is ISOLATED and nothing is on the line (R49; log 10). The mode is asked at
the expiry alone (DEDUCED, log 75). -/
def State.mayProbe (s : State) : Bool :=
  s.isLoaded && s.flc.probePending && decide (s.flc.link ≠ .normal) && s.flc.attempt.isNone

/-- PROBE_START (R49). -/
def execProbeStart (s : State) : Host.Outcome State Fault Refusal :=
  .next (if s.mayProbe then startProbe s else s)

/-- TELEGRAM_FRAMING_ERROR (R39); without a good load the counts do not change (R40). -/
def execTelegramFramingError (s : State) : Host.Outcome State Fault Refusal :=
  .next (if s.isLoaded then framingError s else s)

end Sys2Proof.Machine
end

