-- ==== Sys2Proof/Machine/CustodyOps.lean ====
section
/-! DEFINITION. The custody handover's shared operations (chapter 7): judging and holding an offer, confirming it, and
the ends of an offer and of a PENDING record. -/

namespace Sys2Proof.Machine

/-! ### Incoming offer slots (R124 to R126) -/

/-- What an incoming slot, 0 or 1, holds. -/
def Stock.slotAt (t : Stock) (n : Nat) : Option HeldOffer :=
  match n with
  | 0 => t.slot0
  | 1 => t.slot1
  | _ => none

/-- Writes an incoming slot. -/
def Stock.setSlot (t : Stock) (n : Nat) (o : Option HeldOffer) : Stock :=
  match n with
  | 0 => { t with slot0 := o }
  | 1 => { t with slot1 := o }
  | _ => t

/-- The slot that holds an offer of an ID. -/
def Stock.offerOf (t : Stock) (i : StockId) : Option (Nat × HeldOffer) :=
  match t.slot0, t.slot1 with
  | some a, b =>
    if a.piece.id = i then some (0, a) else (b.filter (fun b => decide (b.piece.id = i))).map (fun b => (1, b))
  | none, b => (b.filter (fun b => decide (b.piece.id = i))).map (fun b => (1, b))

/-- A free incoming slot (R124): with both free, slot 0 (DESIGN CHOICE, log 76). -/
def Stock.freeSlot (t : Stock) : Option Nat :=
  match t.slot0, t.slot1 with
  | none, _ => some 0
  | some _, none => some 1
  | some _, some _ => none

/-- Places an offer in a slot, as the offer taken last (log 42). -/
def placeOffer (n : Nat) (p : Piece) (giver : Nat) (s : State) : State :=
  { s with st := { s.st.setSlot n (some ⟨p, giver, s.time, s.timer s.cfg.params.offerTime⟩) with lastPlaced := n } }

/-! ### Acceptance (R126, R127) -/

/-- The checks of a confirmation against the table as it stands (R126). -/
def confirmCheck (t : Stock) (i : StockId) : Option CustodyRefusal :=
  if (t.find i).isSome then some .duplicate
  else if i ∈ t.retired then some .retired
  else if t.isFull then some .full
  else none

/-- The taker sends CUSTODY_ACCEPT, or counts the link's refusal (R127). -/
def sendAccept (giver : Nat) (i : StockId) (s : State) : State :=
  let (t, refused) := offer giver (.custodyAccept i) s
  if refused then countStockRefusal t
  else { t with st := { t.st with acceptsSent := bump t.st.acceptsSent } }

/-- The record an acceptance stores (R127). -/
def acceptedRecord (s : State) (o : HeldOffer) (loc : Location) : StockRecord where
  piece := if s.role = .rack then { o.piece with reservation := none } else o.piece
  location := loc
  custody := .pending
  partner := some o.giver
  entryTime := s.time
  timer := s.timer s.cfg.params.pendingTime

/-- The taker accepts an offer (R127): the record is stored PENDING, the slot freed, the acceptance sent, and a crane's
move unit told (R161). -/
def acceptOffer (n : Nat) (o : HeldOffer) (loc : Location) (s : State) : State :=
  let s := { s with st := (s.st.enter (acceptedRecord s o loc)).setSlot n none }
  let s := sendAccept o.giver o.piece.id s
  if s.role = .crane then acceptedLoad o.piece.id s else s

/-- Confirms a held offer: judged again, then accepted, or dropped and refused with the reason (R126). -/
def confirmOffer (n : Nat) (o : HeldOffer) (loc : Location) (s : State) : State × Option CustodyRefusal :=
  match confirmCheck s.st o.piece.id with
  | some r => (refuseCustody o.giver o.piece.id r { s with st := s.st.setSlot n none }, some r)
  | none => (acceptOffer n o loc s, none)

/-- Confirms the offer a slot holds at HOOK, where it holds one. -/
def confirmSlot (n : Nat) (s : State) : State :=
  match s.st.slotAt n with
  | some o => (confirmOffer n o .hook s).1
  | none => s

/-- A crane confirms every offer it holds, in the order in which they were taken (R126; log 42). -/
def confirmHeld (s : State) : State :=
  if s.role = .crane then
    if s.st.lastPlaced = 0 then confirmSlot 0 (confirmSlot 1 s) else confirmSlot 1 (confirmSlot 0 s)
  else s

/-! ### Judging an offer (R124) -/

/-- The refusals of steps 2 to 7 (R124). -/
def offerCheck (s : State) (p : Piece) : Option CustodyRefusal :=
  if ¬ (pieceOk p ∧ reservationOk p) then some .badRecord
  else if (s.st.find p.id).isSome then some .duplicate
  else if p.id ∈ s.st.retired then some .retired
  else if s.st.isFull then some .full
  else if s.role = .cutter ∧ p.reservation.any (fun r => decide (r ≠ s.cfg.params.station)) then some .notReservedHere
  else if s.role = .cutter ∧ s.st.bed.isSome then some .bedOccupied
  else none

/-- Steps 8 and 9: the offer replaces a held one, is refused, or is placed; a crane with its load attached confirms a
placed offer at once (R124, R126). -/
def holdOffer (p : Piece) (giver : Nat) (s : State) : State :=
  match s.st.offerOf p.id with
  | some (n, o) =>
    if o.giver = giver then placeOffer n p giver s else refuseCustody giver p.id .duplicate s
  | none =>
    match s.st.freeSlot with
    | none => refuseCustody giver p.id .busy s
    | some n =>
      let s := raise (.offerHeld p.id giver p.kind) (placeOffer n p giver s)
      if s.role = .crane ∧ s.lu.loadAttached then confirmSlot n s else s

/-- The taker judges a CUSTODY_OFFER (R124). -/
def takeOffer (p : Piece) (giver : Nat) (s : State) : State :=
  if s.sp.mode = .offline then ignoreCustody s
  else
    match offerCheck s p with
    | some r => refuseCustody giver p.id r s
    | none => holdOffer p giver s

/-! ### The giver's side (R128, R129) -/

/-- Sends CUSTODY_RELEASE, or counts the link's refusal (R128). -/
def sendRelease (taker : Nat) (i : StockId) (s : State) : State :=
  let (t, refused) := offer taker (.custodyRelease i) s
  if refused then countStockRefusal t
  else { t with st := { t.st with releasesSent := bump t.st.releasesSent } }

/-- The giver releases an OFFERED record to its taker (R128). -/
def releaseRecord (n taker : Nat) (i : StockId) (s : State) : State :=
  let s := raise (.handoverDone i taker .giver) { s with st := s.st.remove n }
  let s := sendRelease taker i s
  if s.role = .crane then recordLeaves i true (some taker) s else s

/-- A giver acts on a CUSTODY_ACCEPT (R128). -/
def takeAccept (i : StockId) (source : Nat) (s : State) : State :=
  match s.st.find i, s.st.record i with
  | some n, some r =>
    match r.custody with
    | .offered =>
      if r.partner = some source then releaseRecord n source i s else refuseCustody source i .notOffered s
    | .held => refuseCustody source i .late s
    | .disputed => refuseCustody source i .late s
    | .pending => refuseCustody source i .notOffered s
  | _, _ => refuseCustody source i .notOffered s

/-- A giver's offer ends without a taker: the record is HELD again and HANDOVER_FAILED is raised (R129). -/
def failOffer (n : Nat) (r : StockRecord) (reason : HandoverReason) (s : State) : State :=
  raise (.handoverFailed r.piece.id (r.partner.getD 0) reason) { s with st := s.st.update n StockRecord.toHeld }

/-! ### The taker's ends (R130, R131) -/

/-- A record becomes HELD in its taker's own custody: at a cutter or a rack its reservation is cleared (R130, R132). -/
def settledRecord (role : Role) (r : StockRecord) : StockRecord :=
  { r.toHeld with piece :=
    if role = .crane then r.piece else { r.piece with reservation := none } }

/-- A taker acts on a CUSTODY_RELEASE (R130). -/
def takeRelease (i : StockId) (source : Nat) (s : State) : State :=
  match s.st.find i, s.st.record i with
  | some n, some r =>
    if r.custody = .pending ∧ r.partner = some source then
      raise (.handoverDone i source .taker) { s with st := s.st.update n (settledRecord s.role) }
    else ignoreCustody s
  | _, _ => ignoreCustody s

/-- The taker's PENDING record is refused by its giver and removed (R131, R162). -/
def rejectRecord (n giver : Nat) (i : StockId) (reason : CustodyRefusal) (s : State) : State :=
  let s := raise (.handoverRejected i giver reason) { s with st := s.st.remove n }
  if s.role = .crane then recordLeaves i false none s else s

/-- The reasons that end a taker's PENDING record (R131); the others end a giver's offer (R129). -/
def CustodyRefusal.endsPending : CustodyRefusal → Bool
  | .late => true
  | .notOffered => true
  | .duplicate => false
  | .retired => false
  | .full => false
  | .busy => false
  | .notReservedHere => false
  | .bedOccupied => false
  | .badRecord => false

/-- A CUSTODY_REFUSE is taken (R129, R131; log 46). -/
def takeRefusal (i : StockId) (reason : CustodyRefusal) (source : Nat) (s : State) : State :=
  match s.st.find i, s.st.record i with
  | some n, some r =>
    if r.partner = some source ∧ r.custody = .offered ∧ ¬ reason.endsPending then failOffer n r (.refused reason) s
    else if r.partner = some source ∧ r.custody = .pending ∧ reason.endsPending then rejectRecord n source i reason s
    else ignoreCustody s
  | _, _ => ignoreCustody s

end Sys2Proof.Machine
end

