-- ==== Sys2Proof/Machine/Beacons.lean ====
section
/-! DEFINITION. Beacons received, and telegrams of a kind the table of R182 does not list. -/

namespace Sys2Proof.Machine

/-- BEACON_CUTTER (R26, R40). -/
def execBeaconCutter (t : Telegram) (s : State) : Host.Outcome State Fault Refusal :=
  .next (receiveKind .beaconCutter (takeBeacon .cutter t.source.toNat t.seq t.payload) t s)

/-- BEACON_CRANE (R26, R40). -/
def execBeaconCrane (t : Telegram) (s : State) : Host.Outcome State Fault Refusal :=
  .next (receiveKind .beaconCrane (takeBeacon .crane t.source.toNat t.seq t.payload) t s)

/-- BEACON_RACK (R26, R40). -/
def execBeaconRack (t : Telegram) (s : State) : Host.Outcome State Fault Refusal :=
  .next (receiveKind .beaconRack (takeBeacon .rack t.source.toNat t.seq t.payload) t s)

/-- TELEGRAM_OF_UNKNOWN_KIND: its kind suits no length, so it is a kind error once it passes the first three checks
(R40, R182). -/
def execTelegramOfUnknownKind (kind : Byte) (t : Telegram) (s : State) : Host.Outcome State Fault Refusal :=
  .next (receive kind none id t s)

end Sys2Proof.Machine
end

