-- ==== Sys2Proof/Machine/Custody.lean ====
section
/-! DEFINITION. Custody telegrams received (R124, R128 to R131). A message of another kind than the row's cannot be
read from the row's payload; it would be counted as ignored. -/

namespace Sys2Proof.Machine

/-- CUSTODY_OFFER (R124). -/
def execCustodyOffer (t : Telegram) (s : State) : Host.Outcome State Fault Refusal :=
  let act (m : Message) (s : State) : State :=
    match m with
    | .custodyOffer p => takeOffer p t.source.toNat s
    | _ => ignoreCustody s
  .next (receiveKind .custodyOffer (takeCustody .custodyOffer t act) t s)

/-- CUSTODY_ACCEPT (R128). -/
def execCustodyAccept (t : Telegram) (s : State) : Host.Outcome State Fault Refusal :=
  let act (m : Message) (s : State) : State :=
    match m with
    | .custodyAccept i => takeAccept i t.source.toNat s
    | _ => ignoreCustody s
  .next (receiveKind .custodyAccept (takeCustody .custodyAccept t act) t s)

/-- CUSTODY_RELEASE (R130). -/
def execCustodyRelease (t : Telegram) (s : State) : Host.Outcome State Fault Refusal :=
  let act (m : Message) (s : State) : State :=
    match m with
    | .custodyRelease i => takeRelease i t.source.toNat s
    | _ => ignoreCustody s
  .next (receiveKind .custodyRelease (takeCustody .custodyRelease t act) t s)

/-- CUSTODY_REFUSE (R129, R131). -/
def execCustodyRefuse (t : Telegram) (s : State) : Host.Outcome State Fault Refusal :=
  let act (m : Message) (s : State) : State :=
    match m with
    | .custodyRefuse i r => takeRefusal i r t.source.toNat s
    | _ => ignoreCustody s
  .next (receiveKind .custodyRefuse (takeCustody .custodyRefuse t act) t s)

end Sys2Proof.Machine
end

