-- ==== Sys2Proof/Machine/SearchOps.lean ====
section
/-! DEFINITION. The stock search (chapter 8): what a rack offers to a query, reservations, and the requester's
candidate list. -/

namespace Sys2Proof.Machine

/-! ### A rack's answer (R140 to R142) -/

/-- A usable rectangle is large enough for a query, turned where the query allows it (R141). -/
def rectangleFits (q : QueryFields) (len wid : Nat) : Bool :=
  (decide (q.minLength ≤ len) && decide (q.minWidth ≤ wid))
    || (q.rotation && decide (q.minWidth ≤ len) && decide (q.minLength ≤ wid))

/-- A record fits a query through one of its usable rectangles (R141). -/
def pieceFits (q : QueryFields) (p : Piece) : Bool :=
  match p.notch with
  | none => rectangleFits q p.length p.width
  | some n => rectangleFits q (p.length - n.length) p.width || rectangleFits q p.length (p.width - n.width)

/-- The custody, location and reservation checks of R140. -/
def State.available (s : State) (r : StockRecord) : Bool :=
  (decide (r.custody = .held) || decide (r.custody = .disputed)) && r.piece.reservation.isNone
    && (match r.location with
        | .slot n => !s.slotLocked n
        | .bed => false
        | .table => false
        | .hook => false)

/-- The grade check, bit by bit over the six bits of the grade code (R140). -/
def gradeMatches (q : QueryFields) (grade : Nat) : Bool :=
  decide ((BitVec.ofNat 6 grade &&& BitVec.ofNat 6 q.mask) = (BitVec.ofNat 6 q.grade &&& BitVec.ofNat 6 q.mask))

/-- A record is eligible for a query (R140). -/
def State.eligible (s : State) (q : QueryFields) (r : StockRecord) : Bool :=
  s.available r && gradeMatches q r.piece.grade && decide (r.piece.thickness = q.thickness) && pieceFits q r.piece

/-- The net area of a piece (R142). -/
def pieceScore (p : Piece) : Nat :=
  match p.notch with
  | none => p.length * p.width
  | some n => p.length * p.width - n.length * n.width

/-- The better of two eligible records: the smaller score, then the older entry, then the one met first (R142). -/
def betterRecord (now : Count) (best : Option StockRecord) (r : StockRecord) : Option StockRecord :=
  match best with
  | none => some r
  | some b =>
    if pieceScore r.piece < pieceScore b.piece
        ∨ (pieceScore r.piece = pieceScore b.piece ∧ elapsed now b.entryTime < elapsed now r.entryTime) then some r
    else some b

/-- The eligible record a rack picks (R142). -/
def State.bestRecord (s : State) (q : QueryFields) : Option StockRecord :=
  ((entriesOf s.st.records).filter (s.eligible q)).foldl (betterRecord s.time) none

/-- The candidate a rack makes of a record (R142). -/
def candidateOf (rack : Nat) (r : StockRecord) : Candidate where
  rack := rack
  id := r.piece.id
  slot := match r.location with
    | .slot n => n
    | .bed => 0
    | .table => 0
    | .hook => 0
  grade := r.piece.grade
  thickness := r.piece.thickness
  length := r.piece.length
  width := r.piece.width
  notch := r.piece.notch
  heat := r.piece.heat
  score := pieceScore r.piece

/-- Changes a rack's search counts. -/
def countSearch (f : SearchCounts → SearchCounts) (s : State) : State :=
  { s with st := { s.st with search := f s.st.search } }

/-- A search telegram is counted as ignored at the stock table (R142, R148, R149). -/
def ignoreSearch (s : State) : State := countSearch (fun c => { c with ignored := bump c.ignored }) s

/-- A rack answers queries and reservation requests while its mode is RUN (R142, R148). -/
def State.answers (s : State) : Bool := decide (s.role = .rack) && decide (s.sp.mode = .run)

/-- A rack judges a STOCK_QUERY from a station (R142). -/
def takeQuery (number : Byte) (q : QueryFields) (source : Nat) (s : State) : State :=
  if ¬ s.answers then ignoreSearch s
  else
    match s.bestRecord q with
    | none => countSearch (fun c => { c with unanswered := bump c.unanswered }) s
    | some r =>
      let (t, refused) := offer source (.stockCandidate number (candidateOf s.cfg.params.station r)) s
      if refused then countStockRefusal t else countSearch (fun c => { c with answered := bump c.answered }) t

/-! ### Reservations at the rack (R148, R149) -/

/-- The reservations a table carries. -/
def Stock.reservations (t : Stock) : Nat :=
  ((entriesOf t.records).filter (fun r => r.piece.reservation.isSome)).length

/-- A requester is heard: its peer entry is there and not LOST (R148). -/
def State.hears (s : State) (station : Nat) : Bool := (s.peer station).any (fun e => decide (e.state ≠ .lost))

/-- The result of a RESERVE, and whether it sets the reservation (R148). -/
def reserveResult (s : State) (i : StockId) (source : Nat) : ReserveResult × Bool :=
  if ¬ s.hears source then (.notHeard, false)
  else
    match s.st.record i with
    | none => (.gone, false)
    | some r =>
      if r.piece.reservation = some source then (.ok, false)
      else if ¬ s.available r then (.gone, false)
      else if 16 ≤ s.st.reservations then (.full, false)
      else (.ok, true)

/-- Sets or clears the reservation of a record. -/
def Stock.reserveFor (t : Stock) (i : StockId) (station : Option Nat) : Stock :=
  match t.find i with
  | some n => t.update n (fun r => { r with piece := { r.piece with reservation := station } })
  | none => t

/-- The count a result of a RESERVE gains (R150). -/
def SearchCounts.judged (c : SearchCounts) (r : ReserveResult) (granted : Bool) : SearchCounts :=
  match r with
  | .ok => if granted then { c with granted := bump c.granted } else c
  | .gone => { c with refusedGone := bump c.refusedGone }
  | .full => { c with refusedFull := bump c.refusedFull }
  | .notHeard => { c with refusedNotHeard := bump c.refusedNotHeard }

/-- A rack judges a RESERVE from a station and offers the reply (R148). -/
def takeReserve (number : Byte) (i : StockId) (source : Nat) (s : State) : State :=
  if ¬ s.answers then ignoreSearch s
  else
    let (r, granted) := reserveResult s i source
    let s := countSearch (fun c => c.judged r granted) s
    let s := if granted then { s with st := s.st.reserveFor i (some source) } else s
    let (t, refused) := offer source (.reserveReply number i r) s
    if refused then countStockRefusal t else t

/-- A rack takes an UNRESERVE (R149). -/
def takeUnreserve (i : StockId) (source : Nat) (s : State) : State :=
  if s.role = .rack ∧ (s.st.record i).any (fun r => decide (r.piece.reservation = some source)) then
    { s with st := s.st.reserveFor i none }
  else ignoreSearch s

/-! ### The search unit of a cutter (R143 to R147) -/

/-- Changes the search unit. -/
def withSearch (f : Search → Search) (s : State) : State := { s with su := f s.su }

/-- A candidate or a reservation reply is counted as ignored (R144, R146). R150 lists no count of ignored replies: a
stray refusal gains the count of candidates ignored (DESIGN CHOICE, log 63). -/
def ignoreCandidate (s : State) : State := withSearch (fun u => { u with ignored := bump u.ignored }) s

/-- The order of the candidate list: by score, then by rack station, lowest first (R144). -/
def Candidate.before (a b : Candidate) : Bool :=
  decide (a.score < b.score) || (decide (a.score = b.score) && decide (a.rack < b.rack))

/-- A candidate's place in the ordered list. -/
def insertCandidate (c : Candidate) : List Candidate → List Candidate
  | [] => [c]
  | d :: rest => if c.before d then c :: d :: rest else d :: insertCandidate c rest

/-- A candidate is placed in the list, which keeps eight; the one that falls off is counted as displaced (R144). -/
def placeCandidate (c : Candidate) (u : Search) : Search :=
  let l := insertCandidate c (u.candidates.filter (fun d => d.rack ≠ c.rack))
  { u with
    candidates := l.take 8
    taken := if c ∈ l.take 8 then bump u.taken else u.taken
    displaced := if 8 < l.length then bump u.displaced else u.displaced }

/-- The search unit takes a STOCK_CANDIDATE (R144). -/
def takeCandidate (number : Byte) (c : Candidate) (s : State) : State :=
  if s.role = .cutter ∧ s.su.phase = .collecting ∧ number = s.su.number then withSearch (placeCandidate c) s
  else ignoreCandidate s

/-- The search unit counts a telegram the link refused (R150). -/
def countSearchRefusal (s : State) : State := withSearch (fun u => { u with linkRefusals := bump u.linkRefusals }) s

/-- The query closes and drops what is left of it. -/
def Search.close (u : Search) : Search :=
  { u with phase := .closed, candidates := [], windowTimer := none, reserveTimer := none, awaited := none }

/-- Reserves the first candidate the link takes a RESERVE for; with none left the query closes with NONE (R145). -/
def tryReserve : List Candidate → State → State
  | [], s => raise (.queryResult s.su.number none) (withSearch Search.close s)
  | c :: rest, s =>
    let (t, refused) := offer c.rack (.reserve s.su.number c.id s.cfg.params.station) s
    if refused then tryReserve rest (countSearchRefusal t)
    else withSearch (fun u => { u with
      phase := .reserving
      candidates := c :: rest
      awaited := some c
      windowTimer := none
      reserveTimer := t.timer t.cfg.params.queryWindow }) t

/-- Offers an UNRESERVE to a rack, or counts the link's refusal (R146, R147). -/
def sendUnreserve (rack : Nat) (i : StockId) (s : State) : State :=
  let (t, refused) := offer rack (.unreserve i) s
  if refused then countSearchRefusal t else t

/-- A reply answers the RESERVE that is awaited (R145). -/
def Search.awaits (u : Search) (number : Byte) (i : StockId) (source : Nat) : Bool :=
  decide (u.phase = .reserving) && decide (number = u.number)
    && u.awaited.any (fun c => decide (c.rack = source) && decide (c.id = i))

/-- A won reservation closes the query (R146). -/
def winReservation (s : State) : State :=
  match s.su.awaited with
  | some c =>
    raise (.queryResult s.su.number (some c))
      (withSearch (fun u => { u.close with found := some (c.rack, c.id) }) s)
  | none => s

/-- The search unit takes a RESERVE_REPLY (R145, R146). -/
def takeReserveReply (number : Byte) (i : StockId) (r : ReserveResult) (source : Nat) (s : State) : State :=
  if s.role ≠ .cutter then ignoreCandidate s
  else if s.su.awaits number i source then
    if r = .ok then winReservation s else tryReserve s.su.candidates.tail s
  else if r = .ok then
    withSearch (fun u => { u with strays := bump u.strays }) (sendUnreserve source i s)
  else ignoreCandidate s

end Sys2Proof.Machine
end

