-- ==== Sys2Proof/Machine/SearchTelegrams.lean ====
section
/-! DEFINITION. Search telegrams received (R142, R144 to R146, R148, R149). -/

namespace Sys2Proof.Machine

/-- STOCK_QUERY (R142). -/
def execStockQuery (t : Telegram) (s : State) : Host.Outcome State Fault Refusal :=
  let act (m : Message) (s : State) : State :=
    match m with
    | .stockQuery n q => takeQuery n q t.source.toNat s
    | _ => ignoreSearch s
  .next (receiveKind .stockQuery (takeMessage .stockQuery t ignoreSearch act) t s)

/-- STOCK_CANDIDATE (R144). -/
def execStockCandidate (t : Telegram) (s : State) : Host.Outcome State Fault Refusal :=
  let act (m : Message) (s : State) : State :=
    match m with
    | .stockCandidate n c => takeCandidate n c s
    | _ => ignoreCandidate s
  .next (receiveKind .stockCandidate (takeMessage .stockCandidate t ignoreCandidate act) t s)

/-- RESERVE (R148). The requester is the telegram's source; the requester field is not judged (log 47). -/
def execReserve (t : Telegram) (s : State) : Host.Outcome State Fault Refusal :=
  let act (m : Message) (s : State) : State :=
    match m with
    | .reserve n i _ => takeReserve n i t.source.toNat s
    | _ => ignoreSearch s
  .next (receiveKind .reserve (takeMessage .reserve t ignoreSearch act) t s)

/-- RESERVE_REPLY (R145, R146). -/
def execReserveReply (t : Telegram) (s : State) : Host.Outcome State Fault Refusal :=
  let act (m : Message) (s : State) : State :=
    match m with
    | .reserveReply n i r => takeReserveReply n i r t.source.toNat s
    | _ => ignoreCandidate s
  .next (receiveKind .reserveReply (takeMessage .reserveReply t ignoreCandidate act) t s)

/-- UNRESERVE (R149). -/
def execUnreserve (t : Telegram) (s : State) : Host.Outcome State Fault Refusal :=
  let act (m : Message) (s : State) : State :=
    match m with
    | .unreserve i => takeUnreserve i t.source.toNat s
    | _ => ignoreSearch s
  .next (receiveKind .unreserve (takeMessage .unreserve t ignoreSearch act) t s)

end Sys2Proof.Machine
end

