-- ==== Sys2Proof/Machine/MoveTelegrams.lean ====
section
/-! DEFINITION. Move telegrams received (R154 to R158, R160, R163). -/

namespace Sys2Proof.Machine

/-! ### At the crane (R155, R160, R163) -/

/-- The distance of two X values. -/
def distance (a b : Nat) : Nat := (a - b) + (b - a)

/-- The bid of a crane for a call (R155). -/
def State.bidFor (s : State) (m : MoveInfo) : Nat :=
  min (distance s.env.own.x m.fromX + distance m.fromX m.toX + s.mu.queue.length * s.cfg.params.queuePenalty) 16777215

/-- The crane answers a call (R155). -/
def State.mayBid (s : State) (source : Nat) (tag : Byte) (m : MoveInfo) : Bool :=
  decide (s.sp.mode = .run) && !s.mu.leavePending && decide (s.flc.link = .normal)
    && !s.env.own.isStale s.cfg.params s.time && decide (s.env.own.age s.time ≤ 255)
    && decide (s.mu.queue.length < 8) && !s.mu.queue.any (fun q => q.is source tag)
    && inRange s.cfg.params.ownSpan.lo s.cfg.params.ownSpan.hi m.fromX
    && inRange s.cfg.params.ownSpan.lo s.cfg.params.ownSpan.hi m.toX

/-- A MOVE_CALL is taken (R155). -/
def takeCall (tag : Byte) (call : Nat) (m : MoveInfo) (source : Nat) (s : State) : State :=
  if s.role ≠ .crane then ignoreMove s
  else if s.mayBid source tag m then (sendMove source (.moveBid tag call (s.bidFor m)) s).1
  else countMove (fun c => { c with callsPassed := bump c.callsPassed }) s

/-- The crane takes a new award (R160). -/
def State.mayTake (s : State) : Bool :=
  decide (s.sp.mode = .run) && !s.mu.leavePending && decide (s.mu.queue.length < 8)

/-- The award joins the queue with the next award order number (R160): 0 for the first after a reset, and with no upper
end (DESIGN CHOICE, log 84). -/
def joinQueue (tag : Byte) (m : MoveInfo) (source : Nat) (s : State) : State :=
  let new : QueuedMove := ⟨source, tag, m, s.mu.awardOrder, false⟩
  setMoveQueue (insertQueued new s.mu.queue) { s with mu := { s.mu with awardOrder := s.mu.awardOrder + 1 } }

/-- A MOVE_AWARD is taken, and answered in each case (R160; log 48 for the counts). A move taken while the link is
ISOLATED stays until it is revoked or the link enters ISOLATED again (DESIGN CHOICE, log 65). -/
def takeAward (tag : Byte) (m : MoveInfo) (source : Nat) (s : State) : State :=
  if s.role ≠ .crane then ignoreMove s
  else if s.mu.queue.any (fun q => q.is source tag) then (sendMove source (.awardReply tag true) s).1
  else if s.mayTake then
    (sendMove source (.awardReply tag true)
      (countMove (fun c => { c with awardsTaken := bump c.awardsTaken }) (joinQueue tag m source s))).1
  else
    (sendMove source (.awardReply tag false)
      (countMove (fun c => { c with awardsDeclined := bump c.awardsDeclined }) s)).1

/-- A MOVE_REVOKE is taken (R163). -/
def takeRevoke (tag : Byte) (source : Nat) (s : State) : State :=
  if s.role ≠ .crane then ignoreMove s
  else if s.mu.queue.any (fun q => q.is source tag && q.started) then (sendMove source (.revokeReply tag true) s).1
  else
    (sendMove source (.revokeReply tag false)
      (setMoveQueue (s.mu.queue.filter (fun q => !q.is source tag)) s)).1

/-! ### At the requester (R154, R156 to R158)

A move is looked up by its tag whatever the telegram's destination: this station, all stations or a group of it (DESIGN
CHOICE, log 74). -/

/-- A bid that is not taken is counted as ignored (R154, R167; log 30). -/
def ignoreBid (s : State) : State :=
  countMove (fun c => { c with bidsIgnored := bump c.bidsIgnored, telegramsIgnored := bump c.telegramsIgnored }) s

/-- A bid is taken into the list of an OPEN move whose window runs, for its current call (R154; log 74). -/
def takeMoveBid (tag : Byte) (call bid source : Nat) (s : State) : State :=
  match s.mu.findLive tag, (s.mu.findLive tag).bind (entryAt s.mu.moves) with
  | some n, some e =>
    if e.state = .opened ∧ e.windowTimer.isSome ∧ call = e.callNumber then
      let b : Bid := ⟨source, bid⟩
      let l := takeBid b e.bids
      let s := putMove n { e with bids := l } s
      if b ∈ l then countMove (fun c => { c with bidsTaken := bump c.bidsTaken }) s else s
    else ignoreBid s
  | _, _ => ignoreBid s

/-- The crane awarded has taken the move (R156). -/
def awardTaken (n : Nat) (e : MoveEntry) (crane : Nat) (s : State) : State :=
  let e' := { e with
    state := .awarded
    crane := some crane
    bids := []
    replyTimer := none
    reason := none }
  countMove (fun c => { c with awardsTaken := bump c.awardsTaken }) (changeMove n e e' none s)

/-- An AWARD_REPLY is taken (R156; log 74). A TAKEN from the crane that already has the move is counted as ignored
(DEDUCED, log 77). -/
def takeAwardReply (tag : Byte) (taken : Bool) (source : Nat) (s : State) : State :=
  if s.role = .crane then ignoreMove s
  else
    match s.mu.findLive tag, (s.mu.findLive tag).bind (entryAt s.mu.moves) with
    | some n, some e =>
      if e.awaiting ∧ e.crane = some source then
        if taken then awardTaken n e source s
        else
          passDown n { e with replyTimer := none, crane := none }
            (countMove (fun c => { c with awardsDeclined := bump c.awardsDeclined }) s)
      else if taken ∧ e.crane ≠ some source then (sendRevoke source tag s).1
      else ignoreMove s
    | _, _ => if taken then (sendRevoke source tag s).1 else ignoreMove s

/-- A MOVE_STARTED, or a REVOKE_REPLY(LATE), is taken (R157; log 74). -/
def takeStarted (tag : Byte) (source : Nat) (s : State) : State :=
  match s.mu.findLive tag, (s.mu.findLive tag).bind (entryAt s.mu.moves) with
  | some n, some e => if s.role = .crane then ignoreMove s else startedWith n e source s
  | _, _ => ignoreMove s

/-- A MOVE_DONE is taken: as MOVE_STARTED, then the move ends (R157; log 74). -/
def takeDone (tag : Byte) (carried : Bool) (taker : Option Nat) (source : Nat) (s : State) : State :=
  match s.mu.findLive tag, (s.mu.findLive tag).bind (entryAt s.mu.moves) with
  | some n, some e =>
    if s.role = .crane then ignoreMove s
    else
      let s := startedWith n e source s
      match entryAt s.mu.moves n with
      | some e' =>
        if carried then endMove n e' .done none taker s else endMove n e' .failed (some .notCarried) taker s
      | none => s
  | _, _ => ignoreMove s

/-- A MOVE_RETURN is taken (R157). One from the crane of a STARTED move is counted as ignored (DESIGN CHOICE,
log 71; log 74 for its destination). -/
def takeReturn (tag : Byte) (source : Nat) (s : State) : State :=
  match s.mu.findLive tag, (s.mu.findLive tag).bind (entryAt s.mu.moves) with
  | some n, some e =>
    if s.role ≠ .crane ∧ e.crane = some source ∧ (e.state = .awarded ∨ e.awaiting) then
      reopenMove n e (countMove (fun c => { c with returns := bump c.returns }) s)
    else ignoreMove s
  | _, _ => ignoreMove s

/-- A REVOKE_REPLY is taken (R157, R158; log 74). -/
def takeRevokeReply (tag : Byte) (late : Bool) (source : Nat) (s : State) : State :=
  if late then takeStarted tag source s
  else
    match s.mu.findLive tag, (s.mu.findLive tag).bind (entryAt s.mu.moves) with
    | some n, some e =>
      if s.role ≠ .crane ∧ e.cancelPending ∧ e.crane = some source then endMove n e .failed (some .cancelled) none s
      else ignoreMove s
    | _, _ => ignoreMove s

/-! ### The rows -/

/-- MOVE_CALL (R155). -/
def execMoveCall (t : Telegram) (s : State) : Host.Outcome State Fault Refusal :=
  let act (m : Message) (s : State) : State :=
    match m with
    | .moveCall tag call i => takeCall tag call i t.source.toNat s
    | _ => ignoreMove s
  .next (receiveKind .moveCall (takeMessage .moveCall t ignoreMove act) t s)

/-- MOVE_BID (R154). -/
def execMoveBid (t : Telegram) (s : State) : Host.Outcome State Fault Refusal :=
  let act (m : Message) (s : State) : State :=
    match m with
    | .moveBid tag call bid => takeMoveBid tag call bid t.source.toNat s
    | _ => ignoreMove s
  .next (receiveKind .moveBid (takeMessage .moveBid t ignoreMove act) t s)

/-- MOVE_AWARD (R160). -/
def execMoveAward (t : Telegram) (s : State) : Host.Outcome State Fault Refusal :=
  let act (m : Message) (s : State) : State :=
    match m with
    | .moveAward tag i => takeAward tag i t.source.toNat s
    | _ => ignoreMove s
  .next (receiveKind .moveAward (takeMessage .moveAward t ignoreMove act) t s)

/-- AWARD_REPLY (R156). -/
def execAwardReply (t : Telegram) (s : State) : Host.Outcome State Fault Refusal :=
  let act (m : Message) (s : State) : State :=
    match m with
    | .awardReply tag taken => takeAwardReply tag taken t.source.toNat s
    | _ => ignoreMove s
  .next (receiveKind .awardReply (takeMessage .awardReply t ignoreMove act) t s)

/-- MOVE_REVOKE (R163). -/
def execMoveRevoke (t : Telegram) (s : State) : Host.Outcome State Fault Refusal :=
  let act (m : Message) (s : State) : State :=
    match m with
    | .moveRevoke tag => takeRevoke tag t.source.toNat s
    | _ => ignoreMove s
  .next (receiveKind .moveRevoke (takeMessage .moveRevoke t ignoreMove act) t s)

/-- REVOKE_REPLY (R157, R158). -/
def execRevokeReply (t : Telegram) (s : State) : Host.Outcome State Fault Refusal :=
  let act (m : Message) (s : State) : State :=
    match m with
    | .revokeReply tag late => takeRevokeReply tag late t.source.toNat s
    | _ => ignoreMove s
  .next (receiveKind .revokeReply (takeMessage .revokeReply t ignoreMove act) t s)

/-- MOVE_STARTED (R157). -/
def execMoveStarted (t : Telegram) (s : State) : Host.Outcome State Fault Refusal :=
  let act (m : Message) (s : State) : State :=
    match m with
    | .moveStarted tag => takeStarted tag t.source.toNat s
    | _ => ignoreMove s
  .next (receiveKind .moveStarted (takeMessage .moveStarted t ignoreMove act) t s)

/-- MOVE_RETURN (R157). -/
def execMoveReturn (t : Telegram) (s : State) : Host.Outcome State Fault Refusal :=
  let act (m : Message) (s : State) : State :=
    match m with
    | .moveReturn tag => takeReturn tag t.source.toNat s
    | _ => ignoreMove s
  .next (receiveKind .moveReturn (takeMessage .moveReturn t ignoreMove act) t s)

/-- MOVE_DONE (R157). -/
def execMoveDone (t : Telegram) (s : State) : Host.Outcome State Fault Refusal :=
  let act (m : Message) (s : State) : State :=
    match m with
    | .moveDone tag carried taker => takeDone tag carried taker t.source.toNat s
    | _ => ignoreMove s
  .next (receiveKind .moveDone (takeMessage .moveDone t ignoreMove act) t s)

end Sys2Proof.Machine
end

