-- ==== Sys2Proof/Machine/LineEvents.lean ====
section
/-! DEFINITION. Changes of the sensed lines: ESTOP and LOAD_ATTACHED (R97, R122, R126, R161, R166, R172). -/

namespace Sys2Proof.Machine

/-! ### ESTOP -/

/-- The copy in flight is an arc copy, which ESTOP breaks (R89, R97). -/
def State.estopBreaks (s : State) : Bool :=
  decide (s.rc.release = .inFlight) && s.rc.current.any (fun c => c.copy.content.isArc)

/-- The release controller and the move unit take the assertion of ESTOP (R97, R166). -/
def estopOn (s : State) : State :=
  match s.role with
  | .cutter => if s.estopBreaks then breakCopy .estop s else s
  | .crane => driveLines s
  | .rack => s

/-- The release controller and the move unit take the release of ESTOP: last_nonclear is set and the waiting copy is
judged (R83, R97); a crane's lines wait for the next results (R166). -/
def estopOff (s : State) : State :=
  match s.role with
  | .cutter =>
    settle { s with rc := { s.rc with
      lastNonclear := some s.time
      resumeTimer := s.timer s.cfg.params.resumeDelay } }
  | .crane => driveLines s
  | .rack => s

/-- A change of the ESTOP level is sampled; after a good load it is reported and handed on (R172). -/
def senseEstop (level : Bool) (act : State → State) (s : State) : State :=
  if s.lu.estop = level then s
  else
    let t := { s with lu := { s.lu with estop := level } }
    if s.isLoaded then act (raise (.estopChanged level) t) else t

/-- ESTOP_ASSERTED (R97, R172). -/
def execEstopAsserted (s : State) : Host.Outcome State Fault Refusal := .next (senseEstop true estopOn s)

/-- ESTOP_RELEASED (R97, R172). -/
def execEstopReleased (s : State) : Host.Outcome State Fault Refusal := .next (senseEstop false estopOff s)

/-! ### LOAD_ATTACHED -/

/-- A rise at a crane confirms its held offers (R126) and, in READY and RUN, may start a CLEAR move (R161); the two
come in no set order (R172; log 12). -/
def loadRises (s : State) : State :=
  if s.role = .crane then unordered confirmHeld (fun t => if t.sp.mode = .offline then t else clearRises t) s else s

/-- The record on the hook that the started DELIVER or STORE names, with its position and the move's to-station
(R122). -/
def State.hookRecord (s : State) : Option (Nat × StockRecord × Nat) :=
  match s.mu.startedMove with
  | some m =>
    if m.info.kind = .clear then none
    else
      match m.info.stock.bind s.st.find with
      | some n =>
        match entryAt s.st.records n with
        | some r => if r.location = .hook then some (n, r, m.info.toStation) else none
        | none => none
      | none => none
  | none => none

/-- The hook record is offered to the move's to-station, or HANDOVER_FAILED says why not (R122). -/
def offerFromHook (n : Nat) (r : StockRecord) (dest : Nat) (s : State) : State :=
  if r.custody = .held then
    let (t, refused) := offerRecord n r dest s
    if refused then raise (.handoverFailed r.piece.id dest .sendRefused) t else t
  else raise (.handoverFailed r.piece.id dest .notHeld) s

/-- A fall at a crane in READY and RUN (R122). -/
def loadFalls (s : State) : State :=
  if s.role = .crane ∧ s.sp.mode ≠ .offline then
    match s.hookRecord with
    | some (n, r, dest) => offerFromHook n r dest s
    | none => s
  else s

/-- A change of the LOAD_ATTACHED level is sampled; after a good load it is handed on (R172). -/
def senseLoad (level : Bool) (act : State → State) (s : State) : State :=
  if s.lu.loadAttached = level then s
  else
    let t := { s with lu := { s.lu with loadAttached := level } }
    if s.isLoaded then act t else t

/-- LOAD_ATTACHED_RISES (R126, R161, R172). -/
def execLoadAttachedRises (s : State) : Host.Outcome State Fault Refusal := .next (senseLoad true loadRises s)

/-- LOAD_ATTACHED_FALLS (R122, R172). -/
def execLoadAttachedFalls (s : State) : Host.Outcome State Fault Refusal := .next (senseLoad false loadFalls s)

end Sys2Proof.Machine
end

