-- ==== Sys2Proof/Machine/TimerEvents.lean ====
section
/-! DEFINITION. Timer expiries of the release controller, the stock table, the search unit and the move unit. A timer
that does not run, or whose time has not come, has nothing to end (log 4). -/

namespace Sys2Proof.Machine

/-! ### Release controller (R83, R86, R90) -/

/-- The fault of the current copy: its record is still the queue's head record unless it was flushed (R92, R93). -/
def Current.fault (c : Current) (reason : FaultReason) : ReleaseFault :=
  ⟨reason, c.copy.seq, c.copy.k, c.flushed, !c.flushed⟩

/-- IN_FLIGHT_TIMEOUT (R86, R92, R112). -/
def execInFlightTimeout (s : State) : Host.Outcome State Fault Refusal :=
  match s.rc.release, s.rc.current with
  | .inFlight, some c =>
    if s.expired s.rc.flightTimer then
      .next (enterFaulted (c.fault .inFlightTimeout) s.lu.arcPermit (logMark c .aborted s))
    else .next s
  | _, _ => .next s

/-- HALT_TIMEOUT (R90, R92). -/
def execHaltTimeout (s : State) : Host.Outcome State Fault Refusal :=
  match s.rc.release, s.rc.current with
  | .broken, some c =>
    if s.expired s.rc.haltTimer then .next (enterFaulted (c.fault .haltTimeout) s.lu.arcPermit s)
    else .next s
  | _, _ => .next s

/-- RESUME_TIMER_EXPIRY: the waiting copy is judged (R83). -/
def execResumeTimerExpiry (s : State) : Host.Outcome State Fault Refusal :=
  .next (if s.expired s.rc.resumeTimer then settle { s with rc := { s.rc with resumeTimer := none } } else s)

/-! ### Stock table (R125, R129, R131) -/

/-- OFFER_TIMEOUT of the record at a table position (R129). -/
def execOfferTimeout (position : Nat) (s : State) : Host.Outcome State Fault Refusal :=
  match entryAt s.st.records position with
  | some r =>
    if r.custody = .offered ∧ s.expired r.timer then .next (failOffer position r .timeout s) else .next s
  | none => .next s

/-- HELD_OFFER_EXPIRY of an incoming slot (R125). -/
def execHeldOfferExpiry (slot : Nat) (s : State) : Host.Outcome State Fault Refusal :=
  match s.st.slotAt slot with
  | some o =>
    if s.expired o.timer then
      .next { s with st := { s.st.setSlot slot none with heldExpired := bump s.st.heldExpired } }
    else .next s
  | none => .next s

/-- A PENDING record becomes DISPUTED and keeps its custody partner (R131). -/
def StockRecord.toDisputed (r : StockRecord) : StockRecord := { r with custody := .disputed, timer := none }

/-- PENDING_TIMEOUT of the record at a table position (R131). -/
def execPendingTimeout (position : Nat) (s : State) : Host.Outcome State Fault Refusal :=
  match entryAt s.st.records position with
  | some r =>
    if r.custody = .pending ∧ s.expired r.timer then
      .next (raise (.handoverDisputed r.piece.id (r.partner.getD 0))
        { s with st := s.st.update position StockRecord.toDisputed })
    else .next s
  | none => .next s

/-! ### Search unit (R145) -/

/-- QUERY_WINDOW_EXPIRY (R145). -/
def execQueryWindowExpiry (s : State) : Host.Outcome State Fault Refusal :=
  .next (if s.su.phase = .collecting ∧ s.expired s.su.windowTimer then tryReserve s.su.candidates s else s)

/-- RESERVE_TIMER_EXPIRY: the attempt fails (R145). -/
def execReserveTimerExpiry (s : State) : Host.Outcome State Fault Refusal :=
  .next (if s.su.phase = .reserving ∧ s.expired s.su.reserveTimer then tryReserve s.su.candidates.tail s
    else s)

/-! ### Move unit (R156, R158) -/

/-- BID_WINDOW_EXPIRY of the move at a list position (R156). -/
def execBidWindowExpiry (position : Nat) (s : State) : Host.Outcome State Fault Refusal :=
  match entryAt s.mu.moves position with
  | some e =>
    if e.state = .opened ∧ s.expired e.windowTimer then
      .next (passDown position { e with windowTimer := none } s)
    else .next s
  | none => .next s

/-- AWARD_REPLY_TIMEOUT of the move at a list position: the crane awarded is sent a revocation and the award passes
down the list (R156). -/
def execAwardReplyTimeout (position : Nat) (s : State) : Host.Outcome State Fault Refusal :=
  match entryAt s.mu.moves position with
  | some e =>
    if e.awaiting ∧ s.expired e.replyTimer then
      .next (passDown position { e with replyTimer := none, crane := none }
        (sendRevoke (e.crane.getD 0) e.tag s).1)
    else .next s
  | none => .next s

/-- A revocation asked for by CANCEL_MOVE has drawn no answer: the move stays AWARDED and MOVE_STATE says NO_REPLY
(R158). -/
def cancelUnanswered (n : Nat) (e : MoveEntry) (s : State) : State :=
  let e' := { e with cancelPending := false, replyTimer := none, reason := some .noReply }
  raise (e'.report none) (putMove n e' s)

/-- CANCEL_REPLY_TIMEOUT of the move at a list position (R158). -/
def execCancelReplyTimeout (position : Nat) (s : State) : Host.Outcome State Fault Refusal :=
  match entryAt s.mu.moves position with
  | some e =>
    if e.state = .awarded ∧ e.cancelPending ∧ s.expired e.replyTimer then
      .next (cancelUnanswered position e s)
    else .next s
  | none => .next s

end Sys2Proof.Machine
end

