-- ==== Sys2Proof/Machine/SegmentRequests.lean ====
section
/-! DEFINITION. The segment queue's requests: SEGMENT, FLUSH and RESYNC (R60 to R66). -/

namespace Sys2Proof.Machine

/-! ### SEGMENT (R60 to R64, R66) -/

/-- The header of a SEGMENT payload; a byte the payload is too short to hold is a free value (log 20). -/
structure SegHeader where
  kind : Byte
  seq  : Seq
  deriving DecidableEq, Repr

/-- Reads the kind and the sequence of a SEGMENT payload (R183). -/
def segHeader (free : Nat) (bs : List Byte) : SegHeader :=
  let byte (i : Nat) : Byte := (bs[i]?).getD (Config.unsentByte free i)
  ⟨byte 0, BitVec.ofNat 16 ((byte 1).toNat + 256 * (byte 2).toNat)⟩

/-- A short payload uses up a free value. -/
def useHeader (bs : List Byte) (s : State) : State :=
  if bs.length < 3 then { s with freeCount := s.freeCount + 1 } else s

/-- The form of a record: the first reason of R61 that holds, or its content. -/
def judgeForm (s : State) (h : SegHeader) (bs : List Byte) : Except LockReason SegContent :=
  if ¬ segKindKnown h.kind then .error .unknownKind
  else if s.sq.expected.any (fun e => decide (e ≠ h.seq)) then .error .sequence
  else if s.sq.repeatPending ∧ h.kind ≠ 1 ∧ h.kind ≠ 3 then .error .repeatTarget
  else
    match readSegment bs with
    | none => .error .fieldRange
    | some c =>
      if c.window.any (fun w => decide (w.xhi < w.xlo) || decide (w.yhi < w.ylo)) then .error .windowInverted
      else if c.window.any (fun w => !s.cfg.params.inBed w) then .error .windowOutsideBed
      else .ok c

/-- A REPEAT record (R58). -/
def SegContent.isRepeat (c : SegContent) : Bool := decide (c.kind = .repeats)

/-- A record joins the queue (R62, R73). -/
def joinRecord (r : SegRecord) (q : SegQueue) : SegQueue :=
  { q with
    held := q.held ++ [r]
    accepted := q.accepted + 1
    expected := some (r.seq + 1)
    stream := .opened
    repeatPending := r.content.isRepeat
    armed := q.armed || decide (16 < (q.held ++ [r]).length) }

/-- The reply of an accepted record (R62; log 24). -/
def queuedReply (q : SegQueue) : Answer := (.ok, .queued q.held.length q.stream)

/-- A record is accepted: it may become the head record, and the release controller takes what changes (R62, R67,
R68, R100). -/
def acceptRecord (r : SegRecord) (s : State) : State × Answer :=
  let t := { s with sq := joinRecord r s.sq }
  (rcSettles s (formHead t), queuedReply t.sq)

/-- A malformed record locks the stream (R64). -/
def lockStream (reason : LockReason) (h : SegHeader) (s : State) : State × Answer :=
  (raise (.streamLocked reason h.seq h.kind)
    { s with sq := { s.sq with stream := .locked reason h.seq h.kind } }, .malformed, .lockedBy reason)

/-- Steps 4 to 6 of R60. -/
def admitRecord (h : SegHeader) (bs : List Byte) (s : State) : State × Answer :=
  if 64 ≤ s.sq.held.length then refuse .full s
  else
    match judgeForm s h bs with
    | .error reason => lockStream reason h s
    | .ok c => acceptRecord ⟨h.seq, c⟩ s

/-- A record that is not the seek target is accepted and discarded at once (R66). -/
def seekDiscard (s : State) : State × Answer :=
  let t := { s with sq := { s.sq with accepted := s.sq.accepted + 1, discarded := s.sq.discarded + 1 } }
  (t, queuedReply t.sq)

/-- The segment queue judges a SEGMENT request (R60). -/
def takeSegment (bs : List Byte) (s : State) : State × Answer :=
  if s.role ≠ .cutter ∨ s.sp.mode = .offline then refuse .wrongMode s
  else
    let h := segHeader s.freeCount bs
    match s.sq.stream with
    | .locked _ _ _ => refuse .locked s
    | .seeking target =>
      if h.seq ≠ target then seekDiscard (useHeader bs s) else admitRecord h bs (useHeader bs s)
    | .opened => admitRecord h bs (useHeader bs s)

/-- SEGMENT (R60, R168). -/
def execSegment (w : RawWrite) (s : State) : Host.Outcome State Fault Refusal :=
  .next (request w.length (decide (w.bytes.length < w.length.toNat)) false .segment
    (takeSegment (w.bytes.take w.length.toNat)) s)

/-! ### FLUSH and RESYNC (R65, R66, R94) -/

/-- The release controller takes a flush (R94). -/
def takeFlush (s : State) : State :=
  match s.rc.release with
  | .idle => s
  | .waiting => { s with rc := { s.rc with head := none, release := .idle } }
  | .inFlight =>
    { s with rc := { s.rc with head := none, current := s.rc.current.map (fun c => { c with flushed := true }) } }
  | .broken =>
    endStop { s with rc := { s.rc with head := none, current := none, haltTimer := none, release := .idle } }
  | .faulted => { s with rc := { s.rc with head := none, fault := none, release := .idle } }

/-- The queue discards its held records and the release controller takes the flush (R65, R94). -/
def flushQueue (after : SegQueue → SegQueue) (s : State) : State × Answer :=
  let t := discardAll s
  let t := takeFlush { t with sq := after t.sq }
  (rcSettles s t, .ok, .flushed s.sq.held.length)

/-- FLUSH (R65). -/
def execFlush (f : WriteFrame) (s : State) : Host.Outcome State Fault Refusal :=
  .next (roleRequest f .flush cutterOnly (flushQueue id) s)

/-- The queue seeks a target (R66). -/
def seekTarget (target : Seq) (q : SegQueue) : SegQueue := { q with stream := .seeking target, expected := some target }

/-- RESYNC (R66). -/
def execResync (f : WriteFrame) (target : Seq) (s : State) : Host.Outcome State Fault Refusal :=
  .next (roleRequest f .resync cutterOnly (flushQueue (seekTarget target)) s)

end Sys2Proof.Machine
end

