-- ==== Sys2Proof/Machine/ReleaseRequests.lean ====
section
/-! DEFINITION. The release controller's requests (R87, R88, R90, R93, R96). -/

namespace Sys2Proof.Machine

/-- A report names the current copy (R87, R88, R90). -/
def Current.named (c : Current) (seq : Seq) (k : Nat) : Bool := decide (c.copy.seq = seq) && decide (c.copy.k = k)

/-- The current copy a SEGMENT_DONE completes: the one in flight, or the broken one before its halt report (R87). -/
def State.doneCopy (s : State) (seq : Seq) (k : Nat) : Option Current :=
  match s.rc.release, s.rc.current with
  | .inFlight, some c => if c.named seq k then some c else none
  | .broken, some c => if c.named seq k ∧ ¬ c.halted then some c else none
  | _, _ => none

/-- A SEGMENT_DONE is taken (R87). -/
def takeDoneReport (seq : Seq) (k arcMs : Nat) (s : State) : State × Answer :=
  match s.doneCopy seq k with
  | some c => answerOk (settle (completeCurrent c arcMs s))
  | none => refuse .notInFlight s

/-- SEGMENT_DONE (R87). -/
def execSegmentDone (f : WriteFrame) (seq : Seq) (k arcMs : Nat) (s : State) : Host.Outcome State Fault Refusal :=
  .next (roleRequest f .segmentDone cutterOnly (takeDoneReport seq k arcMs) s)

/-- The current copy a SEGMENT_ABORTED names, in flight or broken (R88). -/
def State.abortedCopy (s : State) (seq : Seq) (k : Nat) : Option Current :=
  match s.rc.release, s.rc.current with
  | .inFlight, some c => if c.named seq k then some c else none
  | .broken, some c => if c.named seq k then some c else none
  | _, _ => none

/-- A SEGMENT_ABORTED is taken (R88). -/
def takeAbort (seq : Seq) (k arcMs : Nat) (s : State) : State × Answer :=
  match s.abortedCopy seq k with
  | some c =>
    let t := if c.copy.content.isArc then addArc arcMs s else s
    answerOk (enterFaulted (c.fault .controllerAbort) s.lu.arcPermit (logMark c .aborted t))
  | none => refuse .notInFlight s

/-- SEGMENT_ABORTED (R88). -/
def execSegmentAborted (f : WriteFrame) (seq : Seq) (k arcMs : Nat) (s : State) : Host.Outcome State Fault Refusal :=
  .next (roleRequest f .segmentAborted cutterOnly (takeAbort seq k arcMs) s)

/-- The broken copy a SEGMENT_HALTED names, not yet halted (R90). -/
def State.haltedCopy (s : State) (seq : Seq) (k : Nat) : Option Current :=
  match s.rc.release, s.rc.current with
  | .broken, some c => if c.named seq k ∧ ¬ c.halted then some c else none
  | _, _ => none

/-- The broken copy is halted: it waits to be resumed, and is judged (R83, R90, R91). -/
def haltCurrent (c : Current) (arcMs : Nat) (s : State) : State :=
  let s := if c.copy.content.isArc then addArc arcMs s else s
  settle { s with rc := { s.rc with current := some { c with halted := true }, haltTimer := none } }

/-- A SEGMENT_HALTED is taken (R90). -/
def takeHalt (seq : Seq) (k arcMs : Nat) (s : State) : State × Answer :=
  match s.haltedCopy seq k with
  | some c => answerOk (haltCurrent c arcMs s)
  | none => refuse .notInFlight s

/-- SEGMENT_HALTED (R90). -/
def execSegmentHalted (f : WriteFrame) (seq : Seq) (k arcMs : Nat) (s : State) : Host.Outcome State Fault Refusal :=
  .next (roleRequest f .segmentHalted cutterOnly (takeHalt seq k arcMs) s)

/-- The faulted copy's record is discarded if it is still the head record, and the queue forms its next copy (R71,
R93). -/
def discardFaulted (s : State) : State :=
  if s.rc.fault.any (fun f => f.recordAtHead) then
    formHead (discardHead { s with rc := { s.rc with head := none } })
  else s

/-- A CONTINUE is taken (R93). -/
def takeContinue (s : State) : State × Answer :=
  if s.rc.release ≠ .faulted then refuse .notFaulted s
  else
    let t := discardFaulted s
    answerOk (rcSettles s { t with rc := { t.rc with
      fault := none
      release := if t.rc.head.isSome then .waiting else .idle } })

/-- CONTINUE (R93). -/
def execContinueRequest (f : WriteFrame) (s : State) : Host.Outcome State Fault Refusal :=
  .next (roleRequest f .continueRequest cutterOnly takeContinue s)

/-- A WEAR_RESTORE sets the wear while it is UNKNOWN; each limit it reaches is reported (R96). -/
def restoreWear (pierces arcMs : Nat) (s : State) : State :=
  let limit := s.cfg.params.pierceLimit
  let s := { s with rc := { s.rc with pierces := min pierces limit, wearKnown := true } }
  let s := if limit ≤ pierces then raise (.wearLimit .pierce) s else s
  settle (addArc arcMs s)

/-- A WEAR_RESTORE is taken (R96). -/
def takeWearRestore (pierces arcMs : Nat) (s : State) : State × Answer :=
  if s.rc.wearKnown then refuse .wearKnown s else answerOk (restoreWear pierces arcMs s)

/-- WEAR_RESTORE (R96). -/
def execWearRestore (f : WriteFrame) (pierces arcMs : Nat) (s : State) : Host.Outcome State Fault Refusal :=
  .next (roleRequest f .wearRestore cutterOnly (takeWearRestore pierces arcMs) s)

/-- The consumables cannot be changed while a copy is in flight, or broken and not halted (R96). -/
def State.consumableBusy (s : State) : Bool :=
  decide (s.rc.release = .inFlight)
    || (decide (s.rc.release = .broken) && s.rc.current.any (fun c => !c.halted))

/-- A CONSUMABLE_CHANGED is taken (R96). -/
def takeConsumable (s : State) : State × Answer :=
  if s.consumableBusy then refuse .busy s
  else answerOk (settle { s with rc := { s.rc with pierces := 0, arcMs := 0, wearKnown := true } })

/-- CONSUMABLE_CHANGED (R96). -/
def execConsumableChanged (f : WriteFrame) (s : State) : Host.Outcome State Fault Refusal :=
  .next (roleRequest f .consumableChanged cutterOnly takeConsumable s)

end Sys2Proof.Machine
end

