-- ==== Sys2Proof/Machine/StockRequests.lean ====
section
/-! DEFINITION. The stock table's requests: DECLARE_STOCK, HAND_OFF, CONFIRM_CUSTODY, BED_LOADED, PLACED, LOCK_SLOT
and UNLOCK_SLOT (R118, R121, R126, R132, R138). -/

namespace Sys2Proof.Machine

/-! ### DECLARE_STOCK (R118) -/

/-- The location a declaration names, where it is open to the role (R118). Beside BED, TABLE and HOOK the slot number
that R183 carries is not looked at (DESIGN CHOICE, log 80). -/
def openLocation (role : Role) (k : LocationKind) (slot : Nat) : Option Location :=
  match role, k with
  | .cutter, .bed => some .bed
  | .cutter, .table => some .table
  | .crane, .hook => some .hook
  | .rack, .slot => some (.slot slot)
  | .cutter, .hook => none
  | .cutter, .slot => none
  | .crane, .bed => none
  | .crane, .table => none
  | .crane, .slot => none
  | .rack, .bed => none
  | .rack, .table => none
  | .rack, .hook => none

/-- A slot outside 1..the configured count, OCCUPIED or locked (R118, R126). -/
def State.slotBad (s : State) (n : Nat) : Bool :=
  !inRange 1 s.cfg.params.slotCount n || (s.st.atSlot n).isSome || s.slotLocked n

/-- The place checks of a declaration (R118, step 7). -/
def State.placeCheck (s : State) : Location → Option ResultCode
  | .slot n => if s.slotBad n then some .slotBad else none
  | .bed => if s.st.bed.isSome then some .bedOccupied else none
  | .table => none
  | .hook => none

/-- Steps 4 to 7 of R118. -/
def declareCheck (s : State) (p : Piece) (loc : Location) : Option ResultCode :=
  if (s.st.find p.id).isSome then some .idInUse
  else if p.id ∈ s.st.retired then some .retired
  else if s.st.isFull then some .full
  else s.placeCheck loc

/-- A declared record enters the table HELD, with no reservation (R118). -/
def enterDeclared (p : Piece) (loc : Location) (s : State) : State :=
  { s with st := s.st.enter ⟨{ p with reservation := none }, loc, .held, none, s.time, none⟩ }

/-- The payload length R183 gives DECLARE_STOCK: the carried record, a location kind and a slot number. -/
def declareLength : Nat := 34

/-- A DECLARE_STOCK is taken (R118). A location kind code that cannot be read fails the form check, at step 2, and is
FIELD_RANGE (DESIGN CHOICE, log 79). A slot number outside R116's 1..64 is judged with the place, at step 7, and is
SLOT_BAD (DESIGN CHOICE, log 61). -/
def takeDeclare (suits : Bool) (record : List Byte) (location : Option LocationKind) (slot : Nat) (s : State) :
    State × Answer :=
  if s.sp.mode = .offline then refuse .wrongMode s
  else
    match readPiece record, location with
    | some p, some k =>
      if ¬ suits ∨ ¬ pieceOk p then refuse .fieldRange s
      else
        match openLocation s.role k slot with
        | none => refuse .badLocation s
        | some loc => judge (declareCheck s p loc) (fun s => answerOk (enterDeclared p loc s)) s
    | _, _ => refuse .fieldRange s

/-- DECLARE_STOCK (R118, R183). -/
def execDeclareStock (f : WriteFrame) (record : List Byte) (location : Option LocationKind) (slot : Nat)
    (s : State) : Host.Outcome State Fault Refusal :=
  .next (loadedRequest f .declareStock (takeDeclare (decide (f.length.toNat = declareLength)) record location slot) s)

/-! ### HAND_OFF (R121) -/

/-- A record at a locked rack slot (R121). -/
def State.atLockedSlot (s : State) (r : StockRecord) : Bool :=
  match r.location with
  | .slot n => decide (s.role = .rack) && s.slotLocked n
  | .bed => false
  | .table => false
  | .hook => false

/-- An unmarked remnant while mark-before-store is configured (R121, R153). -/
def State.unmarkedRemnant (s : State) (r : StockRecord) : Bool :=
  decide (r.piece.kind = .remnant) && !r.piece.marked && s.cfg.params.markBeforeStore

/-- The bed record while a copy is in flight or broken (R121). -/
def State.bedInWork (s : State) (n : Nat) : Bool :=
  decide (s.role = .cutter) && (decide (s.rc.release = .inFlight) || decide (s.rc.release = .broken))
    && decide (s.st.bed = some n)

/-- A HAND_OFF is taken (R121). -/
def takeHandOff (suits : Bool) (i : StockId) (taker : Nat) (s : State) : State × Answer :=
  if s.sp.mode = .offline then refuse .wrongMode s
  else if ¬ suits then refuse .fieldRange s
  else if ¬ inRange 1 62 taker ∨ taker = s.cfg.params.station then refuse .badStation s
  else
    match s.st.find i, s.st.record i with
    | some n, some r =>
      match firstOf [(decide (r.custody ≠ .held), .notHeld), (s.atLockedSlot r, .slotLocked),
          (s.unmarkedRemnant r, .unmarked), (s.bedInWork n, .busy)] with
      | some code => refuse code s
      | none =>
        let (t, refused) := offerRecord n r taker s
        if refused then refuse .sendRefused t else answerOk t
    | _, _ => refuse .noRecord s

/-- HAND_OFF (R121). -/
def execHandOff (f : WriteFrame) (i : StockId) (taker : Nat) (s : State) : Host.Outcome State Fault Refusal :=
  .next (loadedRequest f .handOff (takeHandOff f.suits i taker) s)

/-! ### CONFIRM_CUSTODY (R132) -/

/-- A CONFIRM_CUSTODY is taken (R132). -/
def takeConfirm (suits : Bool) (i : StockId) (s : State) : State × Answer :=
  if ¬ suits then refuse .fieldRange s
  else
    match s.st.find i, s.st.record i with
    | some n, some r =>
      if r.custody = .disputed then
        answerOk { s with st := s.st.update n (settledRecord s.role) }
      else refuse .notDisputed s
    | _, _ => refuse .noRecord s

/-- CONFIRM_CUSTODY (R132). -/
def execConfirmCustody (f : WriteFrame) (i : StockId) (s : State) : Host.Outcome State Fault Refusal :=
  .next (loadedRequest f .confirmCustody (takeConfirm f.suits i) s)

/-! ### BED_LOADED and PLACED (R126) -/

/-- The refusal of a confirmation that fails (R126). -/
def confirmCode : CustodyRefusal → ResultCode
  | .duplicate => .duplicate
  | .retired => .retired
  | .full => .full
  | .busy => .busy
  | .notReservedHere => .notHeld
  | .bedOccupied => .bedOccupied
  | .late => .noOffer
  | .notOffered => .noOffer
  | .badRecord => .fieldRange

/-- A held offer is confirmed by a request (R126). -/
def confirmRequest (n : Nat) (o : HeldOffer) (loc : Location) (s : State) : State × Answer :=
  match confirmOffer n o loc s with
  | (t, some r) => refuse (confirmCode r) t
  | (t, none) => answerOk t

/-- A BED_LOADED is taken (R126). -/
def takeBedLoaded (i : StockId) (s : State) : State × Answer :=
  match s.st.offerOf i with
  | none => refuse .noOffer s
  | some (n, o) => if s.st.bed.isSome then refuse .bedOccupied s else confirmRequest n o .bed s

/-- BED_LOADED (R126). -/
def execBedLoaded (f : WriteFrame) (i : StockId) (s : State) : Host.Outcome State Fault Refusal :=
  .next (loadedRequest f .bedLoaded (fun s =>
    judge (firstOf [(decide (s.role ≠ .cutter) || decide (s.sp.mode = .offline), .wrongMode),
      (!f.suits, .fieldRange)]) (takeBedLoaded i) s) s)

/-- A PLACED is taken (R126). -/
def takePlaced (i : StockId) (slot : Nat) (s : State) : State × Answer :=
  match s.st.offerOf i with
  | none => refuse .noOffer s
  | some (n, o) => if s.slotBad slot then refuse .slotBad s else confirmRequest n o (.slot slot) s

/-- PLACED (R126). -/
def execPlaced (f : WriteFrame) (i : StockId) (slot : Nat) (s : State) : Host.Outcome State Fault Refusal :=
  .next (loadedRequest f .placed (fun s =>
    judge (firstOf [(decide (s.role ≠ .rack) || decide (s.sp.mode = .offline), .wrongMode),
      (!f.suits, .fieldRange)]) (takePlaced i slot) s) s)

/-! ### LOCK_SLOT and UNLOCK_SLOT (R138) -/

/-- The slot's record is OFFERED or PENDING (R138). -/
def State.slotInHandover (s : State) (n : Nat) : Bool :=
  (s.st.atSlot n).any (fun r => decide (r.custody = .offered) || decide (r.custody = .pending))

/-- Sets the runtime lock of a slot. -/
def Stock.lock (t : Stock) (n : Nat) : Stock :=
  { t with runtimeLocks := if n ∈ t.runtimeLocks then t.runtimeLocks else n :: t.runtimeLocks }

/-- Clears the runtime lock of a slot. -/
def Stock.unlock (t : Stock) (n : Nat) : Stock := { t with runtimeLocks := t.runtimeLocks.filter (fun m => m ≠ n) }

/-- A LOCK_SLOT is taken (R138). -/
def takeLock (n : Nat) (s : State) : State × Answer :=
  if ¬ inRange 1 s.cfg.params.slotCount n then refuse .slotBad s
  else if s.slotInHandover n then refuse .busy s
  else answerOk { s with st := s.st.lock n }

/-- LOCK_SLOT (R138). -/
def execLockSlot (f : WriteFrame) (slot : Nat) (s : State) : Host.Outcome State Fault Refusal :=
  .next (roleRequest f .lockSlot rackOnly (takeLock slot) s)

/-- An UNLOCK_SLOT is taken (R138). -/
def takeUnlock (n : Nat) (s : State) : State × Answer :=
  if ¬ inRange 1 s.cfg.params.slotCount n then refuse .slotBad s
  else if s.cfg.params.configLocks.contains n then refuse .configLocked s
  else answerOk { s with st := s.st.unlock n }

/-- UNLOCK_SLOT (R138). -/
def execUnlockSlot (f : WriteFrame) (slot : Nat) (s : State) : Host.Outcome State Fault Refusal :=
  .next (roleRequest f .unlockSlot rackOnly (takeUnlock slot) s)

end Sys2Proof.Machine
end

