-- ==== Sys2Proof/Machine/SearchRequests.lean ====
section
/-! DEFINITION. The search unit's requests: QUERY_STOCK and CANCEL_QUERY (R143, R147). -/

namespace Sys2Proof.Machine

/-- The ranges of a query's fields (R143). -/
def queryOk (q : QueryFields) : Bool :=
  inRange 0 63 q.grade && inRange 0 63 q.mask && inRange 30 1500 q.thickness && inRange 1 24000 q.minLength
    && inRange 1 24000 q.minWidth

/-- The destination of a query: the configured rack group, or all stations (R143). -/
def State.queryDest (s : State) : Nat :=
  match s.cfg.params.rackGroup with
  | some g => 64 + g
  | none => 0

/-- The query opens (R143). -/
def openQuery (number : Byte) (q : QueryFields) (window : Option Timer) (u : Search) : Search :=
  { u with
    phase := .collecting
    number := number
    query := some q
    candidates := []
    windowTimer := window
    reserveTimer := none
    awaited := none
    found := none }

/-- Step 4 of R143: the query number advances and the STOCK_QUERY is offered. -/
def sendQuery (q : QueryFields) (s : State) : State × Answer :=
  let number := s.su.number + 1
  let s := withSearch (fun u => { u with number := number }) s
  let (t, refused) := offer s.queryDest (.stockQuery number q) s
  if refused then refuse .sendRefused (countSearchRefusal t)
  else (withSearch (openQuery number q (t.timer t.cfg.params.queryWindow)) t, .ok, .query number)

/-- A QUERY_STOCK is taken (R143). -/
def takeQueryStock (suits : Bool) (q : QueryFields) (s : State) : State × Answer :=
  if s.role ≠ .cutter ∨ s.sp.mode = .offline then refuse .wrongMode s
  else if s.su.phase ≠ .closed then refuse .busy s
  else if ¬ suits ∨ ¬ queryOk q then refuse .fieldRange s
  else sendQuery q s

/-- QUERY_STOCK (R143). -/
def execQueryStock (f : WriteFrame) (q : QueryFields) (s : State) : Host.Outcome State Fault Refusal :=
  .next (loadedRequest f .queryStock (takeQueryStock f.suits q) s)

/-- The awaited rack may already have granted, so it is sent an UNRESERVE (R147). -/
def cancelReserving (s : State) : State :=
  match s.su.awaited with
  | some c => withSearch Search.close (sendUnreserve c.rack c.id s)
  | none => withSearch Search.close s

/-- A CANCEL_QUERY is taken (R147). -/
def takeCancelQuery (s : State) : State × Answer :=
  match s.su.phase with
  | .collecting => answerOk (withSearch Search.close s)
  | .reserving => answerOk (cancelReserving s)
  | .closed =>
    match s.su.found with
    | some (rack, i) => answerOk (withSearch (fun u => { u with found := none }) (sendUnreserve rack i s))
    | none => refuse .noQuery s

/-- CANCEL_QUERY (R147). -/
def execCancelQuery (f : WriteFrame) (s : State) : Host.Outcome State Fault Refusal :=
  .next (roleRequest f .cancelQuery cutterOnly takeCancelQuery s)

end Sys2Proof.Machine
end

