-- ==== Sys2Proof/Machine/MoveRequests.lean ====
section
/-! DEFINITION. The move unit's and the envelope unit's requests: MOVE_REQUEST, CANCEL_MOVE, MOVE_FINISH and POSITION
(R15, R153, R158, R162, R166). -/

namespace Sys2Proof.Machine

/-! ### MOVE_REQUEST (R153) -/

/-- The fields as the manual writes them: a stock ID of 0 and an X of 0 are absent (R181). -/
def presentFields (m : MoveFields) : MoveFields :=
  { m with
    stock := m.stock.filter (fun i => decide (i ≠ ⟨0, 0⟩))
    fromX := m.fromX.filter (fun x => decide (x ≠ 0))
    toX := m.toX.filter (fun x => decide (x ≠ 0)) }

/-- The X of this station's own anchor (R153). -/
def Params.ownAnchorX (p : Params) : Nat :=
  match p.role with
  | .cutter => (p.bedX + p.bedX + p.bedLength) / 2
  | .crane => 0
  | .rack => p.anchorX

/-- The X of a station's anchor as it stands; none without a peer entry (R153). -/
def State.anchorOf (s : State) (station : Nat) : Option Nat :=
  if station = s.cfg.params.station then some s.cfg.params.ownAnchorX
  else (s.peer station).map (fun e => e.anchorX)

/-- An X of a request, or the anchor of the station it belongs to (R153). -/
def State.resolveX (s : State) (station : Nat) (x : Option Nat) : Option Nat :=
  match x with
  | some x => some x
  | none => s.anchorOf station

/-- The field ranges of a MOVE_REQUEST (R153, check 2). -/
def moveFieldsOk (p : Params) (m : MoveFields) : Bool :=
  m.kind.isSome && inRange 1 62 m.fromStation && inRange 1 62 m.toStation
    && m.fromX.all (fun x => decide (x ≤ p.xmax)) && m.toX.all (fun x => decide (x ≤ p.xmax))
    && decide (m.priority ≤ 3) && (m.stock.isSome || decide (m.kind = some .clear))

/-- The stations suit the kind (R153, check 3). -/
def moveStationsOk (own : Nat) (kind : MoveKind) (m : MoveFields) : Bool :=
  decide (m.fromStation ≠ m.toStation)
    && (match kind with
        | .deliver => decide (m.toStation = own)
        | .store => decide (m.fromStation = own)
        | .clear => true)

/-- The stock checks of a STORE (R153, checks 5 to 7). -/
def State.storeCheck (s : State) (kind : MoveKind) (stock : Option StockId) : Option ResultCode :=
  if kind ≠ .store then none
  else
    match stock.bind s.st.record with
    | none => some .noRecord
    | some r =>
      if r.location ≠ .table ∨ (r.custody ≠ .held ∧ r.custody ≠ .disputed) then some .notHeld
      else if s.unmarkedRemnant r then some .unmarked
      else none

/-- The ended entry that ended earliest (R153; log 41). -/
def oldestEnded (l : List (Option MoveEntry)) : Option Nat :=
  let better (best : Option (Nat × Nat)) (n : Nat) : Option (Nat × Nat) :=
    match entryAt l n with
    | some e =>
      if e.live then best
      else
        match best with
        | some (_, o) => if e.endOrder < o then some (n, e.endOrder) else best
        | none => some (n, e.endOrder)
    | none => best
  ((List.range 8).foldl better none).map (fun b => b.1)

/-- The position a new move takes (R153): of several empty ones the lowest-numbered (DESIGN CHOICE, log 69). -/
def Moves.place (m : Moves) : Option Nat := (lowestEmpty m.moves).or (oldestEnded m.moves)

/-- The tag counter goes on past the tags of live moves (R153). -/
def freshTag (live : List Byte) : Nat → Byte → Byte
  | 0, t => t
  | n + 1, t => if t ∈ live then freshTag live n (t + 1) else t

/-- The tags of the live moves. -/
def Moves.liveTags (m : Moves) : List Byte := ((entriesOf m.moves).filter (fun e => e.live)).map (fun e => e.tag)

/-- A new OPEN move (R153). -/
def newMove (tag : Byte) (info : MoveInfo) : MoveEntry where
  tag := tag
  info := info
  state := .opened
  crane := none
  callNumber := 0
  bids := []
  windowTimer := none
  replyTimer := none
  cancelPending := false
  reason := none
  endOrder := 0

/-- Checks 8 and 9: the new move takes its position and its first call is offered; a refused call leaves the position
as it was and the advanced tag standing (R153; log 29). -/
def openMove (info : MoveInfo) (s : State) : State × Answer :=
  match s.mu.place with
  | none => refuse .full s
  | some n =>
    let tag := freshTag s.mu.liveTags 8 (s.mu.tag + 1)
    let s := { s with mu := { s.mu with tag := tag } }
    let e := (newMove tag info).called (s.timer s.cfg.params.bidWindow)
    let (t, refused) := sendMove s.callDest e.call s
    if refused then refuse .sendRefused t
    else
      (raise (e.report none) (putMove n e (countMove (fun c => { c with callsMade := bump c.callsMade }) t)),
        .ok, .tag tag)

/-- A MOVE_REQUEST of the right role and mode is taken (R153). -/
def takeMoveRequest (suits : Bool) (m : MoveFields) (s : State) : State × Answer :=
  if s.role = .crane ∨ s.sp.mode = .offline then refuse .wrongMode s
  else
    match m.kind with
    | none => refuse .fieldRange s
    | some kind =>
      if ¬ suits ∨ ¬ moveFieldsOk s.cfg.params m then refuse .fieldRange s
      else if ¬ moveStationsOk s.cfg.params.station kind m then refuse .badStation s
      else
        match s.resolveX m.fromStation m.fromX, s.resolveX m.toStation m.toX with
        | some fromX, some toX =>
          judge (s.storeCheck kind m.stock)
            (openMove ⟨kind, m.stock, m.fromStation, fromX, m.toStation, toX, m.priority⟩) s
        | _, _ => refuse .noAnchor s

/-- MOVE_REQUEST (R153, R181). -/
def execMoveRequest (f : WriteFrame) (m : MoveFields) (s : State) : Host.Outcome State Fault Refusal :=
  .next (loadedRequest f .moveRequest (takeMoveRequest f.suits (presentFields m)) s)

/-! ### CANCEL_MOVE (R158) -/

/-- An AWARDED move is revoked: cancel-pending while the answer is awaited; a revocation the link refuses is an
expiry at once (R158). -/
def cancelAwarded (n : Nat) (e : MoveEntry) (crane : Nat) (s : State) : State :=
  let (t, refused) := sendRevoke crane e.tag s
  let e' := { e with cancelPending := true, replyTimer := t.timer t.cfg.params.bidWindow }
  if refused then cancelUnanswered n e' t else putMove n e' t

/-- A live move is cancelled (R158). -/
def cancelLive (n : Nat) (e : MoveEntry) (s : State) : State :=
  match e.state with
  | .opened =>
    if e.awaiting then endMove n e .failed (some .cancelled) none (sendRevoke (e.crane.getD 0) e.tag s).1
    else endMove n e .failed (some .cancelled) none s
  | .awarded => if e.cancelPending then s else cancelAwarded n e (e.crane.getD 0) s
  | .started => endMove n e .failed (some .cancelled) none s
  | .done => s
  | .failed => s

/-- A CANCEL_MOVE is taken (R158). -/
def takeCancelMove (tag : Byte) (s : State) : State × Answer :=
  match s.mu.findLive tag, (s.mu.findLive tag).bind (entryAt s.mu.moves) with
  | some n, some e => answerOk (cancelLive n e s)
  | _, _ => refuse .noMove s

/-- CANCEL_MOVE (R158). -/
def execCancelMove (f : WriteFrame) (tag : Byte) (s : State) : Host.Outcome State Fault Refusal :=
  .next (roleRequest f .cancelMove requesterRole (takeCancelMove tag) s)

/-! ### MOVE_FINISH (R162) -/

/-- A MOVE_FINISH is taken: it finishes the started CLEAR (R162). -/
def takeMoveFinish (s : State) : State × Answer :=
  match s.mu.startedMove with
  | some m => if m.info.kind = .clear then answerOk (finishMove true none s) else refuse .noMove s
  | none => refuse .noMove s

/-- MOVE_FINISH (R162). -/
def execMoveFinish (f : WriteFrame) (s : State) : Host.Outcome State Fault Refusal :=
  .next (roleRequest f .moveFinish craneOnly takeMoveFinish s)

/-! ### POSITION (R15, R166) -/

/-- A POSITION's values, brought into range as R5 states (R15). -/
def ownPosition (p : Params) (now : Count) (v : PositionFields) : OwnPosition where
  x := (clampInt 0 p.xmax v.x).toNat
  y := (clampInt 0 p.ymax v.y).toNat
  vx := clampInt (-5000) 5000 v.vx
  vy := clampInt (-5000) 5000 v.vy
  hx := (clampInt 0 12000 v.hx).toNat
  hy := (clampInt 0 12000 v.hy).toNat
  load := readLoad v.load
  hook := readHook v.hook
  receipt := now
  received := true

/-- A POSITION is taken: the own record is replaced, a change of load or hook calls for an urgent beacon, and the
crane evaluates (R15, R20, R52). A change of both calls for one beacon (DEDUCED, log 25). -/
def takePosition (v : PositionFields) (s : State) : State × Answer :=
  let o := ownPosition s.cfg.params s.time v
  let t := { s with env := { s.env with own := o } }
  answerOk (craneEvaluates (if o.load ≠ s.env.own.load ∨ o.hook ≠ s.env.own.hook then callUrgent t else t))

/-- POSITION (R15, R166). -/
def execPosition (f : WriteFrame) (p : PositionFields) (s : State) : Host.Outcome State Fault Refusal :=
  .next (roleRequest f .position craneOnly (takePosition p) s)

end Sys2Proof.Machine
end

