-- ==== Sys2Proof/Machine/Image.lean ====
section
/-! DEFINITION. The configuration image (R177, R178, R184): its judgement, its blocks, and the parameter set they
give with the values clamped. -/

namespace Sys2Proof.Machine

/-! ### The whole image (R177, R184) -/

/-- The length the header states. -/
def imageLength (bs : List Byte) : Nat := fieldNat bs 2 2

/-- The two-bit validity codes of the eight blocks, identity first (R177, R184). -/
def validityCodes (bs : List Byte) : List Nat :=
  (List.range 8).map (fun i => fieldNat bs 4 2 / 4 ^ i % 4)

/-- The blocks after the header, in order: none for one that runs past the image (R184; log 15). -/
def splitBlocks : Nat → List Byte → List (Option (List Byte))
  | 0, _ => []
  | n + 1, bs =>
    let len := fieldNat bs 0 2
    let rest := bs.drop 2
    if bs.length < 2 ∨ rest.length < len then none :: splitBlocks n []
    else some (rest.take len) :: splitBlocks n (rest.drop len)

/-- The content of a block marked 01 that lies wholly within the image (R177). -/
def imageBlock (bs : List Byte) (i : Nat) : Option (List Byte) :=
  if (validityCodes bs).getD i 0 = 1 then
    ((splitBlocks 8 ((bs.take (imageLength bs)).drop 6)).getD i none)
  else none

/-- A role code (R184). -/
def readRole (n : Nat) : Option Role :=
  match n with
  | 0 => some .cutter
  | 1 => some .crane
  | 2 => some .rack
  | _ => none

/-- The role, the station and the content of a valid identity block (R177, check 4; log 39). -/
def imageIdentity (bs : List Byte) : Option (Role × Nat × List Byte) :=
  match imageBlock bs 0 with
  | some c =>
    match readRole (fieldNat c 1 1) with
    | some role =>
      if 4 ≤ c.length ∧ inRange 1 62 (fieldNat c 0 1) then some (role, fieldNat c 0 1, c) else none
    | none => none
  | none => none

/-- The CRC of the image matches its last two bytes (R177). -/
def imageCrcGood (bs : List Byte) : Bool :=
  let n := imageLength bs
  decide (crcBytes (crc16 (bs.take (n - 2))) = (bs.drop (n - 2)).take 2)

/-- The first check of R177 that fails. -/
def imageFault (bs : List Byte) : Option LoadCause :=
  if fieldNat bs 0 2 ≠ 0x4E21 then some .badKind
  else if 1024 < imageLength bs ∨ imageLength bs < 14 then some .badLength
  else if ¬ imageCrcGood bs then some .badCrc
  else if (imageIdentity bs).isNone then some .badIdentity
  else none

/-! ### Values in range (R178) -/

/-- A parameter set on its way, with the clamped count of the load. -/
structure Loading where
  params  : Params
  clamped : Nat
  deriving DecidableEq, Repr

/-- Reads numbers of `k` bytes in turn, each held in its range, and counts those outside it (R178; log 16). -/
def readRanges : List (Nat × Nat × Nat) → List Byte → List Nat × Nat
  | [], _ => ([], 0)
  | (k, lo, hi) :: rest, bs =>
    let n := fieldNat bs 0 k
    let (vs, c) := readRanges rest (bs.drop k)
    (max lo (min hi n) :: vs, c + if inRange lo hi n then 0 else 1)

/-- Identity: break mode and mark-before-store, an unknown code taking the default and counting as clamped (R178). R184
gives mark-before-store no codes: 1 is set and 0 clear, and any other is not known (DESIGN CHOICE, log 85). -/
def loadIdentity (role : Role) (station : Nat) (bs : List Byte) : Loading :=
  let b := fieldNat bs 2 1
  let m := fieldNat bs 3 1
  { params := { Params.default with
      role := role
      station := station
      breakMode := if b = 1 then .breakFirst else .finishFirst
      markBeforeStore := decide (m = 1) }
    clamped := (if b ≤ 1 then 0 else 1) + (if m ≤ 1 then 0 else 1) }

/-- Geometry (R178, R184); the bed is placed and trimmed afterwards (R1). The own span's bounds are exchanged where
they must be and the span held within the hall (R155). -/
def loadGeometry (l : Loading) (bs : List Byte) : Loading :=
  let (v, c) := readRanges [(3, 1000, 499999), (3, 1000, 99999), (3, 0, 16777215), (3, 0, 16777215),
    (2, 1000, 30000), (2, 1000, 8000)] bs
  let xmax := v.getD 0 0
  let ymax := v.getD 1 0
  let (w, d) := readRanges [(3, 0, xmax), (3, 0, xmax), (3, 0, xmax), (3, 0, ymax)] (bs.drop 16)
  { params := { l.params with
      xmax := xmax
      ymax := ymax
      bedX := v.getD 2 0
      bedY := v.getD 3 0
      bedLength := v.getD 4 0
      bedWidth := v.getD 5 0
      ownSpan := boundSpan xmax (w.getD 0 0) (w.getD 1 0)
      anchorX := w.getD 2 0
      anchorY := w.getD 3 0 }
    clamped := l.clamped + c + d }

/-- Margins and lookaheads (R4, R184). -/
def loadMargins (l : Loading) (bs : List Byte) : Loading :=
  let m : Nat × Nat × Nat := (2, 0, 20000)
  let (v, c) := readRanges [m, m, m, m, m, m, (2, 0, 2000), (2, 0, 2000)] bs
  { params := { l.params with
      marginMark := ⟨v.getD 0 0, v.getD 1 0⟩
      marginLow := ⟨v.getD 2 0, v.getD 3 0⟩
      marginHigh := ⟨v.getD 4 0, v.getD 5 0⟩
      lookCut := v.getD 6 0
      lookCrane := v.getD 7 0 }
    clamped := l.clamped + c }

/-- The timing parameters, in the order of R178's table (R184). -/
def loadTiming (l : Loading) (bs : List Byte) : Loading :=
  let (v, c) := readRanges [(2, 50, 1000), (2, 50, 1000), (2, 50, 1000), (2, 200, 10000), (2, 200, 10000),
    (3, 200, 60000), (3, 200, 60000), (2, 50, 2000), (2, 0, 5000), (2, 0, 5000), (2, 200, 10000), (2, 200, 10000),
    (2, 50, 2000), (2, 50, 2000), (3, 0, 200000)] bs
  { params := { l.params with
      beaconCrane := v.getD 0 0
      beaconCutter := v.getD 1 0
      beaconRack := v.getD 2 0
      staleMobile := v.getD 3 0
      staleRack := v.getD 4 0
      lostMobile := v.getD 5 0
      lostRack := v.getD 6 0
      ownStale := v.getD 7 0
      resumeDelay := v.getD 8 0
      pierceAllowance := v.getD 9 0
      offerTime := v.getD 10 0
      pendingTime := v.getD 11 0
      bidWindow := v.getD 12 0
      queryWindow := v.getD 13 0
      queuePenalty := v.getD 14 0 }
    clamped := l.clamped + c }

/-- The wear limits (R178, R184). -/
def loadWear (l : Loading) (bs : List Byte) : Loading :=
  let (v, c) := readRanges [(2, 1, 4000), (3, 60, 360000)] bs
  { params := { l.params with pierceLimit := v.getD 0 0, arcLimit := v.getD 1 0 }, clamped := l.clamped + c }

/-- Slot count and config-locked slots as stored; those beyond the final count are left out later (R178, R184), and
are not counted as clamped (DESIGN CHOICE, log 73). -/
def loadSlots (l : Loading) (bs : List Byte) : Loading :=
  let (v, c) := readRanges [(1, 1, 64)] bs
  { params := { l.params with
      slotCount := v.getD 0 0
      configLocks := ((bs.drop 2).take (fieldNat bs 1 1)).map BitVec.toNat }
    clamped := l.clamped + c }

/-- One pinned item of 14 bytes: none where its role code is not known (R34, R184). A span brought into form is not
counted as clamped (DESIGN CHOICE, log 73). -/
def readPin (xmax : Nat) (bs : List Byte) : Option Pin :=
  match readRole (fieldNat bs 1 1) with
  | some .cutter => some ⟨fieldNat bs 0 1, .cutter (readRect bs 2)⟩
  | some .crane =>
    some ⟨fieldNat bs 0 1, .crane
      (if ((bs.drop 2).take 12).all (fun b => b == 0) then none
        else some (boundSpan xmax (fieldNat bs 2 3) (fieldNat bs 5 3)))⟩
  | some .rack => some ⟨fieldNat bs 0 1, .rack⟩
  | none => none

/-- The pinned items in list order, each of 14 bytes. -/
def readPins (xmax : Nat) : Nat → List Byte → List Pin
  | 0, _ => []
  | n + 1, bs => (readPin xmax (bs.take 14)).toList ++ readPins xmax n (bs.drop 14)

/-- The list without its faulty items: the part's own number, a station outside 1..62, and a station already named
(R34). -/
def goodPins (own : Nat) (named : List Nat) : List Pin → List Pin
  | [] => []
  | i :: rest =>
    if i.station = own ∨ ¬ inRange 1 62 i.station ∨ i.station ∈ named then goodPins own named rest
    else i :: goodPins own (i.station :: named) rest

/-- A link group, or none for 0 or a number outside 1..16 (R178, R184), which is not counted as clamped (DESIGN CHOICE,
log 18). -/
def readGroup (n : Nat) : Option Nat := if inRange 1 16 n then some n else none

/-- The bytes the groups-and-pins block needs (R184). -/
def groupsNeed (bs : List Byte) : Nat :=
  let m := fieldNat bs 0 1
  1 + m + 3 + 14 * fieldNat bs (3 + m) 1

/-- Memberships, rack and crane group, and the pinned station list (R178, R184). What is left out of them is not counted
as clamped (DESIGN CHOICE, logs 18 and 73). -/
def loadGroups (l : Loading) (bs : List Byte) : Loading :=
  let m := fieldNat bs 0 1
  let groups := (((bs.drop 1).take m).map BitVec.toNat).filter (inRange 1 16)
  let rest := bs.drop (1 + m)
  let pins := readPins l.params.xmax (min (fieldNat rest 2 1) 16) (rest.drop 3)
  { l with params := { l.params with
      groups := groups.take 8
      rackGroup := readGroup (fieldNat rest 0 1)
      craneGroup := readGroup (fieldNat rest 1 1)
      pins := goodPins l.params.station [] pins } }

/-! ### Templates (R104, R184) -/

/-- A text of the image and what follows it. -/
def splitText (bs : List Byte) : Option (Text × List Byte) :=
  match bs with
  | [] => none
  | len :: rest => if rest.length < len.toNat then none else some (rest.take len.toNat, rest.drop len.toNat)

/-- A character outside the marking alphabet is loaded as a space, and the text is cut to its length (R104). -/
def loadText (n : Nat) (t : Text) : Text := (t.map (fun b => if inAlphabet b then b else 0x20#8)).take n

/-- The field codes of template items (R184). -/
def readField (n : Nat) : Option LegendField :=
  match n with
  | 1 => some .part
  | 2 => some .heat
  | 3 => some .grade
  | 4 => some .thick
  | 5 => some .stockId
  | 6 => some .dims
  | 7 => some .station
  | _ => none

/-- Reads the items of a template as stored, leaving out empty literals and unknown fields, and what follows. -/
def splitItems : Nat → List Byte → Option (List TemplateItem × List Byte)
  | 0, bs => some ([], bs)
  | n + 1, bs =>
    match bs with
    | [] => none
    | ty :: rest =>
      if ty = 0 then
        match splitText rest with
        | none => none
        | some (t, rest) =>
          (splitItems n rest).map fun r =>
            ((if t.isEmpty then r.1 else .literal (loadText 16 t) :: r.1), r.2)
      else
        (splitItems n rest).map fun r =>
          ((match readField ty.toNat with
            | some f => .field f :: r.1
            | none => r.1), r.2)

/-- A template keeps twelve items; one without items takes the default template (R104). -/
def formTemplate (items : List TemplateItem) : List TemplateItem :=
  if items.isEmpty then defaultTemplate else items.take 12

/-- Reads templates in turn. -/
def splitTemplates : Nat → List Byte → Option (List (List TemplateItem))
  | 0, _ => some []
  | n + 1, bs =>
    match bs with
    | [] => none
    | count :: rest =>
      match splitItems count.toNat rest with
      | none => none
      | some (items, rest) => (splitTemplates n rest).map (fun ts => formTemplate items :: ts)

/-- The default prefix and the eight templates of the block; none where it is too short (R184). -/
def readTemplates (bs : List Byte) : Option (Text × List (List TemplateItem)) :=
  match splitText bs with
  | none => none
  | some (p, rest) => (splitTemplates 8 rest).map (fun ts => (loadText 8 p, ts))

/-- The templates block (R104). What is brought into form in it is not counted as clamped (DESIGN CHOICE, log 35). -/
def loadTemplates (l : Loading) (v : Text × List (List TemplateItem)) : Loading :=
  { l with params := { l.params with partPrefix := v.1, templates := v.2 } }

/-! ### Blocks loaded or defaulted (R177, R184) -/

/-- A block is used when it is marked 01, lies within the image and holds what it needs. -/
def usableBlock (bs : List Byte) (i : Nat) (need : List Byte → Nat) : Option (List Byte) :=
  (imageBlock bs i).filter (fun c => decide (need c ≤ c.length))

/-- Loads a block, or notes that it takes its defaults. -/
def useBlock (name : ImageBlock) (block : Option (List Byte)) (f : Loading → List Byte → Loading)
    (acc : Loading × List ImageBlock) : Loading × List ImageBlock :=
  match block with
  | some c => (f acc.1 c, acc.2)
  | none => (acc.1, acc.2 ++ [name])

/-- Adjustment 1 of R178: the bed is placed and trimmed as R1 states, in the CUTTER role (log 36). -/
def placeBed (p : Params) : Params :=
  if p.role = .cutter then
    let x := min p.bedX (p.xmax - 1000)
    let y := min p.bedY (p.ymax - 1000)
    { p with bedX := x, bedY := y, bedLength := min p.bedLength (p.xmax - x), bedWidth := min p.bedWidth (p.ymax - y) }
  else p

/-- Adjustment 2 of R178: each Mh(c) is raised to Mc(c) where Mc(c) is the greater (R4). -/
def raiseMargins (p : Params) : Params :=
  let up (m : Margins) : Margins := ⟨max m.hold m.cutoff, m.cutoff⟩
  { p with marginMark := up p.marginMark, marginLow := up p.marginLow, marginHigh := up p.marginHigh }

/-- Adjustment 3 of R178: each lost time is raised to the stale time of its roles (R32). -/
def raiseLost (p : Params) : Params :=
  { p with lostMobile := max p.lostMobile p.staleMobile, lostRack := max p.lostRack p.staleRack }

/-- An adjustment counts as clamped when it changes a value (R178; log 16). -/
def adjust (f : Params → Params) (l : Loading) : Loading :=
  ⟨f l.params, l.clamped + if f l.params = l.params then 0 else 1⟩

/-- The parameter set of a good image, with its clamped count and the blocks that took defaults, before the
comparison of R179. -/
def loadImage (role : Role) (station : Nat) (identity bs : List Byte) : Loading × List ImageBlock :=
  let acc : Loading × List ImageBlock := (loadIdentity role station identity, [])
  let acc := useBlock .geometry (usableBlock bs 1 (fun _ => 28)) loadGeometry acc
  let acc := useBlock .margins (usableBlock bs 2 (fun _ => 16)) loadMargins acc
  let acc := useBlock .timing (usableBlock bs 3 (fun _ => 33)) loadTiming acc
  let acc := useBlock .wear (usableBlock bs 4 (fun _ => 5)) loadWear acc
  let acc := useBlock .rackSlots (usableBlock bs 5 (fun c => 2 + fieldNat c 1 1)) loadSlots acc
  let acc := useBlock .groupsAndPins (usableBlock bs 6 groupsNeed) loadGroups acc
  let acc : Loading × List ImageBlock :=
    match (imageBlock bs 7).bind readTemplates with
    | some v => (loadTemplates acc.1 v, acc.2)
    | none => (acc.1, acc.2 ++ [.templates])
  (adjust raiseLost (adjust raiseMargins (adjust placeBed acc.1)), acc.2)

end Sys2Proof.Machine
end

