-- ==== Sys2Proof/Machine/StartUp.lean ====
section
/-! DEFINITION. Power-on, restart and the load (R174, R175, R177 to R180): POWER_ON, I2C_TRANSFER_DONE, and what a
RESTART does to every block. -/

namespace Sys2Proof.Machine

/-! ### Resets (R21, R37, R55, R76, R102, R115, R135, R136, R139, R151, R167, R172, R174) -/

/-- The output lines withdrawn, the input samples kept (R172; log 6). -/
def Lines.withdrawn (l : Lines) : Lines := { Lines.reset with estop := l.estop, loadAttached := l.loadAttached }

/-- POWER_ON: every block in its reset state and the time base at 0. The input levels are those of the pins (log 6);
the commands that wait, and the free values, are not the part's (log 1, log 3). -/
def execPowerOn (s : State) : Host.Outcome State Fault Refusal :=
  .next { State.reset with pending := s.pending, freeCount := s.freeCount, lu := s.lu.withdrawn }

/-- A record's offer or pending timer is stopped. -/
def StockRecord.stopped (r : StockRecord) : StockRecord := { r with timer := none }

/-- The stock table at a RESTART: timers stopped, incoming slots emptied, the rack's search counts 0; the table, the
retired list and the runtime locks stand (R136, R139, R151). -/
def Stock.restart (t : Stock) : Stock :=
  { t with
    records := t.records.map (fun o => o.map StockRecord.stopped)
    slot0 := none
    slot1 := none
    search := .reset }

/-- The release controller at a RESTART keeps its wear (R102). -/
def Rc.restart (r : Rc) : Rc := { Rc.reset with pierces := r.pierces, arcMs := r.arcMs, wearKnown := r.wearKnown }

/-- The configuration loader begins a new load from address 0, keeping what it remembers (R175; log 5). -/
def Cfg.restart (c : Cfg) : Cfg := { Cfg.reset with remembered := c.remembered, params := c.params }

/-- What a RESTART does to every block (R174). -/
def restartPart (s : State) : State :=
  { s with
    cfg := s.cfg.restart
    flc := .reset
    pt := .reset
    env := .reset
    sq := .reset
    rc := s.rc.restart
    lc := .reset
    st := s.st.restart
    su := .reset
    mu := .reset
    sp := .reset
    lu := s.lu.withdrawn }

/-! ### The load's outcome (R179, R180) -/

/-- The load ends in CONFIG_FAULT (R177, R180). -/
def endInFault (cause : LoadCause) (s : State) : State :=
  raise (.loadFault cause)
    { s with cfg := { s.cfg with load := .configFault, cause := some cause, image := [], refusals := 0 } }

/-- A kept record after a load of the same role and station (R136). -/
def keptRecord (role : Role) (r : StockRecord) : StockRecord :=
  let p := if role = .rack then { r.piece with reservation := none } else r.piece
  match r.custody with
  | .offered => { r with piece := p, custody := .held, partner := none, timer := none }
  | .pending => { r with piece := p, custody := .disputed, timer := none }
  | .held => { r with piece := p, timer := none }
  | .disputed => { r with piece := p, timer := none }

/-- The stock table after a load of the same role and station: records kept, counts 0, and a runtime lock beyond the
slot count cleared (R136, R139). -/
def Stock.keep (t : Stock) (role : Role) (slotCount : Nat) : Stock :=
  { Stock.reset with
    records := t.records.map (fun o => o.map (keptRecord role))
    bed := t.bed
    retired := t.retired
    runtimeLocks := t.runtimeLocks.filter (fun n => decide (n ≤ slotCount)) }

/-- The highest slot a record occupies. -/
def Stock.highestSlot (t : Stock) : Nat :=
  (entriesOf t.records).foldl (fun h r =>
    match r.location with
    | .slot n => max h n
    | .bed => h
    | .table => h
    | .hook => h) 0

/-- Adjustment 4 of R178: on a RESTART that keeps a rack's table the slot count is raised to the highest slot a kept
record occupies (R139). -/
def raiseSlots (same : Bool) (t : Stock) (p : Params) : Params :=
  if same ∧ p.role = .rack then { p with slotCount := max p.slotCount t.highestSlot } else p

/-- Config-locked slots outside the final count are left out (R178), and not counted as clamped (DESIGN CHOICE, log 73). -/
def trimLocks (p : Params) : Params :=
  { p with configLocks := p.configLocks.filter (fun n => inRange 1 p.slotCount n) }

/-- The wear after a load: kept for the same role and station, otherwise as at power-on (R102). -/
def Rc.afterLoad (r : Rc) (same : Bool) (limit : Nat) : Rc :=
  if same then { r with pierces := min r.pierces limit } else { r with pierces := 0, arcMs := 0, wearKnown := false }

/-- The beacon period of a role (R51). -/
def Params.beaconPeriod (p : Params) : Nat :=
  match p.role with
  | .cutter => p.beaconCutter
  | .crane => p.beaconCrane
  | .rack => p.beaconRack

/-- A good image is loaded (R179): the comparison, the parameters and what each block keeps, the pinned entries, the
timers, and LOAD_RESULT. -/
def succeed (role : Role) (station : Nat) (identity : List Byte) (s : State) : State :=
  let same := decide (s.cfg.remembered = some (role, station))
  let (l, defaulted) := loadImage role station identity s.cfg.image
  let l := adjust (raiseSlots same s.st) l
  let p := trimLocks l.params
  raise (.loadLoaded role station same defaulted l.clamped)
    { s with
      cfg := {
        load := .loaded
        cause := none
        remembered := some (role, station)
        image := []
        refusals := 0
        validity := validityCodes s.cfg.image
        clamped := l.clamped
        params := p }
      st := if same then s.st.keep role p.slotCount else .reset
      rc := s.rc.afterLoad same p.pierceLimit
      pt := { PeerTable.reset with entries := pinnedTable p s.time, agingTimer := s.timer 20 }
      flc := { s.flc with beaconTimer := s.timer p.beaconPeriod } }

/-- The image has been read and is judged (R177). -/
def judgeImage (s : State) : State :=
  match imageFault s.cfg.image, imageIdentity s.cfg.image with
  | some cause, _ => endInFault cause s
  | none, some (role, station, c) => succeed role station c s
  | none, none => endInFault .badIdentity s

/-- The whole image has been read: the header, and as many bytes as it states (R175; log 14). -/
def imageRead (bs : List Byte) : Bool := decide (6 ≤ bs.length) && decide (imageLength bs ≤ bs.length)

/-- An acknowledged transfer brings bytes of the image (R175). -/
def takeBytes (data : List Byte) (s : State) : State :=
  let image := s.cfg.image ++ data
  let t := { s with cfg := { s.cfg with image := image, refusals := 0 } }
  if imageRead image then judgeImage t else t

/-- A transfer that is not acknowledged is tried again up to three more times; a fourth refusal ends the load
(R175). -/
def refuseTransfer (s : State) : State :=
  if 3 ≤ s.cfg.refusals then endInFault .noAck s
  else { s with cfg := { s.cfg with refusals := s.cfg.refusals + 1 } }

/-- I2C_TRANSFER_DONE (R175). -/
def execI2cTransferDone (acked : Bool) (data : List Byte) (s : State) : Host.Outcome State Fault Refusal :=
  .next (if s.cfg.load = .loading then (if acked then takeBytes data s else refuseTransfer s) else s)

end Sys2Proof.Machine
end

