-- ==== Sys2Proof/Machine/PortRequests.lean ====
section
/-! DEFINITION. The station port's own requests and reads: SET_MODE, STATUS, READ_TABLE, RESTART, unknown requests,
READ_REPLY, READ_NOTICE and void transactions (R168 to R174). -/

namespace Sys2Proof.Machine

/-! ### SET_MODE (R99, R164, R171) -/

/-- A leave of RUN: the owner of the role hands it back at once, or leaves it pending (R171). The Bool says that it is
pending. -/
def leaveRun (s : State) : State × Bool :=
  match s.role with
  | .cutter =>
    if s.rc.release = .inFlight ∨ s.rc.release = .broken then
      ({ s with rc := { s.rc with stopPending := true } }, true)
    else (changeMode .ready s, false)
  | .crane => craneLeaves s
  | .rack => (changeMode .ready s, false)

/-- The reply OK of a SET_MODE with the outcome DONE. R171 gives an outcome to the leave of RUN alone; every other OK
carries DONE too (DESIGN CHOICE, log 82). -/
def modeDone (s : State) : State × Answer := (s, .ok, .mode false)

/-- A SET_MODE is taken (R171). -/
def takeSetMode (target : Mode) (s : State) : State × Answer :=
  match s.sp.mode, target with
  | .offline, .offline => modeDone s
  | .offline, .ready => modeDone (changeMode .ready s)
  | .offline, .run => refuse .wrongMode s
  | .ready, .offline => modeDone (changeMode .offline s)
  | .ready, .ready => modeDone s
  | .ready, .run => modeDone (settle (changeMode .run s))
  | .run, .offline => refuse .wrongMode s
  | .run, .ready =>
    if s.leavePending then (s, .ok, .mode true)
    else
      let (t, pending) := leaveRun s
      (t, .ok, .mode pending)
  | .run, .run => if s.leavePending then refuse .busy s else modeDone s

/-- A SET_MODE whose target can be read, or FIELD_RANGE (R171, R183; log 34). -/
def judgeSetMode (suits : Bool) (target : Option Mode) (s : State) : State × Answer :=
  match target with
  | some m => if suits then takeSetMode m s else refuse .fieldRange s
  | none => refuse .fieldRange s

/-- SET_MODE (R171). -/
def execSetMode (f : WriteFrame) (target : Option Mode) (s : State) : Host.Outcome State Fault Refusal :=
  .next (loadedRequest f .setMode (judgeSetMode f.suits target) s)

/-! ### STATUS (R36, R54, R75, R102, R134, R150, R167, R173) -/

/-- The port's own items. -/
def State.portStatus (s : State) : PortStatus where
  load := s.cfg.load
  role := s.role
  station := s.cfg.params.station
  mode := s.sp.mode
  leavePending := s.leavePending
  taken := s.sp.taken
  bufferFull := s.sp.bufferFull
  notLoaded := s.sp.notLoaded
  frameErrors := s.sp.frameErrors
  notices := s.sp.notices.length
  lost := s.sp.lost
  lines := s.lu
  notice := s.noticeLine
  cause := s.cfg.cause
  validity := s.cfg.validity
  clamped := s.cfg.clamped

/-- R54. -/
def State.linkStatus (s : State) : LinkStatus where
  link := s.flc.link
  collisionRun := s.flc.collisionRun
  class0 := s.flc.class0.length
  class1 := s.flc.class1.length
  class2 := s.flc.class2.length
  class3 := s.flc.class3.length
  counts := s.flc.counts

/-- R75. -/
def State.queueStatus (s : State) : QueueStatus where
  stream := s.sq.stream
  expected := s.sq.expected
  held := s.sq.held.length
  head := s.sq.cursor.map (fun c => (c.record.seq, c.record.content.kind, c.k, c.copies))
  accepted := s.sq.accepted
  consumed := s.sq.consumed
  discarded := s.sq.discarded

/-- R102. -/
def State.releaseStatus (s : State) : ReleaseStatus where
  release := s.rc.release
  fault := s.rc.fault.map (fun f => (f.reason, f.seq, f.k))
  reasons := s.holdReasons
  current := s.rc.current.map (fun c => (c.copy.seq, c.copy.k, c.cause, c.halted))
  stopPending := s.rc.stopPending
  wearKnown := s.rc.wearKnown
  pierces := s.rc.pierces
  arcMs := s.rc.arcMs
  arcPermit := s.lu.arcPermit

/-- The records in a custody state. -/
def Stock.inCustody (t : Stock) (c : Custody) : Nat :=
  ((entriesOf t.records).filter (fun r => decide (r.custody = c))).length

/-- The slots of the map in the RACK role; the other roles have none (R137). -/
def State.mapSlots (s : State) : List Nat := if s.role = .rack then s.slots else []

/-- R134, R150. The reservations held are those the records carry, in every role (DESIGN CHOICE, log 64). -/
def State.stockStatus (s : State) : StockStatus where
  held := s.st.inCustody .held
  offered := s.st.inCustody .offered
  pending := s.st.inCustody .pending
  disputed := s.st.inCustody .disputed
  retired := s.st.retired.length
  incoming := s.st.slot0.toList.length + s.st.slot1.toList.length
  bed := s.bedRecord.map (fun r => r.piece.id)
  offersMade := s.st.offersMade
  acceptsSent := s.st.acceptsSent
  releasesSent := s.st.releasesSent
  refusalsSent := s.st.refusalsSent
  heldExpired := s.st.heldExpired
  linkRefusals := s.st.linkRefusals
  ignored := s.st.ignored
  slotCount := s.mapSlots.length
  slotsFree := (s.mapSlots.filter (fun n => (s.st.atSlot n).isNone)).length
  slotsUsed := (s.mapSlots.filter (fun n => (s.st.atSlot n).isSome)).length
  slotsLocked := (s.mapSlots.filter s.slotLocked).length
  reservations := s.st.reservations
  search := s.st.search

/-- R150. -/
def State.searchStatus (s : State) : SearchStatus where
  phase := s.su.phase
  number := s.su.number
  candidates := s.su.candidates.length
  awaited := s.su.awaited
  found := s.su.found
  taken := s.su.taken
  ignored := s.su.ignored
  displaced := s.su.displaced
  strays := s.su.strays
  linkRefusals := s.su.linkRefusals

/-- R167. -/
def State.moveStatus (s : State) : MoveStatus where
  live := ((entriesOf s.mu.moves).filter (fun e => e.live)).length
  ended := ((entriesOf s.mu.moves).filter (fun e => !e.live)).length
  queue := s.mu.queue.length
  started := s.mu.startedMove.map (fun m => (m.requester, m.tag))
  leavePending := s.mu.leavePending
  counts := s.mu.counts

/-- R36. -/
def State.peerStatus (s : State) : PeerStatus where
  stored := s.pt.stored
  seqDiscards := s.pt.seqDiscards
  sourceDiscards := s.pt.sourceDiscards
  evictions := s.pt.evictions
  tableFull := s.pt.tableFull

/-- The STATUS report (R173). -/
def State.statusReport (s : State) : StatusReport where
  port := s.portStatus
  peers := s.peerStatus
  link := s.linkStatus
  queue := s.queueStatus
  release := s.releaseStatus
  stock := s.stockStatus
  search := s.searchStatus
  moves := s.moveStatus

/-- A STATUS is taken (R173). -/
def takeStatus (suits : Bool) (s : State) : State × Answer :=
  if suits then (s, .ok, .status s.statusReport) else refuse .fieldRange s

/-- STATUS, taken in CONFIG_FAULT too (R168, R173). -/
def execStatus (f : WriteFrame) (s : State) : Host.Outcome State Fault Refusal :=
  .next (request f.length f.cut true .status (takeStatus f.suits) s)

/-! ### READ_TABLE (R36, R114, R134, R150, R167, R173) -/

/-- An index is inside its table's range (R173). -/
def tableRange (t : TableName) (i : Nat) : Bool :=
  match t with
  | .peer => decide (i ≤ 47)
  | .stock => decide (i ≤ 161)
  | .markLog => decide (i ≤ 31)
  | .slotMap => inRange 1 64 i
  | .moveList => decide (i ≤ 7)
  | .craneQueue => decide (i ≤ 7)

/-- The time left on a timer that may run. -/
def State.left (s : State) (t : Option Timer) : Option Nat := t.map (fun t => t.left s.time)

/-- A position of the stock table, the retired list or the incoming slots (R134). -/
def State.readStock (s : State) (i : Nat) : TableReply :=
  if i < 96 then .stock ((entryAt s.st.records i).map (fun r => (r, s.left r.timer)))
  else if i < 160 then .retired (s.st.retired[i - 96]?)
  else .incoming ((s.st.slotAt (i - 160)).map (fun o => (o.piece.id, o.piece.kind, o.giver, s.left o.timer)))

/-- A slot of the slot map; absent beyond the count and in a role without a map, as R150 says, where R137 says empty
(DESIGN CHOICE, log 62). -/
def State.readSlot (s : State) (n : Nat) : TableReply :=
  if n ∈ s.mapSlots then
    .slot (some
      { record := (s.st.atSlot n).map (fun r => (r.piece.id, r.custody, r.piece.reservation))
        configLock := s.cfg.params.configLocks.contains n
        runtimeLock := s.st.runtimeLocks.contains n })
  else .slot none

/-- The entry a READ_TABLE reports, as it stands (R173). A crane entry without a result, whose last one was dropped or
never formed (R12), is reported with none (DESIGN CHOICE, log 59). -/
def State.readEntry (s : State) (t : TableName) (i : Nat) : TableReply :=
  match t with
  | .peer => .peer ((entryAt s.pt.entries i).map (fun e => (e, e.receiptAge s.time, e.result)))
  | .stock => s.readStock i
  | .markLog => .mark (s.lc.log[i]?) s.lc.log.length s.lc.markNumber
  | .slotMap => s.readSlot i
  | .moveList => .move ((entryAt s.mu.moves i).map (fun e => (e, s.left e.windowTimer, s.left e.replyTimer)))
  | .craneQueue => .queue (s.mu.queue[i]?)

/-- A READ_TABLE is taken (R173). -/
def takeReadTable (suits : Bool) (t : Option TableName) (i : Nat) (s : State) : State × Answer :=
  match t with
  | some t => if suits ∧ tableRange t i then (s, .ok, .table (s.readEntry t i)) else refuse .fieldRange s
  | none => refuse .fieldRange s

/-- READ_TABLE (R173). -/
def execReadTable (f : WriteFrame) (t : Option TableName) (i : Nat) (s : State) : Host.Outcome State Fault Refusal :=
  .next (loadedRequest f .readTable (takeReadTable f.suits t i) s)

/-! ### RESTART and unknown requests (R168, R169, R174) -/

/-- RESTART, taken in every load state and whatever the buffer holds (R168, R174; log 22). -/
def execRestart (f : WriteFrame) (s : State) : Host.Outcome State Fault Refusal :=
  .next (if frameBad f.length f.cut then frameError s
    else shiftOut s.statusByte (.take .restarting (Config.idleNumber s.freeCount))
      { restartPart s with freeCount := s.freeCount + 1 })

/-- UNKNOWN_REQUEST: taken and answered, with no owner acting on it (R169). -/
def execUnknownRequest (f : WriteFrame) (code : Byte) (s : State) : Host.Outcome State Fault Refusal :=
  .next (loadedRequest f (.unknown code) (refuse .unknownRequest) s)

/-! ### Reads (R168 to R170) -/

/-- The oldest reply is clocked out; it leaves the buffer at a complete read (R169, R183). -/
def clockReply (clocked : Nat) (s : State) : State :=
  let answer := PortAnswer.reply s.sp.buffer.head?
  shiftOut s.statusByte answer
    (if answer.readWhole clocked then { s with sp := { s.sp with buffer := s.sp.buffer.tail } } else s)

/-- The oldest notice is clocked out with the lost-notice count; a complete read removes it and clears the count
(R170, R183). -/
def clockNotice (clocked : Nat) (s : State) : State :=
  let answer := PortAnswer.notice s.sp.lost s.sp.notices.head?
  shiftOut s.statusByte answer
    (if answer.readWhole clocked then { s with sp := { s.sp with notices := s.sp.notices.tail, lost := 0 } } else s)

/-- READ_REPLY (R169). -/
def execReadReply (clocked : Nat) (s : State) : Host.Outcome State Fault Refusal := .next (clockReply clocked s)

/-- READ_NOTICE (R170). -/
def execReadNotice (clocked : Nat) (s : State) : Host.Outcome State Fault Refusal := .next (clockNotice clocked s)

/-- VOID_TRANSACTION: an operation byte that names no operation makes the transaction void; the port status byte is
shifted out and the rest is ignored (R168). A byte that R183 gives to an operation begins that one, which ends here
right after it: a request cut short, or a read of no byte (DESIGN CHOICE, log 83). -/
def execVoidTransaction (operation : Byte) (s : State) : Host.Outcome State Fault Refusal :=
  .next (match readOperation operation with
    | none => shiftOut s.statusByte .nothing s
    | some .writeRequest => frameError s
    | some .readReply => clockReply 0 s
    | some .readNotice => clockNotice 0 s)

end Sys2Proof.Machine
end

