-- ==== Sys2Proof/Machine/Dispatch.lean ====
section
/-! DEFINITION. The meaning of each command: one arm per constructor of `Instr`. -/

namespace Sys2Proof.Machine

def exec (i : Instr) (s : State) : Host.Outcome State Fault Refusal :=
  match i with
  | .powerOn => Sys2Proof.Machine.execPowerOn s
  | .timeBaseTick => Sys2Proof.Machine.execTimeBaseTick s
  | .i2cTransferDone acked data => Sys2Proof.Machine.execI2cTransferDone acked data s
  | .agingStep => Sys2Proof.Machine.execAgingStep s
  | .beaconTimerExpiry => Sys2Proof.Machine.execBeaconTimerExpiry s
  | .urgentSpacingExpiry => Sys2Proof.Machine.execUrgentSpacingExpiry s
  | .attemptStart => Sys2Proof.Machine.execAttemptStart s
  | .attemptClean => Sys2Proof.Machine.execAttemptClean s
  | .attemptCollided => Sys2Proof.Machine.execAttemptCollided s
  | .backoffEnd => Sys2Proof.Machine.execBackoffEnd s
  | .jabberLimit => Sys2Proof.Machine.execJabberLimit s
  | .probeTimerExpiry => Sys2Proof.Machine.execProbeTimerExpiry s
  | .probeStart => Sys2Proof.Machine.execProbeStart s
  | .telegramFramingError => Sys2Proof.Machine.execTelegramFramingError s
  | .beaconCutter t => Sys2Proof.Machine.execBeaconCutter t s
  | .beaconCrane t => Sys2Proof.Machine.execBeaconCrane t s
  | .beaconRack t => Sys2Proof.Machine.execBeaconRack t s
  | .custodyOffer t => Sys2Proof.Machine.execCustodyOffer t s
  | .custodyAccept t => Sys2Proof.Machine.execCustodyAccept t s
  | .custodyRelease t => Sys2Proof.Machine.execCustodyRelease t s
  | .custodyRefuse t => Sys2Proof.Machine.execCustodyRefuse t s
  | .stockQuery t => Sys2Proof.Machine.execStockQuery t s
  | .stockCandidate t => Sys2Proof.Machine.execStockCandidate t s
  | .reserve t => Sys2Proof.Machine.execReserve t s
  | .reserveReply t => Sys2Proof.Machine.execReserveReply t s
  | .unreserve t => Sys2Proof.Machine.execUnreserve t s
  | .moveCall t => Sys2Proof.Machine.execMoveCall t s
  | .moveBid t => Sys2Proof.Machine.execMoveBid t s
  | .moveAward t => Sys2Proof.Machine.execMoveAward t s
  | .awardReply t => Sys2Proof.Machine.execAwardReply t s
  | .moveRevoke t => Sys2Proof.Machine.execMoveRevoke t s
  | .revokeReply t => Sys2Proof.Machine.execRevokeReply t s
  | .moveStarted t => Sys2Proof.Machine.execMoveStarted t s
  | .moveReturn t => Sys2Proof.Machine.execMoveReturn t s
  | .moveDone t => Sys2Proof.Machine.execMoveDone t s
  | .estopAsserted => Sys2Proof.Machine.execEstopAsserted s
  | .estopReleased => Sys2Proof.Machine.execEstopReleased s
  | .loadAttachedRises => Sys2Proof.Machine.execLoadAttachedRises s
  | .loadAttachedFalls => Sys2Proof.Machine.execLoadAttachedFalls s
  | .inFlightTimeout => Sys2Proof.Machine.execInFlightTimeout s
  | .haltTimeout => Sys2Proof.Machine.execHaltTimeout s
  | .resumeTimerExpiry => Sys2Proof.Machine.execResumeTimerExpiry s
  | .offerTimeout position => Sys2Proof.Machine.execOfferTimeout position s
  | .heldOfferExpiry slot => Sys2Proof.Machine.execHeldOfferExpiry slot s
  | .pendingTimeout position => Sys2Proof.Machine.execPendingTimeout position s
  | .queryWindowExpiry => Sys2Proof.Machine.execQueryWindowExpiry s
  | .reserveTimerExpiry => Sys2Proof.Machine.execReserveTimerExpiry s
  | .bidWindowExpiry position => Sys2Proof.Machine.execBidWindowExpiry position s
  | .awardReplyTimeout position => Sys2Proof.Machine.execAwardReplyTimeout position s
  | .cancelReplyTimeout position => Sys2Proof.Machine.execCancelReplyTimeout position s
  | .segment w => Sys2Proof.Machine.execSegment w s
  | .flush f => Sys2Proof.Machine.execFlush f s
  | .resync f target => Sys2Proof.Machine.execResync f target s
  | .segmentDone f seq copy arcMs => Sys2Proof.Machine.execSegmentDone f seq copy arcMs s
  | .segmentAborted f seq copy arcMs => Sys2Proof.Machine.execSegmentAborted f seq copy arcMs s
  | .segmentHalted f seq copy arcMs => Sys2Proof.Machine.execSegmentHalted f seq copy arcMs s
  | .continueRequest f => Sys2Proof.Machine.execContinueRequest f s
  | .wearRestore f pierces arcMs => Sys2Proof.Machine.execWearRestore f pierces arcMs s
  | .consumableChanged f => Sys2Proof.Machine.execConsumableChanged f s
  | .declareStock f record location slot => Sys2Proof.Machine.execDeclareStock f record location slot s
  | .handOff f id taker => Sys2Proof.Machine.execHandOff f id taker s
  | .confirmCustody f id => Sys2Proof.Machine.execConfirmCustody f id s
  | .bedLoaded f id => Sys2Proof.Machine.execBedLoaded f id s
  | .placed f id slot => Sys2Proof.Machine.execPlaced f id slot s
  | .lockSlot f slot => Sys2Proof.Machine.execLockSlot f slot s
  | .unlockSlot f slot => Sys2Proof.Machine.execUnlockSlot f slot s
  | .queryStock f q => Sys2Proof.Machine.execQueryStock f q s
  | .cancelQuery f => Sys2Proof.Machine.execCancelQuery f s
  | .moveRequest f m => Sys2Proof.Machine.execMoveRequest f m s
  | .cancelMove f tag => Sys2Proof.Machine.execCancelMove f tag s
  | .moveFinish f => Sys2Proof.Machine.execMoveFinish f s
  | .position f p => Sys2Proof.Machine.execPosition f p s
  | .setMode f target => Sys2Proof.Machine.execSetMode f target s
  | .status f => Sys2Proof.Machine.execStatus f s
  | .readTable f table index => Sys2Proof.Machine.execReadTable f table index s
  | .restart f => Sys2Proof.Machine.execRestart f s
  | .unknownRequest f code => Sys2Proof.Machine.execUnknownRequest f code s
  | .readReply complete => Sys2Proof.Machine.execReadReply complete s
  | .readNotice complete => Sys2Proof.Machine.execReadNotice complete s
  | .voidTransaction operation => Sys2Proof.Machine.execVoidTransaction operation s
  | .telegramOfUnknownKind kind t => Sys2Proof.Machine.execTelegramOfUnknownKind kind t s

end Sys2Proof.Machine
end

