-- ==== Sys2Proof/Safety.lean ====
section
/-! DEFINITION. What counts as a safe state of the part, in the terms claims use: the statements the manual makes
about the whole part in every state it reaches. -/

namespace Sys2Proof.Machine

/-- The part burns: an arc copy is in flight (R78, R101). -/
def State.burning (s : State) : Bool :=
  decide (s.rc.release = .inFlight) && s.rc.current.any (fun c => c.copy.content.isArc)

/-- R101: "ARC_PERMIT is asserted only while the part is a cutter in RUN with ESTOP released and exactly one arc copy
in flight, and the most recent intrusion evaluation of that copy's window is not CUTOFF." -/
def State.permitSafe (s : State) : Prop :=
  s.lu.arcPermit = true →
    s.role = .cutter ∧ s.isLoaded = true ∧ s.sp.mode = .run ∧ s.lu.estop = false ∧ s.burning = true
      ∧ s.env.station ≠ .cutoff

/-- R166: a crane line is asserted only in a loaded crane that is not OFFLINE, with ESTOP released, and only while its
result is GRANTED. -/
def State.linesSafe (s : State) : Prop :=
  (s.lu.travelXP = true → s.linesWithdrawn = false ∧ s.role = .crane ∧ s.env.permits.xp = true)
    ∧ (s.lu.travelXN = true → s.linesWithdrawn = false ∧ s.role = .crane ∧ s.env.permits.xn = true)
    ∧ (s.lu.travelYP = true → s.linesWithdrawn = false ∧ s.role = .crane ∧ s.env.permits.yp = true)
    ∧ (s.lu.travelYN = true → s.linesWithdrawn = false ∧ s.role = .crane ∧ s.env.permits.yn = true)
    ∧ (s.lu.lower = true → s.linesWithdrawn = false ∧ s.role = .crane ∧ s.env.permits.lower = true)

/-- R74: "The segment queue's accepted count equals its consumed count plus its discarded count plus the number of
records held, and the number held never exceeds 64." -/
def State.conserves (s : State) : Prop :=
  s.sq.accepted = s.sq.consumed + s.sq.discarded + BitVec.ofNat 32 s.sq.held.length ∧ s.sq.held.length ≤ 64

/-- The fixed sizes: 48 peer positions (R22), 96 stock positions (R117), 64 retired IDs (R120), 8 move positions
(R152), 4 replies (R169), 32 notices and a lost-notice count of 255 (R170), a log of 32 marks (R111), 8 telegrams in a
class queue of messages and two beacons in one of beacons (R42, R44), and 8 moves at a crane (R160). -/
def State.sized (s : State) : Prop :=
  (s.pt.entries.length = 48 ∧ s.st.records.length = 96 ∧ s.st.retired.length ≤ 64 ∧ s.mu.moves.length = 8)
    ∧ (s.sp.buffer.length ≤ 4 ∧ s.sp.notices.length ≤ 32 ∧ s.sp.lost ≤ 255 ∧ s.lc.log.length ≤ 32)
    ∧ (s.flc.class0.length ≤ 2 ∧ s.flc.class1.length ≤ 8 ∧ s.flc.class2.length ≤ 8 ∧ s.flc.class3.length ≤ 2)
    ∧ s.mu.queue.length ≤ 8

/-- R117: "No stock ID appears twice in the stock table, and no ID in the stock table is also in the retired list. At
most one stock record has location BED", the one the bed pointer names; and R137: a slot holds at most one record. -/
def Stock.sound (t : Stock) : Prop :=
  (∀ m n r q, entryAt t.records m = some r → entryAt t.records n = some q → r.piece.id = q.piece.id → m = n)
    ∧ (∀ n r, entryAt t.records n = some r → r.piece.id ∉ t.retired)
    ∧ (∀ n r, entryAt t.records n = some r → (r.location = .bed ↔ t.bed = some n))
    ∧ (∀ n, t.bed = some n → (entryAt t.records n).isSome = true)
    ∧ (∀ m n r q k, entryAt t.records m = some r → entryAt t.records n = some q → r.location = .slot k →
        q.location = .slot k → m = n)
    ∧ t.retired.Nodup

/-- R148: every reservation a loaded rack holds names a requester whose peer entry is there and not LOST, and a rack
holds at most 16. -/
def State.reservationsSound (s : State) : Prop :=
  s.role = .rack → s.st.reservations ≤ 16
    ∧ (s.isLoaded = true → ∀ n r k, entryAt s.st.records n = some r → r.piece.reservation = some k → s.hears k = true)

/-- R22: at most one entry per station number, none with the part's own station number, each of a station 1..62. -/
def State.peersSound (s : State) : Prop :=
  (∀ m n a b, entryAt s.pt.entries m = some a → entryAt s.pt.entries n = some b → a.station = b.station → m = n)
    ∧ ∀ n e, entryAt s.pt.entries n = some e → e.station ≠ s.cfg.params.station ∧ inRange 1 62 e.station = true

/-- R160: the order of a crane's queue. Nothing behind the head is started; behind the started move the queue is by
priority, and among equal priorities by award order; no move is held twice. -/
def Moves.ordered (m : Moves) : Prop :=
  m.queue.Pairwise (fun a b => b.started = false
      ∧ (a.started = true ∨ a.info.priority < b.info.priority
        ∨ (a.info.priority = b.info.priority ∧ a.order < b.order))
      ∧ ¬ (a.requester = b.requester ∧ a.tag = b.tag))
    ∧ ∀ q ∈ m.queue, q.order < m.awardOrder

/-- R78: what RC holds in each release state, with ARC_PERMIT asserted exactly while an arc copy is in flight; before
a good load and in the other roles it is IDLE. -/
def State.releaseTable (s : State) : Prop :=
  (s.lu.arcPermit = true ↔ s.burning = true)
    ∧ (match s.rc.release with
      | .idle => s.rc.head = none ∧ s.rc.current = none
      | .waiting => s.rc.head.isSome = true ∧ s.rc.current = none
      | .inFlight => s.rc.current.isSome = true
      | .broken => s.rc.current.isSome = true
      | .faulted => s.rc.current = none ∧ s.rc.fault.isSome = true)
    ∧ (s.isLoaded = false ∨ s.role ≠ .cutter → s.rc.release = .idle)

/-- R99: the stop-pending flag is set only in a loaded cutter in RUN whose copy is in flight or broken, where a crane's
leave (R164) is not pending. -/
def State.stopSound (s : State) : Prop :=
  s.rc.stopPending = true →
    s.isLoaded = true ∧ s.role = .cutter ∧ s.sp.mode = .run ∧ s.mu.leavePending = false
      ∧ (s.rc.release = .inFlight ∨ s.rc.release = .broken)

/-- R100: a loaded cutter announces the live window of its copies as they stand; before a good load the mode is
OFFLINE (R171) and the live window absent. -/
def State.liveSound (s : State) : Prop :=
  (s.isLoaded = false → s.sp.mode = .offline ∧ s.rc.live = .absent) ∧ (s.role = .cutter → s.rc.live = s.formLive)

/-- R95: the pierce count never exceeds the configured pierce limit. -/
def State.wearBounded (s : State) : Prop := s.rc.pierces ≤ s.cfg.params.pierceLimit

/-! ### Commands that the part accepts -/

/-- A WRITE_REQUEST of good form that the port takes after a good load (R168, R183). -/
def State.takes (s : State) (f : WriteFrame) : Prop :=
  s.isLoaded = true ∧ s.sp.buffer.length < 4 ∧ f.length.toNat ≤ 34 ∧ f.cut = false ∧ f.suits = true

/-- A SEGMENT request of good form, all of its payload there, that the port takes after a good load (R168, R183). -/
def State.takesRaw (s : State) (w : RawWrite) : Prop :=
  s.isLoaded = true ∧ s.sp.buffer.length < 4 ∧ w.length.toNat ≤ 34 ∧ w.length.toNat ≤ w.bytes.length

/-- A request is taken: the request number is used up and the taken count gains 1 (R168, R173). -/
def State.begun (s : State) : State :=
  { s with sp := { s.sp with number := s.sp.number + 1, taken := bump s.sp.taken } }

/-- The owner has left the state `t` of a request taken in `s`: its reply stands at the end of the buffer under the
request's number, and the take status was shifted out with the status byte as it stood (R168, R169). -/
def State.replied (s : State) (code : RequestCode) (r : ResultCode) (d : ReplyData) (t : State) : State :=
  { t with sp := { t.sp with
    buffer := t.sp.buffer ++ [⟨s.sp.number, code, r, d⟩]
    output := ⟨s.statusByte, .take .taken s.sp.number⟩ } }

/-- A telegram of a kind that passes the four checks of R40 while the part is not sending (R39). -/
def State.delivers (s : State) (k : TelegramKind) (t : Telegram) : Prop :=
  s.isLoaded = true ∧ s.flc.attempt = none ∧ t.payload.length = k.payloadLength ∧ t.payload.length ≤ 60
    ∧ crcGood t k.code = true ∧ t.source.toNat ≠ s.cfg.params.station ∧ s.addressed t.dest.toNat = true

/-- The received count has gained 1 (R40). -/
def State.heard (s : State) : State :=
  { s with flc := { s.flc with counts := { s.flc.counts with received := bump s.flc.counts.received } } }

/-- A telegram that is delivered and carries a message (R41, R182). -/
def State.hearsMessage (s : State) (t : Telegram) (m : Message) : Prop :=
  s.delivers m.kind t ∧ readMessage m.kind t.source.toNat t.payload = some m

/-- A message the link takes into its class queue: the link NORMAL, the destination good and room in the queue
(R42). -/
def State.linkTakes (s : State) (dest : Nat) (m : Message) : Prop :=
  s.flc.link = .normal ∧ goodDestination s.cfg.params.station dest m = true ∧ (s.flc.queueOf m.txClass).length < 8

/-- The link with a message at the end of its class queue (R42). -/
def Flc.sending (f : Flc) (dest : Nat) (m : Message) : Flc :=
  f.setQueue m.txClass (f.queueOf m.txClass ++ [⟨dest, .message m, 0, none⟩])

/-- What becomes of an OPEN move whose award passes down its list of bids (R156), from the state `u` of the step taken
in `s`: the first bid is awarded and awaits its reply, with none left the move is called again, and after the third
call it fails. -/
def State.passes (s : State) (n : Nat) (e : MoveEntry) (u : State) (o : Host.Outcome State Fault Refusal) : Prop :=
  (∀ b rest, e.bids = b :: rest → u.linkTakes b.crane (.moveAward e.tag e.info) → o = .next { u with
      flc := u.flc.sending b.crane (.moveAward e.tag e.info)
      mu := { u.mu with
        moves := s.mu.moves.set n (some { e with
          bids := rest
          crane := some b.crane
          windowTimer := none
          replyTimer := some ⟨s.time, s.cfg.params.bidWindow⟩ })
        counts := { u.mu.counts with awardsSent := bump u.mu.counts.awardsSent } } })
    ∧ (e.bids = [] → e.callNumber < 3 → u.linkTakes s.callDest (.moveCall e.tag (e.callNumber + 1) e.info) →
      o = .next { u with
        flc := u.flc.sending s.callDest (.moveCall e.tag (e.callNumber + 1) e.info)
        mu := { u.mu with
          moves := s.mu.moves.set n (some { e with
            callNumber := e.callNumber + 1
            crane := none
            bids := []
            windowTimer := some ⟨s.time, s.cfg.params.bidWindow⟩
            replyTimer := none })
          counts := { u.mu.counts with callsMade := bump u.mu.counts.callsMade } } })
    ∧ (e.bids = [] → 3 ≤ e.callNumber → o = .next (raise (.moveState e.tag .failed none (some .noCrane) none) { u with
        mu := { u.mu with
          moves := s.mu.moves.set n (some { e with
            state := .failed
            crane := none
            bids := []
            windowTimer := none
            replyTimer := none
            cancelPending := false
            reason := some .noCrane
            endOrder := s.mu.endCount })
          endCount := s.mu.endCount + 1 } }))

/-- A peer entry apart from the result that the envelope unit keeps alongside it (R12, R22). -/
def PeerEntry.told (e : PeerEntry) : PeerEntry := { e with result := none }

/-- The peer table's positions apart from the envelope unit's results. -/
def PeerTable.told (t : PeerTable) : List (Option PeerEntry) := t.entries.map (fun o => o.map PeerEntry.told)

/-- The mark log once the end of an attempt at a copy has been handed on: a MARK copy's entry takes the next mark
number and stands first, and the 32 newest are kept; another copy writes nothing (R111, R112). -/
def Composer.entered (l : Composer) (c : Current) (o : MarkOutcome) : Composer :=
  match c.copy.content, c.legend with
  | .mark tool _ _ _ target _, some g =>
    { markNumber := l.markNumber + 1
      log := (⟨l.markNumber + 1, c.copy.seq, c.copy.k, decide (tool = .ink), target, g.text.length, g.dropped, o⟩
        :: l.log).take 32 }
  | _, _ => l

/-- The remnant a copy marks: the serial of a MARK copy with a legend and a REMNANT target (R113). -/
def Current.marks (c : Current) : Option Nat :=
  match c.copy.content, c.legend with
  | .mark _ _ _ _ (.remnant serial) _, some _ => some serial
  | _, _ => none

/-- A station result that breaks the arc copy `c` in flight, and the cause it gives (R89): CUTOFF breaks every one; HOLD
breaks a CUT that was not broken before, under BREAK_FIRST. -/
def State.breaks (v : State) (c : Current) (cause : BreakCause) : Prop :=
  (v.env.station = .cutoff ∧ cause = .cutoff)
    ∨ (v.env.station = .hold ∧ cause = .hold ∧ v.cfg.params.breakMode = .breakFirst ∧ c.copy.content.kind = .cut
      ∧ c.brokenBefore = false)

/-- What a step answers (`o`) when the station result of `v` is handed on while the arc copy `c` is in flight: a CLEAR
changes nothing more, a result that does not break the copy sets last_nonclear (R83), and one that does breaks it (R89,
R90): an urgent beacon is called for, the live window is formed again, and the window under test is evaluated again,
which may change the results alone. -/
def State.meets (v : State) (c : Current) (o : Host.Outcome State Fault Refusal) : Prop :=
  let noted : Rc := { v.rc with
    lastNonclear := some v.time
    resumeTimer := some ⟨v.time, v.cfg.params.resumeDelay⟩ }
  (v.env.station = .clear → o = .next v)
    ∧ (v.env.station ≠ .clear → (∀ cause, ¬ v.breaks c cause) → o = .next { v with rc := noted })
    ∧ ∀ cause, v.breaks c cause → ∃ u, o = .next u ∧ u.pt.told = v.pt.told ∧ u.rc.live = u.formLive
      ∧ u = { v with
        flc := (callUrgent v).flc
        pt := { v.pt with entries := u.pt.entries }
        env := { v.env with station := u.env.station }
        rc := { noted with
          release := .broken
          current := some { c with cause := some cause, brokenBefore := true, halted := false }
          flightTimer := none
          haltTimer := some ⟨v.time, 2000⟩
          live := u.rc.live }
        lc := v.lc.entered c .broken
        sp := (raise (.segmentBreak c.copy.seq c.copy.k cause) v).sp
        lu := { v.lu with arcPermit := false } }

/-- The crane's queue has changed from the one of `s`: MOVE_NEXT is raised when the head has changed (R160). -/
def State.requeued (s : State) (q : List QueuedMove) (u : State) : State :=
  let v := { u with mu := { u.mu with queue := q } }
  if q.head?.map (fun m => (m.requester, m.tag)) = s.mu.queue.head?.map (fun m => (m.requester, m.tag)) then v
  else raise (.moveNext (q.head?.map (fun m => (m.requester, m.tag, m.info)))) v

/-- The part once the started move `m` at the head, before `rest`, is finished (R162): MOVE_DONE is queued, the move is
removed, and in RUN a pending leave is completed, with MODE_CHANGED and the lines driven again (R164, R166). -/
def State.finished (s : State) (m : QueuedMove) (rest : List QueuedMove) (carried : Bool) (taker : Option Nat)
    (u : State) : State :=
  let v := s.requeued rest { u with flc := u.flc.sending m.requester (.moveDone m.tag carried taker) }
  if s.mu.leavePending then
    driveLines (raise (.modeChanged .run .ready) { v with
      mu := { v.mu with leavePending := false }
      sp := { v.sp with mode := .ready } })
  else v

/-- What one aging step makes of an entry at the count `now` (R31 to R33), the envelope unit's result apart. -/
def PeerEntry.aged (p : Params) (now : Count) (e : PeerEntry) : Option PeerEntry :=
  let age := e.receiptAge now
  let one := if e.state = .fresh ∧ p.staleTime e.data.role ≤ age then .stale else e.state
  let two := if one = .stale ∧ p.lostTime e.data.role ≤ age then .lost else one
  if two = .lost ∧ e.state ≠ .lost ∧ e.pinned = false then none
  else some { e.told with state := two, ageHeld := e.ageHeld || decide (age = 65535) }

/-- An entry that an aging step leaves as it stands: neither its time nor the end of its receipt age is reached (R31). -/
def State.steady (s : State) (e : PeerEntry) : Prop :=
  (e.state = .fresh → e.receiptAge s.time < s.cfg.params.staleTime e.data.role)
    ∧ (e.state = .stale → e.receiptAge s.time < s.cfg.params.lostTime e.data.role)
    ∧ (e.receiptAge s.time = 65535 → e.ageHeld = true)

/-- A stock ID fits its three bytes and is not the zero that stands for an absent one (R181). -/
def StockId.fits (i : StockId) : Bool :=
  decide (i.origin < 256) && decide (i.serial < 65536) && decide (i ≠ ⟨0, 0⟩)

/-- A notch fits its fields (R182). -/
def Notch.fits (n : Notch) : Bool := decide (n.length < 65536) && decide (n.width < 65536)

/-- The fields of a carried record fit theirs (R182). -/
def Piece.fits (p : Piece) : Bool :=
  decide (p.id.origin < 256) && decide (p.id.serial < 65536) && decide (p.grade < 256)
    && decide (p.thickness < 65536) && decide (p.length < 65536) && decide (p.width < 65536)
    && p.notch.all Notch.fits && decide (p.heat.length ≤ 10) && p.parent.all StockId.fits
    && p.reservation.all (inRange 1 255)

/-- The fields of a move fit theirs (R182). -/
def MoveInfo.fits (m : MoveInfo) : Bool :=
  m.stock.all StockId.fits && decide (m.fromStation < 256) && decide (m.fromX < 16777216)
    && decide (m.toStation < 256) && decide (m.toX < 16777216) && decide (m.priority < 256)

/-- The fields of a message fit theirs (R182); a candidate's rack is the telegram's source. -/
def Message.fits (m : Message) (source : Nat) : Bool :=
  let idFits (i : StockId) : Bool := decide (i.origin < 256) && decide (i.serial < 65536)
  match m with
  | .custodyOffer p => p.fits
  | .custodyAccept i => idFits i
  | .custodyRelease i => idFits i
  | .custodyRefuse i _ => idFits i
  | .stockQuery _ q =>
    decide (q.grade < 256) && decide (q.mask < 256) && decide (q.thickness < 65536) && decide (q.minLength < 65536)
      && decide (q.minWidth < 65536)
  | .stockCandidate _ c =>
    idFits c.id && decide (c.rack = source) && decide (c.slot < 256) && decide (c.grade < 256)
      && decide (c.thickness < 65536) && decide (c.length < 65536) && decide (c.width < 65536)
      && c.notch.all Notch.fits && decide (c.heat.length ≤ 10) && decide (c.score < 4294967296)
  | .reserve _ i r => idFits i && decide (r < 256)
  | .reserveReply _ i _ => idFits i
  | .unreserve i => idFits i
  | .moveCall _ call i => decide (call < 256) && i.fits
  | .moveBid _ call bid => decide (call < 256) && decide (bid < 16777216)
  | .moveAward _ i => i.fits
  | .awardReply _ _ => true
  | .moveRevoke _ => true
  | .revokeReply _ _ => true
  | .moveStarted _ => true
  | .moveReturn _ => true
  | .moveDone _ _ taker => taker.all (inRange 1 255)

/-- The request code and the envelope of a write request other than RESTART (R168, R169). -/
def writeRequest : Instr → Option (RequestCode × Byte × Bool)
  | .segment w => some (.segment, w.length, decide (w.bytes.length < w.length.toNat))
  | .flush f => some (.flush, f.length, f.cut)
  | .resync f _ => some (.resync, f.length, f.cut)
  | .segmentDone f _ _ _ => some (.segmentDone, f.length, f.cut)
  | .segmentAborted f _ _ _ => some (.segmentAborted, f.length, f.cut)
  | .segmentHalted f _ _ _ => some (.segmentHalted, f.length, f.cut)
  | .continueRequest f => some (.continueRequest, f.length, f.cut)
  | .wearRestore f _ _ => some (.wearRestore, f.length, f.cut)
  | .consumableChanged f => some (.consumableChanged, f.length, f.cut)
  | .declareStock f _ _ _ => some (.declareStock, f.length, f.cut)
  | .handOff f _ _ => some (.handOff, f.length, f.cut)
  | .confirmCustody f _ => some (.confirmCustody, f.length, f.cut)
  | .bedLoaded f _ => some (.bedLoaded, f.length, f.cut)
  | .placed f _ _ => some (.placed, f.length, f.cut)
  | .lockSlot f _ => some (.lockSlot, f.length, f.cut)
  | .unlockSlot f _ => some (.unlockSlot, f.length, f.cut)
  | .queryStock f _ => some (.queryStock, f.length, f.cut)
  | .cancelQuery f => some (.cancelQuery, f.length, f.cut)
  | .moveRequest f _ => some (.moveRequest, f.length, f.cut)
  | .cancelMove f _ => some (.cancelMove, f.length, f.cut)
  | .moveFinish f => some (.moveFinish, f.length, f.cut)
  | .position f _ => some (.position, f.length, f.cut)
  | .setMode f _ => some (.setMode, f.length, f.cut)
  | .status f => some (.status, f.length, f.cut)
  | .readTable f _ _ => some (.readTable, f.length, f.cut)
  | .unknownRequest f code => some (.unknown code, f.length, f.cut)
  | _ => none

/-- The kind code, the payload length of the kind, and the telegram of a telegram command (R40, R182). -/
def receivedTelegram : Instr → Option (Byte × Option Nat × Telegram)
  | .beaconCutter t => some (0x10, some 29, t)
  | .beaconCrane t => some (0x11, some 17, t)
  | .beaconRack t => some (0x12, some 8, t)
  | .custodyOffer t => some (0x20, some 32, t)
  | .custodyAccept t => some (0x21, some 3, t)
  | .custodyRelease t => some (0x22, some 3, t)
  | .custodyRefuse t => some (0x23, some 4, t)
  | .stockQuery t => some (0x30, some 10, t)
  | .stockCandidate t => some (0x31, some 32, t)
  | .reserve t => some (0x32, some 5, t)
  | .reserveReply t => some (0x33, some 5, t)
  | .unreserve t => some (0x34, some 3, t)
  | .moveCall t => some (0x40, some 15, t)
  | .moveBid t => some (0x41, some 5, t)
  | .moveAward t => some (0x42, some 14, t)
  | .awardReply t => some (0x43, some 2, t)
  | .moveRevoke t => some (0x44, some 1, t)
  | .revokeReply t => some (0x45, some 2, t)
  | .moveStarted t => some (0x46, some 1, t)
  | .moveReturn t => some (0x47, some 1, t)
  | .moveDone t => some (0x48, some 3, t)
  | .telegramOfUnknownKind kind t => some (kind, none, t)
  | _ => none

end Sys2Proof.Machine
end

