-- ==== Sys2Proof/Certificates/Slice0/Obligations.lean ====
section
/-! DEFINITION. The statements for the provers: what the manual's rules say of the commands, of the state each leaves,
and of the part in every state. A statement that says `exec c s = .next t` also says that the command completes and
that nothing but what `t` shows is changed. -/

open Sys2Proof Sys2Proof.Machine

/-! ### The part as a whole -/

/-- The model's queue of commands (log entries 2 and 3): the front command is run with the queue's rest, and an empty
queue idles. -/
def Obligations.StepTakesTheFrontCommand : Prop :=
  (∀ (c : Instr) (rest : List Instr) (s : State), s.pending = c :: rest →
      step s = exec c { s with pending := rest })
    ∧ ∀ s : State, s.pending = [] → step s = .next s

/-- No command of the table ends the part's run, from any state, and none touches the commands that wait (log 3). -/
def Obligations.EveryCommandCompletes : Prop :=
  ∀ (c : Instr) (s : State), ∃ t, exec c s = .next t ∧ t.pending = s.pending

/-- R176: the count gains 1 at a tick and wraps at 2^32, it is 0 at power-on, and no other command, RESTART included,
changes it. -/
def Obligations.TimeBaseCountsMilliseconds : Prop :=
  (∀ s : State, exec .timeBaseTick s = .next { s with time := s.time + 1 })
    ∧ (∀ s : State, ∃ t, exec .powerOn s = .next t ∧ t.time = 0)
    ∧ ∀ (c : Instr) (s t : State), c ≠ .timeBaseTick → c ≠ .powerOn → exec c s = .next t → t.time = s.time

/-- Power-on (R21, R37, R55, R76, R102, R115, R135, R151, R167, R174, R175, R176): every block in its reset state. That
the input samples, the commands that wait and the free values stand is the model's choice (log entries 1, 3 and 6). -/
def Obligations.PowerOnResetsEveryBlock : Prop :=
  (∀ s : State, exec .powerOn s = .next { State.reset with
      pending := s.pending
      freeCount := s.freeCount
      lu := { Lines.reset with estop := s.lu.estop, loadAttached := s.lu.loadAttached } })
    ∧ State.reset.time = 0
    ∧ State.reset.cfg.load = .loading ∧ State.reset.cfg.remembered = none
    ∧ State.reset.sp.mode = .offline ∧ State.reset.sp.number = 0 ∧ State.reset.sp.buffer = []
    ∧ State.reset.sp.notices = [] ∧ State.reset.sp.lost = 0
    ∧ State.reset.pt.entries = List.replicate 48 none
    ∧ State.reset.flc.link = .normal ∧ State.reset.flc.beaconSeq = 0 ∧ State.reset.flc.collisionRun = 0
    ∧ State.reset.flc.class0 = [] ∧ State.reset.flc.class1 = [] ∧ State.reset.flc.class2 = []
    ∧ State.reset.flc.class3 = []
    ∧ State.reset.sq.held = [] ∧ State.reset.sq.stream = .opened ∧ State.reset.sq.expected = none
    ∧ State.reset.sq.accepted = 0 ∧ State.reset.sq.consumed = 0 ∧ State.reset.sq.discarded = 0
    ∧ State.reset.rc.release = .idle ∧ State.reset.rc.lastNonclear = none ∧ State.reset.rc.wearKnown = false
    ∧ State.reset.rc.pierces = 0 ∧ State.reset.rc.arcMs = 0 ∧ State.reset.rc.stopPending = false
    ∧ State.reset.st.records = List.replicate 96 none ∧ State.reset.st.retired = []
    ∧ State.reset.su.phase = .closed ∧ State.reset.su.number = 0
    ∧ State.reset.mu.moves = List.replicate 8 none ∧ State.reset.mu.queue = [] ∧ State.reset.mu.tag = 0
    ∧ State.reset.env.own.received = false ∧ State.reset.env.own.load = .unknown
    ∧ State.reset.env.own.hook = .low ∧ State.reset.env.station = .clear
    ∧ State.reset.lu.arcPermit = false ∧ State.reset.lu.lower = false

/-- RESTART (R21, R37, R55, R76, R102, R115, R136, R139, R151, R167, R174, R175): taken in every load state and
whatever the buffer holds, with every block as at power-on but for what its rules keep. That the old parameters and
the input samples stand until the new load is the model's choice (log entries 5 and 6), that the wear is kept is its
reading (log 43), and the request number byte beside the take status is a free value (log 22). -/
def Obligations.RestartKeepsWhatTheRulesKeep : Prop :=
  ∀ (s : State) (f : WriteFrame), f.length.toNat ≤ 34 → f.cut = false →
    ∃ n : Byte, exec (.restart f) s = .next
      { s with
        cfg := { Cfg.reset with remembered := s.cfg.remembered, params := s.cfg.params }
        flc := .reset
        pt := .reset
        env := .reset
        sq := .reset
        rc := { Rc.reset with pierces := s.rc.pierces, arcMs := s.rc.arcMs, wearKnown := s.rc.wearKnown }
        lc := .reset
        st := { s.st with
          records := s.st.records.map (fun o => o.map (fun r => { r with timer := none }))
          slot0 := none
          slot1 := none
          search := .reset }
        su := .reset
        mu := .reset
        sp := { Port.reset with output := ⟨s.statusByte, .take .restarting n⟩ }
        lu := { Lines.reset with estop := s.lu.estop, loadAttached := s.lu.loadAttached }
        freeCount := s.freeCount + 1 }

/-! ### The load (chapter 11) -/

/-- R175, R177 and R180: transfers while LOADING bring the image; a refused one is tried up to three more times and the
fourth refusal is NO_ACK. The first check of R177 that fails gives the cause, and a fault leaves the remembered pair
and every other block as they were. When an image counts as wholly read is the model's choice (log 14), and when an
identity block is bad its reading (log 39). -/
def Obligations.ImageIsReadAndJudged : Prop :=
  ((∀ (s : State) (d : List Byte), s.cfg.load = .loading → s.cfg.refusals < 3 →
       exec (.i2cTransferDone false d) s
         = .next { s with cfg := { s.cfg with refusals := s.cfg.refusals + 1 } })
     ∧ (∀ (s : State) (d : List Byte), s.cfg.load = .loading → s.cfg.refusals = 3 →
       exec (.i2cTransferDone false d) s = .next (raise (.loadFault .noAck) { s with cfg := { s.cfg with
         load := .configFault
         cause := some .noAck
         image := []
         refusals := 0 } }))
     ∧ (∀ (s : State) (d : List Byte), s.cfg.load = .loading →
       ((s.cfg.image ++ d).length < 6 ∨ (s.cfg.image ++ d).length < fieldNat (s.cfg.image ++ d) 2 2) →
       exec (.i2cTransferDone true d) s
         = .next { s with cfg := { s.cfg with image := s.cfg.image ++ d, refusals := 0 } })
     ∧ ∀ (s : State) (a : Bool) (d : List Byte), s.cfg.load ≠ .loading → exec (.i2cTransferDone a d) s = .next s)
    ∧ ((∀ bs : List Byte,
           (fieldNat bs 0 2 ≠ 0x4E21 → imageFault bs = some .badKind)
           ∧ (fieldNat bs 0 2 = 0x4E21 → (1024 < fieldNat bs 2 2 ∨ fieldNat bs 2 2 < 14) →
               imageFault bs = some .badLength)
           ∧ (fieldNat bs 0 2 = 0x4E21 → fieldNat bs 2 2 ≤ 1024 → 14 ≤ fieldNat bs 2 2 → imageCrcGood bs = false →
               imageFault bs = some .badCrc)
           ∧ (fieldNat bs 0 2 = 0x4E21 → fieldNat bs 2 2 ≤ 1024 → 14 ≤ fieldNat bs 2 2 → imageCrcGood bs = true →
               imageFault bs = if imageIdentity bs = none then some .badIdentity else none))
         ∧ ∀ (s : State) (d : List Byte) (cause : LoadCause), s.cfg.load = .loading → imageRead (s.cfg.image ++ d) = true →
           imageFault (s.cfg.image ++ d) = some cause →
           exec (.i2cTransferDone true d) s = .next (raise (.loadFault cause) { s with cfg := { s.cfg with
             load := .configFault
             cause := some cause
             image := []
             refusals := 0 } }))

/-- R179, with R102, R136 and R139: a good image is LOADED; the pair is compared and remembered, and LOAD_RESULT is
raised first, with the comparison, the blocks that took defaults and the clamped count. For the same pair the stock
records are kept (`keptRecord`), with the bed pointer, the retired list and the runtime locks within the slot count,
the incoming slots are empty and the counts 0, and the wear is kept within its limit; for another pair both are as at
power-on. The parameters are those of `loadImage`, with the slot count raised for kept records and the config locks
beyond it left out (R178); that each adjustment counts once as clamped and that a lock left out does not are the model's
choices (logs 16 and 73), and how the wear is kept or cleared is its reading (log 43). The pinned entries are created and the timers start; everything else stands. -/
def Obligations.GoodImageIsLoaded : Prop :=
  (∀ (s : State) (d : List Byte), s.cfg.load = .loading → imageRead (s.cfg.image ++ d) = true →
      imageFault (s.cfg.image ++ d) = none →
      ∃ (role : Role) (station : Nat) (block : List Byte),
        imageIdentity (s.cfg.image ++ d) = some (role, station, block)
        ∧ (let same := decide (s.cfg.remembered = some (role, station))
          let read := loadImage role station block (s.cfg.image ++ d)
          let raised := adjust (raiseSlots same s.st) read.1
          let p := trimLocks raised.params
          p.role = role ∧ p.station = station
          ∧ exec (.i2cTransferDone true d) s
            = .next (raise (.loadLoaded role station same read.2 raised.clamped) { s with
              cfg :=
                { load := .loaded
                  cause := none
                  remembered := some (role, station)
                  image := []
                  refusals := 0
                  validity := validityCodes (s.cfg.image ++ d)
                  clamped := raised.clamped
                  params := p }
              st := if same then { Stock.reset with
                  records := s.st.records.map (fun o => o.map (keptRecord role))
                  bed := s.st.bed
                  retired := s.st.retired
                  runtimeLocks := s.st.runtimeLocks.filter (fun n => decide (n ≤ p.slotCount)) }
                else .reset
              rc := if same then { s.rc with pierces := min s.rc.pierces p.pierceLimit }
                else { s.rc with pierces := 0, arcMs := 0, wearKnown := false }
              pt := { PeerTable.reset with
                entries := pinnedTable p s.time
                agingTimer := some ⟨s.time, 20⟩ }
              flc := { s.flc with beaconTimer := some ⟨s.time, p.beaconPeriod⟩ } })))
    ∧ (∀ (role : Role) (station : Nat) (block bs : List Byte),
        let defaulted := (loadImage role station block bs).2
        (∀ name i need, (name, i, need) ∈ [(ImageBlock.geometry, 1, 28), (.margins, 2, 16), (.timing, 3, 33), (.wear, 4, 5)] →
          (name ∈ defaulted ↔ ∀ c, imageBlock bs i = some c → c.length < need))
        ∧ (.rackSlots ∈ defaulted ↔ ∀ c, imageBlock bs 5 = some c → c.length < 2 + fieldNat c 1 1)
        ∧ (.groupsAndPins ∈ defaulted ↔ ∀ c, imageBlock bs 6 = some c → c.length < groupsNeed c)
        ∧ (.templates ∈ defaulted ↔ ∀ c, imageBlock bs 7 = some c → readTemplates c = none))
    ∧ ∀ (role : Role) (r : StockRecord), keptRecord role r = { r with
      piece := if role = .rack then { r.piece with reservation := none } else r.piece
      custody := if r.custody = .offered then .held else if r.custody = .pending then .disputed else r.custody
      partner := if r.custody = .offered then none else r.partner
      timer := none }

/-- R178 with R1, R4, R32 and R34: after a load every parameter is in its range, the bed lies within the hall, no
cut-off margin exceeds its hold margin, no lost time is below its stale time, and the config locks lie within the
slot count. A count raised for kept records may pass 64 only where those records already did (log 36 for the bed). -/
def Obligations.LoadedParametersAreInRange : Prop :=
  ∀ (s t : State) (d : List Byte), s.cfg.load = .loading → exec (.i2cTransferDone true d) s = .next t →
    t.cfg.load = .loaded →
    let p := t.cfg.params
    inRange 1 62 p.station = true
    ∧ inRange 1000 499999 p.xmax = true ∧ inRange 1000 99999 p.ymax = true
    ∧ inRange 1000 30000 p.bedLength = true ∧ inRange 1000 8000 p.bedWidth = true
    ∧ (p.role = .cutter → p.bedX ≤ p.xmax - 1000 ∧ p.bedY ≤ p.ymax - 1000
        ∧ p.bedX + p.bedLength ≤ p.xmax ∧ p.bedY + p.bedWidth ≤ p.ymax)
    ∧ p.ownSpan.lo ≤ p.ownSpan.hi ∧ p.ownSpan.hi ≤ p.xmax ∧ p.anchorX ≤ p.xmax ∧ p.anchorY ≤ p.ymax
    ∧ (∀ m ∈ [p.marginMark, p.marginLow, p.marginHigh], m.cutoff ≤ m.hold ∧ m.hold ≤ 20000)
    ∧ p.lookCut ≤ 2000 ∧ p.lookCrane ≤ 2000
    ∧ (∀ n ∈ [p.beaconCrane, p.beaconCutter, p.beaconRack], inRange 50 1000 n = true)
    ∧ (∀ n ∈ [p.staleMobile, p.staleRack, p.offerTime, p.pendingTime], inRange 200 10000 n = true)
    ∧ (∀ n ∈ [p.lostMobile, p.lostRack], inRange 200 60000 n = true)
    ∧ p.staleMobile ≤ p.lostMobile ∧ p.staleRack ≤ p.lostRack
    ∧ (∀ n ∈ [p.ownStale, p.bidWindow, p.queryWindow], inRange 50 2000 n = true)
    ∧ p.resumeDelay ≤ 5000 ∧ p.pierceAllowance ≤ 5000 ∧ p.queuePenalty ≤ 200000
    ∧ inRange 1 4000 p.pierceLimit = true ∧ inRange 60 360000 p.arcLimit = true
    ∧ 1 ≤ p.slotCount ∧ (s.st.highestSlot ≤ 64 → p.slotCount ≤ 64)
    ∧ (∀ n ∈ p.configLocks, inRange 1 p.slotCount n = true)
    ∧ p.groups.length ≤ 8 ∧ (∀ g ∈ p.groups, inRange 1 16 g = true)
    ∧ (∀ g, p.rackGroup = some g ∨ p.craneGroup = some g → inRange 1 16 g = true)
    ∧ p.pins.length ≤ 16 ∧ (p.pins.map (fun i => i.station)).Nodup
    ∧ (∀ i ∈ p.pins, i.station ≠ p.station ∧ inRange 1 62 i.station = true)
    ∧ p.templates.length = 8 ∧ (∀ l ∈ p.templates, 1 ≤ l.length ∧ l.length ≤ 12)
    ∧ p.partPrefix.length ≤ 8 ∧ p.partPrefix.all inAlphabet = true

/-! ### What holds in every state -/

/-- Every invariant below holds right after reset. -/
def Obligations.ResetMeetsEveryInvariant : Prop :=
  State.reset.permitSafe ∧ State.reset.linesSafe ∧ State.reset.conserves ∧ State.reset.sized
    ∧ Stock.sound State.reset.st ∧ State.reset.reservationsSound ∧ State.reset.peersSound
    ∧ Moves.ordered State.reset.mu ∧ State.reset.releaseTable ∧ State.reset.stopSound ∧ State.reset.liveSound
    ∧ State.reset.wearBounded

/-- R101: whatever command is taken, ARC_PERMIT is left asserted only in a loaded cutter in RUN with ESTOP released and
an arc copy in flight whose last evaluation is not CUTOFF. -/
def Obligations.ArcPermitStaysSafe : Prop :=
  ∀ s t : State, s.permitSafe → step s = .next t → t.permitSafe

/-- R166: whatever command is taken, a crane line is left asserted only while its result is GRANTED and no cause
withdraws it. -/
def Obligations.CraneLinesStaySafe : Prop :=
  ∀ s t : State, s.linesSafe → step s = .next t → t.linesSafe

/-- R74: the conservation of records. -/
def Obligations.RecordsAreConserved : Prop :=
  ∀ s t : State, s.conserves → step s = .next t → t.conserves

/-- The fixed sizes of R22, R42, R44, R111, R117, R120, R152, R160, R169 and R170; and R95: the pierce count never exceeds
the pierce limit. -/
def Obligations.TablesAndCountsStayBounded : Prop :=
  (∀ s t : State, s.sized → step s = .next t → t.sized)
    ∧ (∀ s t : State, s.wearBounded → step s = .next t → t.wearBounded)

/-- R117, with the slots of R137: stock IDs, the retired list, the bed record and the slots. -/
def Obligations.StockTableStaysSound : Prop :=
  ∀ s t : State, s.st.sound → step s = .next t → t.st.sound

/-- R148: every reservation of a rack names a requester that is heard, and there are at most 16. -/
def Obligations.ReservationsStaySound : Prop :=
  ∀ s t : State, s.reservationsSound → step s = .next t → t.reservationsSound

/-- R22: one entry per station, none of the part's own. -/
def Obligations.PeerTableStaysSound : Prop :=
  ∀ s t : State, s.peersSound → step s = .next t → t.peersSound

/-- R160: the order of a crane's queue, with at most one move started. -/
def Obligations.MoveQueueStaysOrdered : Prop :=
  ∀ s t : State, s.mu.ordered → step s = .next t → t.mu.ordered

/-- R78: what is current, what is head and what ARC_PERMIT is in each release state. R99: a stop is pending only in a
cutter in RUN whose copy is in flight or broken. R100: the live window is that of
the copies as they stand; outside RUN, and with neither the current nor the next copy an arc copy, it is absent, and
otherwise it is the smallest rectangle that contains their windows, with the higher of their classes. -/
def Obligations.ReleaseTableHolds : Prop :=
  (∀ s t : State, s.releaseTable → step s = .next t → t.releaseTable)
    ∧ (∀ s t : State, s.stopSound → step s = .next t → t.stopSound)
    ∧ (∀ s t : State, s.liveSound → step s = .next t → t.liveSound)
    ∧ ∀ s : State,
      let has := fun x => s.rc.current.bind (fun c => c.copy.hallWindow s.cfg.params) = some x
        ∨ s.liveNext.bind (fun c => c.hallWindow s.cfg.params) = some x
      let inside := fun a b : Rect => b.xlo ≤ a.xlo ∧ a.xhi ≤ b.xhi ∧ b.ylo ≤ a.ylo ∧ a.yhi ≤ b.yhi
      (s.sp.mode ≠ .run ∨ (∀ x, ¬ has x) → s.formLive = .absent)
      ∧ (s.sp.mode = .run → ∀ x, has x → ∃ w, s.formLive.window = some w ∧ inside x.1 w
          ∧ x.2.rank ≤ s.formLive.fume.rank ∧ (∃ y, has y ∧ y.2 = s.formLive.fume)
          ∧ ∀ r, (∀ y, has y → inside y.1 r) → inside w r)

/-! ### The intrusion test (chapter 1) -/

/-- R7: the reach is the distance in the time, rounded up to the next whole millimetre and capped. R8: every envelope of a
crane that is not LOST contains the reported footprint clipped to the hall and lies within the hall. R10: the STALE
envelope contains the FRESH one, so going STALE cannot lower an entry's result. -/
def Obligations.EnvelopesCoverTheReport : Prop :=
  (∀ v time cap : Nat, reach v time cap ≤ cap ∧ reach 0 time cap = 0
     ∧ (v * time ≤ 1000 * cap →
         v * time ≤ 1000 * reach v time cap ∧ 1000 * reach v time cap < v * time + 1000)
     ∧ (1000 * cap < v * time → reach v time cap = cap))
    ∧ (∀ (p : Params) (d : CraneData) (a m : Nat) (e : Rect),
         e = freshEnvelope p d a m ∨ e = staleEnvelope p d a m →
         let f := d.footprint.toHall p
         (0 ≤ e.xlo ∧ e.xlo ≤ f.xlo ∧ f.xhi ≤ e.xhi ∧ e.xhi ≤ p.xmax)
           ∧ (0 ≤ e.ylo ∧ e.ylo ≤ f.ylo ∧ f.yhi ≤ e.yhi ∧ e.yhi ≤ p.ymax))
    ∧ (∀ (p : Params) (now : Count) (e : PeerEntry) (d : CraneData) (w : Rect) (c : FumeClass),
         d.vx.natAbs ≤ 5000 → d.vy.natAbs ≤ 5000 →
         (craneResult p now { e with state := .fresh } d w c).rank
           ≤ (craneResult p now { e with state := .stale } d w c).rank)

/-- R9 to R11: a FRESH crane that reports EMPTY and HIGH gives CLEAR; with the margins of a load a FRESH result is
CUTOFF, HOLD or CLEAR by the two envelopes, and one that overlaps at the cut-off margin overlaps at the hold margin; a
LOST entry never gives HOLD, and is CUTOFF over its whole runway. The envelope of a LOST entry is its runway by the hall
width, joined with the last footprint clipped to the hall where the entry has been heard; it gives CUTOFF where it
overlaps the window, and CLEAR where it does not. -/
def Obligations.CraneResultFollowsItsState : Prop :=
  ∀ (p : Params) (now : Count) (e : PeerEntry) (d : CraneData) (w : Rect) (c : FumeClass),
    (e.state = .fresh → d.load = .empty → d.hook = .high → craneResult p now e d w c = .clear)
    ∧ ((e.state = .fresh ∧ ¬ (d.load = .empty ∧ d.hook = .high)) ∨ e.state = .stale →
        let env := fun m => if e.state = .fresh then freshEnvelope p d (e.age now) m
          else staleEnvelope p d (e.age now) m
        (craneResult p now e d w c = .cutoff ↔ (env (p.margins c).cutoff).overlaps w = true)
        ∧ ((p.margins c).cutoff ≤ (p.margins c).hold →
            (craneResult p now e d w c = .clear ↔ (env (p.margins c).hold).overlaps w = false)))
    ∧ (e.state = .lost → craneResult p now e d w c ≠ .hold
        ∧ ((⟨d.span.lo, d.span.hi, 0, p.ymax⟩ : Rect).overlaps w = true → craneResult p now e d w c = .cutoff)
        ∧ (let f := Rect.toHall p ⟨(d.x : Int) - d.hx, (d.x : Int) + d.hx, (d.y : Int) - d.hy, (d.y : Int) + d.hy⟩
          let alone : Rect := ⟨d.span.lo, d.span.hi, 0, p.ymax⟩
          let joined : Rect :=
            ⟨min (d.span.lo : Int) f.xlo, max (d.span.hi : Int) f.xhi, min 0 f.ylo, max (p.ymax : Int) f.yhi⟩
          craneResult p now e d w c
            = if (if e.heard then joined else alone).overlaps w = true then .cutoff else .clear))

/-- R12 to R14: with a window under test every crane entry holds its own result and the station result is the highest
of them; without one every result is dropped and the station result is CLEAR. Nothing else is changed, the entries
apart from their results included. The window under test, in hall coordinates and with its copy's class (R2, R3): none
in IDLE and FAULTED, that of the head copy in WAITING, and that of the current copy in IN_FLIGHT and BROKEN; none where
that copy is no arc copy. -/
def Obligations.EvaluationFormsTheHighestResult : Prop :=
  (∀ s : State, s.role = .cutter →
    (∀ w, s.windowUnderTest = some w →
      (∀ n e d, entryAt s.pt.entries n = some e → e.data = .crane d →
        entryAt (evaluateAll s).pt.entries n
          = some { e with result := some (craneResult s.cfg.params s.time e d w.1 w.2) }
        ∧ (craneResult s.cfg.params s.time e d w.1 w.2).rank ≤ (evaluateAll s).env.station.rank)
      ∧ ((evaluateAll s).env.station ≠ .clear →
          ∃ n e d, entryAt s.pt.entries n = some e ∧ e.data = .crane d
            ∧ (evaluateAll s).env.station = craneResult s.cfg.params s.time e d w.1 w.2))
    ∧ (s.windowUnderTest = none → (evaluateAll s).env.station = .clear
        ∧ ∀ n e, entryAt (evaluateAll s).pt.entries n = some e → e.result = none)
    ∧ (evaluateAll s).pt.told = s.pt.told
    ∧ evaluateAll s = { s with
        pt := { s.pt with entries := (evaluateAll s).pt.entries }
        env := { s.env with station := (evaluateAll s).env.station } })
  ∧ (∀ s : State,
    let tests := fun (c : Copy) =>
      (c.content.fume = .none → s.windowUnderTest = none)
      ∧ (c.content.fume ≠ .none → ∀ w, c.window = some w →
        s.windowUnderTest = some (⟨w.xlo + s.cfg.params.bedX, w.xhi + s.cfg.params.bedX, w.ylo + s.cfg.params.bedY,
          w.yhi + s.cfg.params.bedY⟩, c.content.fume))
    (s.rc.release = .idle ∨ s.rc.release = .faulted → s.windowUnderTest = none)
    ∧ (∀ c, s.rc.release = .waiting → s.rc.head = some c → tests c)
    ∧ ∀ c, s.rc.release = .inFlight ∨ s.rc.release = .broken → s.rc.current = some c → tests c.copy)
  ∧ ∀ (current budget template k dx : Nat) (pierce : Bool) (w : Rect) (part : Option Text) (target : MarkTarget)
      (x y : Int) (i : StockId) (notch : Option Notch),
    (current ≤ 130 → (SegContent.cut current pierce w budget part).fume = .cutLow)
    ∧ (131 ≤ current → (SegContent.cut current pierce w budget part).fume = .cutHigh)
    ∧ (SegContent.mark (.arc current) w budget template target part).fume = .mark
    ∧ ∀ c ∈ [SegContent.mark .ink w budget template target part, .travel budget, .repeats k x y, .nestStart i, .nestEnd,
        .remnant k dx current notch], c.fume = .none

/-- R15, R18, R19 and R166: a POSITION is held in range and replaces the own record; the five results follow from the
cutter windows, and in READY and RUN with ESTOP released the lines carry them; a change of load or hook calls for an
urgent beacon (R52); that a change of both calls for one, not two, is the model's reading (log 25), and that its numbers come as whole
numbers of any size its choice (log 38). A stale own record
withdraws all five results; an empty hook held HIGH grants the four directions without a probe but is still kept from
lowering onto a window. In the other roles POSITION is refused WRONG_MODE. -/
def Obligations.PositionSetsRecordAndLines : Prop :=
  (∀ (s : State) (f : WriteFrame) (v : PositionFields), s.takes f → s.role = .crane →
     let o : OwnPosition :=
       { x := (max 0 (min (s.cfg.params.xmax : Int) v.x)).toNat
         y := (max 0 (min (s.cfg.params.ymax : Int) v.y)).toNat
         vx := max (-5000) (min 5000 v.vx)
         vy := max (-5000) (min 5000 v.vy)
         hx := (max 0 (min 12000 v.hx)).toNat
         hy := (max 0 (min 12000 v.hy)).toNat
         load := readLoad v.load
         hook := readHook v.hook
         receipt := s.time
         received := true }
     let r := cranePermits s.cfg.params s.time o s.cutterWindows
     let u := if o.load ≠ s.env.own.load ∨ o.hook ≠ s.env.own.hook then callUrgent s.begun else s.begun
     exec (.position f v) s = .next (s.replied .position .ok .none { u with
       env := { s.env with own := o, permits := r }
       mu := { s.mu with live := !s.linesWithdrawn }
       lu := if s.linesWithdrawn then { Lines.reset with
           estop := s.lu.estop, loadAttached := s.lu.loadAttached, arcPermit := s.lu.arcPermit }
         else { s.lu with travelXP := r.xp, travelXN := r.xn, travelYP := r.yp, travelYN := r.yn, lower := r.lower } }))
    ∧ (∀ (p : Params) (now : Count) (o : OwnPosition) (ws : List (Rect × FumeClass)),
         (o.isStale p now = true → cranePermits p now o ws = ⟨false, false, false, false, false⟩)
         ∧ (o.isStale p now = false →
             (o.load = .empty → o.hook = .high →
               (cranePermits p now o ws).xp = true ∧ (cranePermits p now o ws).xn = true
               ∧ (cranePermits p now o ws).yp = true ∧ (cranePermits p now o ws).yn = true)
             ∧ ((cranePermits p now o ws).lower = true ↔
                 ∀ w ∈ ws, (Rect.toHall p (o.footprint.widen (p.margins w.2).cutoff)).overlaps w.1 = false)
             ∧ (¬ (o.load = .empty ∧ o.hook = .high) →
                 ((cranePermits p now o ws).xp = true ↔
                   ∀ w ∈ ws, (probeXP p o w.2).overlaps w.1 = true → w.1.centreX ≤ o.x)
                 ∧ ((cranePermits p now o ws).xn = true ↔
                   ∀ w ∈ ws, (probeXN p o w.2).overlaps w.1 = true → o.x ≤ w.1.centreX)
                 ∧ ((cranePermits p now o ws).yp = true ↔
                   ∀ w ∈ ws, (probeYP p o w.2).overlaps w.1 = true → w.1.centreY ≤ o.y)
                 ∧ ((cranePermits p now o ws).yn = true ↔
                   ∀ w ∈ ws, (probeYN p o w.2).overlaps w.1 = true → o.y ≤ w.1.centreY))))
    ∧ ∀ (s : State) (f : WriteFrame) (v : PositionFields), s.takes f → s.role ≠ .crane →
      exec (.position f v) s = .next (s.replied .position .wrongMode .none s.begun)

/-! ### The peer table (chapter 2) -/

/-- R26 to R30: a beacon from a source outside 1..62, one that is not newer than a FRESH entry, and one that finds a
full table of pinned entries are counted and dropped; every other one is stored FRESH under its station: in its own
entry, in the lowest free position, or in that of the unpinned entry with the largest receipt age (and, among equals,
the lowest station), which is evicted and counted. A change of role raises PEER_ROLE_CHANGED. What the envelope unit
reads of it, it evaluates: a crane forms its results again, a cutter without a copy has the station result CLEAR; and a
crane beacon at a cutter whose arc copy is in flight may break it (R89, R90). Nothing else is changed (the moves and
reservations of an evicted station apart: R149, R159). That a beacon which also changes the entry's state is evaluated
once is the model's reading (log 27); the free value of a role change is log 12. -/
def Obligations.BeaconsFillThePeerTable : Prop :=
  ∀ (s : State) (t : Telegram) (role : Role) (c : Instr),
    (c = .beaconCutter t ∧ role = .cutter) ∨ (c = .beaconCrane t ∧ role = .crane)
      ∨ (c = .beaconRack t ∧ role = .rack) → s.delivers (beaconKind role) t →
    let station := t.source.toNat
    let fresh := fun pinned => freshEntry s.cfg.params s.time role station t.seq t.payload pinned
    let filled := fun k pinned evictions => { s.heard with pt := { s.pt with
      entries := s.pt.entries.set k (some (fresh pinned))
      stored := bump s.pt.stored
      evictions := evictions } }
    let stored := fun k pinned evictions => ∃ u, exec c s = .next u
      ∧ u.pt.told = (filled k pinned evictions).pt.told
      ∧ u.pt = { (filled k pinned evictions).pt with entries := u.pt.entries }
      ∧ u.cfg = s.cfg ∧ u.su = s.su ∧ u.time = s.time
    let seen := fun (roles : List Role) (u : State) =>
      (s.role = .rack ∨ (s.role = .crane ∧ .cutter ∉ roles) ∨ (s.role = .cutter ∧ .crane ∉ roles) →
        exec c s = .next u)
      ∧ (s.role = .crane → .cutter ∈ roles → exec c s = .next (craneEvaluates u))
      ∧ (s.role = .cutter → .crane ∈ roles → s.rc.release = .idle →
        exec c s = .next { u with env := { u.env with station := .clear } })
    (inRange 1 62 station = false →
      exec c s = .next { s.heard with pt := { s.pt with sourceDiscards := bump s.pt.sourceDiscards } })
    ∧ (inRange 1 62 station = true →
      (∀ k old, s.pt.find station = some k → entryAt s.pt.entries k = some old →
        (old.data.role = role → old.state = .fresh → inRange 1 127 (t.seq - old.sequence).toNat = false →
          exec c s = .next { s.heard with pt := { s.pt with seqDiscards := bump s.pt.seqDiscards } })
        ∧ (old.data.role = role → (old.state = .fresh → inRange 1 127 (t.seq - old.sequence).toNat = true) →
          stored k old.pinned s.pt.evictions ∧ seen [role] (filled k old.pinned s.pt.evictions)
          ∧ (s.role = .cutter → role = .crane → ∀ d, s.rc.release = .inFlight → s.rc.current = some d →
            d.copy.content.isArc = true →
            (evaluateOne k (filled k old.pinned s.pt.evictions)).meets d (exec c s)))
        ∧ (old.data.role ≠ role → stored k old.pinned s.pt.evictions
          ∧ seen [old.data.role, role] (raise (.peerRoleChanged station old.data.role role)
            { filled k old.pinned s.pt.evictions with freeCount := s.freeCount + 1 })
          ∧ ∃ u, exec c s = .next u ∧ (32 ≤ u.sp.notices.length
            ∨ (⟨s.time, .peerRoleChanged station old.data.role role⟩ : Notice) ∈ u.sp.notices)))
      ∧ (s.pt.find station = none →
        (∀ k, lowestEmpty s.pt.entries = some k →
          stored k false s.pt.evictions ∧ seen [role] (filled k false s.pt.evictions))
        ∧ (lowestEmpty s.pt.entries = none → (∀ k e, entryAt s.pt.entries k = some e → e.pinned = true) →
          exec c s = .next { s.heard with pt := { s.pt with tableFull := bump s.pt.tableFull } })
        ∧ (∀ k old, lowestEmpty s.pt.entries = none → s.pt.entries.length = 48 →
          entryAt s.pt.entries k = some old → old.pinned = false →
          (∀ m e, entryAt s.pt.entries m = some e → e.pinned = false → m ≠ k →
            e.receiptAge s.time < old.receiptAge s.time
            ∨ (e.receiptAge s.time = old.receiptAge s.time ∧ old.station < e.station)) →
          stored k false (bump s.pt.evictions)
          ∧ (s.role = .crane ∨ (s.role = .cutter ∧ ∀ n, entryAt s.mu.moves n = none) →
            seen [old.data.role, role] (filled k false (bump s.pt.evictions))))))

/-- R31 to R33, with R20 for a crane: an aging step makes FRESH entries STALE and STALE entries LOST by their receipt
age, an unpinned one that becomes LOST leaves the table, and the next step is 20 ms on (log 4); then a crane forms
its five results from the table as it stands. R89 and R90: at a cutter whose arc copy is in flight, a step that changes
no entry evaluates every crane entry, and the station result may break the copy. R159: a station that becomes LOST is
taken by the move unit of a cutter or rack, which acts on its moves: a move awarded to the station is revoked and
called again, or ends where the controller had asked for it; an award that awaits its reply is revoked and passes down;
its bids leave; a started move stays. That the moves are acted on in position order is the model's choice (log 70), and the number of an ended move its own field (log 41). (One
entry becomes LOST here; the order of several is log 58, and the free values of log 12 stand in `freeCount`.) -/
def Obligations.AgingStepAgesEveryEntry : Prop :=
  (∀ s : State,
    (∀ t, s.pt.agingTimer = some t → s.expired (some t) = true → s.pt.entries.length = 48 →
      ∃ u, exec .agingStep s = .next u
        ∧ u.pt.told = s.pt.entries.map (fun o => o.bind (PeerEntry.aged s.cfg.params s.time))
        ∧ u.pt.agingTimer = some ⟨t.start + BitVec.ofNat 32 t.length, t.length⟩
        ∧ u.pt.stored = s.pt.stored ∧ u.pt.evictions = s.pt.evictions ∧ u.cfg = s.cfg ∧ u.su = s.su
        ∧ u.time = s.time
        ∧ (s.role = .crane → u.env = { s.env with
            permits := cranePermits s.cfg.params s.time s.env.own u.cutterWindows }))
    ∧ (s.expired s.pt.agingTimer = false → exec .agingStep s = .next s))
  ∧ (∀ (s : State) (t : Timer) (c : Current), s.pt.agingTimer = some t → s.expired (some t) = true →
      s.role = .cutter → s.rc.release = .inFlight → s.rc.current = some c → c.copy.content.isArc = true →
      (∀ n e, entryAt s.pt.entries n = some e → s.steady e) →
      (evaluateAll { s with pt := { s.pt with
        agingTimer := some ⟨t.start + BitVec.ofNat 32 t.length, t.length⟩ } }).meets c (exec .agingStep s))
  ∧ (∀ (s : State) (t : Timer) (k : Nat) (e : PeerEntry), s.pt.agingTimer = some t → s.expired (some t) = true →
      s.pt.entries.length = 48 → entryAt s.pt.entries k = some e → e.state = .stale →
      s.cfg.params.lostTime e.data.role ≤ e.receiptAge s.time →
      (∀ n x, n ≠ k → entryAt s.pt.entries n = some x → s.steady x) →
      (s.role = .cutter ∧ s.rc.release = .idle)
        ∨ (s.role = .rack
          ∧ ∀ n r, entryAt s.st.records n = some r → r.piece.reservation ≠ some e.station) →
      let lost := (List.range 8).foldl (fun u n => loseCraneAt e.station n u) s
      ∃ u, exec .agingStep s = .next u ∧ u.mu = lost.mu ∧ u.flc = lost.flc ∧ u.sp = lost.sp ∧ u.st = s.st
        ∧ u.sq = s.sq ∧ u.rc = s.rc ∧ u.lc = s.lc ∧ u.su = s.su ∧ u.lu = s.lu ∧ u.cfg = s.cfg ∧ u.time = s.time)
  ∧ ∀ (s : State) (g n : Nat),
    let lost := loseCraneAt g n s
    (entryAt s.mu.moves n = none → lost = s)
    ∧ ∀ e, entryAt s.mu.moves n = some e →
      let put := fun (u : State) (x : MoveEntry) => { u with mu := { u.mu with moves := s.mu.moves.set n (some x) } }
      let revoked : State := { s with
        flc := s.flc.sending g (.moveRevoke e.tag)
        mu := { s.mu with counts := { s.mu.counts with revocationsSent := bump s.mu.counts.revocationsSent } } }
      let others := e.bids.filter (fun b => decide (b.crane ≠ g))
      (e.state = .awarded → e.crane = some g → s.linkTakes g (.moveRevoke e.tag) →
        (e.cancelPending = true →
          lost = raise (.moveState e.tag .failed none (some .cancelled) none) { revoked with
            mu := { revoked.mu with
              moves := s.mu.moves.set n (some { e with
                state := .failed
                crane := none
                bids := []
                windowTimer := none
                replyTimer := none
                cancelPending := false
                reason := some .cancelled
                endOrder := s.mu.endCount })
              endCount := s.mu.endCount + 1 } })
        ∧ (e.cancelPending = false → revoked.linkTakes s.callDest (.moveCall e.tag 1 e.info) →
          lost = raise (.moveState e.tag .opened none none none) { revoked with
            flc := revoked.flc.sending s.callDest (.moveCall e.tag 1 e.info)
            mu := { revoked.mu with
              moves := s.mu.moves.set n (some { e with
                state := .opened
                crane := none
                callNumber := 1
                bids := []
                windowTimer := some ⟨s.time, s.cfg.params.bidWindow⟩
                replyTimer := none
                reason := none })
              counts := { revoked.mu.counts with callsMade := bump s.mu.counts.callsMade } } }))
      ∧ (e.state = .opened → e.replyTimer ≠ none → e.crane = some g → s.linkTakes g (.moveRevoke e.tag) →
        s.passes n { e with bids := others } revoked (.next lost))
      ∧ (e.state = .opened → e.replyTimer = none ∨ e.crane ≠ some g → lost = put s { e with bids := others })
      ∧ (e.state ≠ .opened → e.state ≠ .awarded ∨ e.crane ≠ some g → lost = s)

/-! ### The floor link (chapter 3) -/

/-- R182, with the encodings of R181: a message whose fields fit theirs is read back from its payload as it was written, and
so is the beacon a part sends (R53); each payload has its kind's length. -/
def Obligations.PayloadsAreReadBack : Prop :=
  (∀ (m : Message) (source : Nat), m.fits source = true →
      readMessage m.kind source m.payload = some m ∧ m.payload.length = m.kind.payloadLength)
    ∧ ∀ (s : State) (p : Params) (span : Span), p.xmax = s.cfg.params.xmax → p.ymax = s.cfg.params.ymax →
      p.xmax < 16777216 → p.ymax < 16777216 →
      (s.role = .crane → s.env.own.x ≤ p.xmax → s.env.own.y ≤ p.ymax → s.env.own.vx.natAbs ≤ 5000 →
        s.env.own.vy.natAbs ≤ 5000 → s.env.own.hx ≤ 12000 → s.env.own.hy ≤ 12000 → s.env.own.age s.time ≤ 255 →
        readCrane p span s.beaconPayload
          = { x := s.env.own.x, y := s.env.own.y, vx := s.env.own.vx, vy := s.env.own.vy, hx := s.env.own.hx,
              hy := s.env.own.hy, load := s.env.own.load, hook := s.env.own.hook, span := span }
        ∧ s.beaconPayload.length = 17 ∧ fieldNat s.beaconPayload 0 1 = s.env.own.age s.time)
      ∧ (s.role = .cutter → s.cfg.params.bedX + s.cfg.params.bedLength ≤ p.xmax →
        s.cfg.params.bedY + s.cfg.params.bedWidth ≤ p.ymax →
        (∀ w, s.rc.live.window = some w →
          0 ≤ w.xlo ∧ w.xlo ≤ w.xhi ∧ w.xhi ≤ p.xmax ∧ 0 ≤ w.ylo ∧ w.ylo ≤ w.yhi ∧ w.yhi ≤ p.ymax) →
        readCutter p s.beaconPayload
          = { bed := s.cfg.params.bedRect, window := s.rc.live.window, fume := s.rc.live.fume,
              arcOn := s.lu.arcPermit, release := s.rc.release }
        ∧ s.beaconPayload.length = 29 ∧ fieldNat s.beaconPayload 0 1 = 0)
      ∧ (s.role = .rack → s.cfg.params.slotCount ≤ 64 →
        fieldNat s.beaconPayload 0 1 = 0 ∧ fieldNat s.beaconPayload 1 3 = s.cfg.params.anchorX % 16777216
        ∧ fieldNat s.beaconPayload 4 3 = s.cfg.params.anchorY % 16777216 ∧ fieldNat s.beaconPayload 7 1 = s.freeSlots
        ∧ s.beaconPayload.length = 8)

/-- R39, R40, R48 and R50: what happens to a telegram that is not delivered. Nothing is judged without a good load or
while the part sends (log 9); then the length, the CRC, the source, the destination and the kind are judged in that
order, each failure with its own count. A telegram with the part's own source isolates the link. -/
def Obligations.TelegramsAreJudgedInOrder : Prop :=
  ∀ (c : Instr) (kind : Byte) (length : Option Nat) (t : Telegram) (s : State),
    receivedTelegram c = some (kind, length, t) →
    let n := s.flc.counts
    let counted := fun k => exec c s = .next { s with flc := { s.flc with counts := k } }
    (s.isLoaded = false ∨ s.flc.attempt ≠ none → exec c s = .next s)
    ∧ (s.isLoaded = true → s.flc.attempt = none →
      (60 < t.payload.length → counted { n with framingErrors := bump n.framingErrors })
      ∧ (t.payload.length ≤ 60 → crcGood t kind = false → counted { n with crcErrors := bump n.crcErrors })
      ∧ (t.payload.length ≤ 60 → crcGood t kind = true → t.source.toNat = s.cfg.params.station →
        (s.flc.link = .normal → ∃ u, exec c s = .next u ∧ u.flc = s.flc.isolate .duplicate s.time
          ∧ (s.role ≠ .crane → u = raise (.linkIsolated .duplicate) { s with flc := u.flc })
          ∧ (s.role = .crane → u.mu.queue = s.mu.queue.filter (fun m => m.started))
          ∧ { u with flc := s.flc, mu := s.mu, sp := s.sp } = s)
        ∧ (s.flc.link = .isolated .duplicate → counted { n with isolations := bump n.isolations })
        ∧ (∀ cause, s.flc.link = .isolated cause → cause ≠ .duplicate →
          exec c s = .next (raise (.linkIsolated .duplicate) { s with flc := { s.flc with
            link := .isolated .duplicate
            counts := { n with isolations := bump n.isolations } } })))
      ∧ (t.payload.length ≤ 60 → crcGood t kind = true → t.source.toNat ≠ s.cfg.params.station →
        (s.addressed t.dest.toNat = false → counted { n with filtered := bump n.filtered })
        ∧ (s.addressed t.dest.toNat = true → length ≠ some t.payload.length →
          counted { n with kindErrors := bump n.kindErrors })))

/-- R43 to R45 and R51 to R53: beacons join their class by supersession; the attempt begun is that of the front of the
lowest class that is not empty, a beacon with its content and sequence formed then, a crane's old one withheld; a
clean attempt leaves the class. R49: a clean probe restores the link, but not where it is isolated for DUPLICATE. (Log 4
for the timers, log 10 for the line. That a periodic beacon takes the place of the first one that is not being sent,
where two wait, is the model's reading: log 55.) -/
def Obligations.LinkSendsItsQueues : Prop :=
  (∀ (s : State) (timer : Timer), s.flc.beaconTimer = some timer → s.expired (some timer) = true →
      let k := if s.flc.attempt.any (fun a => a.source = .queue .periodic) then 1 else 0
      let f : Flc := { s.flc with beaconTimer := some ⟨timer.start + BitVec.ofNat 32 timer.length, timer.length⟩ }
      let run := exec .beaconTimerExpiry s
      (s.announces = false → run = .next { s with flc := f })
      ∧ (s.announces = true → s.flc.class3.drop k = [] →
        run = .next { s with flc := { f with class3 := s.flc.class3 ++ [⟨0, .beacon, 0, none⟩] } })
      ∧ ∀ x rest, s.announces = true → s.flc.class3.drop k = x :: rest →
        run = .next { s with flc := { f with
          class3 := s.flc.class3.take k ++ ⟨0, .beacon, 0, none⟩ :: rest
          counts := { s.flc.counts with superseded := bump s.flc.counts.superseded } } })
    ∧ (∀ s : State, s.expired s.flc.spacingTimer = true →
      (s.flc.urgentPending = false →
        exec .urgentSpacingExpiry s = .next { s with flc := { s.flc with spacingTimer := none } })
      ∧ (s.flc.urgentPending = true → s.announces = true → s.flc.class0 = [] →
        exec .urgentSpacingExpiry s = .next { s with flc := { s.flc with
          class0 := [⟨0, .beacon, 0, none⟩]
          urgentPending := false
          spacingTimer := some ⟨s.time, 20⟩ } }))
    ∧ (∀ (s : State) (c : TxClass) (q : Queued) (rest : List Queued), s.isLoaded = true → s.flc.link = .normal →
      s.flc.backoff = none → s.flc.attempt = none → s.flc.queueOf c = q :: rest →
      (c = .urgent ∨ s.flc.class0 = []) → (c = .urgent ∨ c = .custody ∨ s.flc.class1 = []) →
      (c ≠ .periodic ∨ s.flc.class2 = []) →
      let onLine := fun (kind seq : Byte) (payload characters : List Byte) => ∃ lo hi : Byte,
        characters = [BitVec.ofNat 8 q.dest, BitVec.ofNat 8 s.cfg.params.station, kind, seq,
          BitVec.ofNat 8 payload.length] ++ payload ++ [lo, hi]
        ∧ crcGood ⟨BitVec.ofNat 8 q.dest, BitVec.ofNat 8 s.cfg.params.station, seq, payload, lo, hi⟩ kind = true
      (∀ m, q.body = .message m → ∃ characters, onLine m.kind.code 0 m.payload characters
        ∧ exec .attemptStart s = .next { s with flc := { s.flc with attempt := some ⟨.queue c, characters⟩ } })
      ∧ (q.body = .beacon → q.dest = 0 → s.beaconWithheld = false →
        let seq := q.sequence.getD s.flc.beaconSeq
        ∃ characters, onLine (beaconKind s.role).code seq s.beaconPayload characters
          ∧ exec .attemptStart s = .next { s with flc := { s.flc.setQueue c ({ q with sequence := some seq } :: rest) with
            beaconSeq := if q.sequence = none then s.flc.beaconSeq + 1 else s.flc.beaconSeq
            attempt := some ⟨.queue c, characters⟩ } })
      ∧ (q.body = .beacon → s.beaconWithheld = true →
        exec .attemptStart s = .next { s with flc := { s.flc.setQueue c rest with
          counts := { s.flc.counts with drops := bump s.flc.counts.drops } } }))
    ∧ ∀ (s : State) (characters : List Byte), s.isLoaded = true →
      let counts := { s.flc.counts with sent := bump s.flc.counts.sent }
      (∀ c, s.flc.attempt = some ⟨.queue c, characters⟩ →
        exec .attemptClean s = .next { s with flc := { s.flc.setQueue c ((s.flc.queueOf c).drop 1) with
          attempt := none
          collisionRun := 0
          counts := counts } })
      ∧ (s.flc.attempt = some ⟨.probe, characters⟩ →
        (s.flc.link = .isolated .duplicate →
          exec .attemptClean s = .next { s with flc := { s.flc with attempt := none, counts := counts } })
        ∧ (s.flc.link = .isolated .collisions ∨ s.flc.link = .isolated .jabber →
          exec .attemptClean s = .next (settle (raise .linkRestored (callUrgent { s with flc := { s.flc with
            link := .normal
            attempt := none
            collisionRun := 0
            probeTimer := none
            probePending := false
            counts := counts } })))))

/-- R39 and R46 to R49: a collided telegram is tried again after a backoff, whose draw is a free value of its range
(log 11), up to the fourth attempt of a beacon and the sixteenth of a message; the fortieth collision in a run and a
jabber cut isolate the link, and a probe a second tries to leave ISOLATED. R165: at an entry into ISOLATED a crane
removes every queued move that is not started, counts them, and reports them with MOVES_DROPPED, and a new head with
MOVE_NEXT; no telegram is sent, and in the other roles nothing else is done. That LINK_ISOLATED, MOVES_DROPPED and
MOVE_NEXT stand in this order is the model's choice (log 13); that a withheld probe is counted as dropped when it would
begin and not at its expiry is its reading (log 75). -/
def Obligations.LinkFailsByTheRules : Prop :=
  let drops := fun (s u : State) =>
    let kept := s.mu.queue.filter (fun m => m.started)
    let n := s.mu.queue.length - kept.length
    let v : State := { u with mu := { u.mu with counts := { u.mu.counts with
      movesDropped := min (u.mu.counts.movesDropped + n) 65535 } } }
    if s.role = .crane then s.requeued kept (if n = 0 then v else raise (.movesDropped n) v) else u
  let off := fun (s : State) (cause : IsolationCause) (n : LinkCounts) => drops s <| raise (.linkIsolated cause) { s with
    flc := { s.flc with
      link := .isolated cause
      class0 := []
      class1 := []
      class2 := []
      class3 := []
      attempt := none
      backoff := none
      probePending := false
      collisionRun := 0
      probeTimer := some ⟨s.time, 1000⟩
      counts := { n with
        isolations := bump n.isolations
        isolationDiscards := min (n.isolationDiscards
          + (s.flc.class0.length + s.flc.class1.length + s.flc.class2.length + s.flc.class3.length)) 65535 } } }
  (∀ (s : State) (c : TxClass) (characters : List Byte), s.isLoaded = true →
      s.flc.attempt = some ⟨.queue c, characters⟩ →
      exec .jabberLimit s = .next (off s .jabber s.flc.counts)
      ∧ ∀ q rest, s.flc.queueOf c = q :: rest →
        let run := exec .attemptCollided s
        let counts := { s.flc.counts with collisions := bump s.flc.counts.collisions }
        let dropped : State := { s with flc := { s.flc.setQueue c rest with
          attempt := none
          collisionRun := s.flc.collisionRun + 1
          counts := { counts with drops := bump counts.drops } } }
        let tries := if q.body = .beacon then 4 else 16
        (39 ≤ s.flc.collisionRun → run = .next (off s .collisions counts))
        ∧ (s.flc.collisionRun < 39 →
          (q.body = .beacon → 3 ≤ q.attempts → run = .next dropped)
          ∧ (∀ m, q.body = .message m → 15 ≤ q.attempts → run = .next (raise (.linkDrop m.kind q.dest) dropped))
          ∧ (q.attempts + 1 < tries → ∃ k, k < 2 ^ min (q.attempts + 1) 8 ∧ run = .next { s with
            flc := { s.flc.setQueue c ({ q with attempts := q.attempts + 1 } :: rest) with
              attempt := none
              collisionRun := s.flc.collisionRun + 1
              backoff := if k = 0 then none else some k
              counts := counts }
            freeCount := s.freeCount + 1 })))
    ∧ (∀ s : State, exec .backoffEnd s = .next { s with flc := { s.flc with backoff := none } })
    ∧ (∀ (s : State) (characters : List Byte), s.isLoaded = true → s.flc.attempt = some ⟨.probe, characters⟩ →
      exec .jabberLimit s = .next { s with flc := { s.flc with attempt := none } }
      ∧ exec .attemptCollided s = .next { s with flc := { s.flc with
        attempt := none
        counts := { s.flc.counts with collisions := bump s.flc.counts.collisions } } })
    ∧ (∀ (s : State) (cause : IsolationCause), s.flc.link = .isolated cause →
      (∀ timer, s.flc.probeTimer = some timer → s.expired (some timer) = true →
        exec .probeTimerExpiry s = .next { s with flc := { s.flc with
          probeTimer := some ⟨timer.start + BitVec.ofNat 32 timer.length, timer.length⟩
          probePending := decide (s.sp.mode ≠ .offline ∧ s.beaconWithheld = false) } })
      ∧ (s.isLoaded = true → s.flc.probePending = true → s.flc.attempt = none →
        exec .probeStart s = .next { s with flc := if s.beaconWithheld
          then { s.flc with
            probePending := false
            counts := { s.flc.counts with drops := bump s.flc.counts.drops } }
          else { s.flc with
            probePending := false
            beaconSeq := s.flc.beaconSeq + 1
            attempt := some ⟨.probe, s.beaconCharacters s.flc.beaconSeq⟩ } }))
    ∧ ∀ s : State, exec .telegramFramingError s = .next (if s.isLoaded then { s with flc := { s.flc with
        counts := { s.flc.counts with framingErrors := bump s.flc.counts.framingErrors } } } else s)

/-! ### The segment queue (chapter 4) -/

/-- R62, R67, R68 and R79: a record of good form joins the end of the held records, and while another record is the
head record nothing else changes but the live window. Into an empty queue a record other than a REPEAT becomes the head
record and its copy 0 is formed; a REPEAT waits for its target, and with it is consumed: the target is the head record
then, and its expansion begins. The copy is evaluated, with the release controller's part of R83 (`windowChanged`), and
judged (`settle`), which outside RUN holds it; the live window is formed again (`announce`, R100). What the reply counts
is the model's reading (log 24). -/
def Obligations.SegmentJoinsTheQueue : Prop :=
  ∀ (s : State) (w : RawWrite) (c : SegContent), s.takesRaw w → s.role = .cutter → s.sp.mode ≠ .offline →
    s.sq.held.length < 64 →
    let bs := w.bytes.take w.length.toNat
    let h := segHeader s.freeCount bs
    (s.sq.stream = .opened ∨ s.sq.stream = .seeking h.seq) → judgeForm s h bs = .ok c →
    let new : SegRecord := ⟨h.seq, c⟩
    let joined : SegQueue := { s.sq with
      held := s.sq.held ++ [new]
      accepted := s.sq.accepted + 1
      expected := some (h.seq + 1)
      stream := .opened
      repeatPending := decide (c.kind = .repeats)
      armed := s.sq.armed || decide (16 ≤ s.sq.held.length) }
    let kept : State := { s.begun with sq := joined }
    let headed := fun (q : SegQueue) (copies : Nat) (dx dy : Int) => ({ s.begun with
      sq := { q with cursor := some ⟨new, copies, 0, dx, dy⟩ }
      rc := { s.rc with
        release := if s.rc.release = .idle then .waiting else s.rc.release
        head := some ⟨h.seq, c, 0, copies, c.window.map (fun r => r.shift 0 0)⟩ } } : State)
    let answers := fun (count : Nat) (t : State) =>
      exec (.segment w) s = .next (s.replied .segment .ok (.queued count .opened) t)
    let quiet := s.sp.mode = .ready ∧ s.rc.live = .absent
    (∀ cur, s.sq.cursor = some cur →
      answers (s.sq.held.length + 1) (announce false kept) ∧ (quiet → answers (s.sq.held.length + 1) kept))
    ∧ (s.sq.held = [] → s.sq.cursor = none → s.rc.head = none →
      (c.kind = .repeats → answers 1 (announce false kept))
      ∧ (c.kind ≠ .repeats →
        answers 1 (settle (windowChanged (announce false (headed joined 1 0 0))))
        ∧ (quiet → s.rc.release = .idle → answers 1 (windowChanged (headed joined 1 0 0)))))
    ∧ ∀ (q : Seq) (count : Nat) (dx dy : Int), s.sq.held = [⟨q, .repeats count dx dy⟩] → s.sq.cursor = none →
      s.rc.head = none → s.sq.armed = false → c.kind ≠ .repeats →
      answers 2 (settle (windowChanged (announce false
        (headed { joined with held := [new], consumed := s.sq.consumed + 1 } (count + 1) dx dy))))

/-- R63: with 64 records held a SEGMENT that is not settled before is refused FULL, unjudged, and changes nothing. -/
def Obligations.FullQueueRefuses : Prop :=
  ∀ (s : State) (w : RawWrite), s.takesRaw w → s.role = .cutter → s.sp.mode ≠ .offline → 64 ≤ s.sq.held.length →
    3 ≤ w.length.toNat →
    (s.sq.stream = .opened
      ∨ s.sq.stream = .seeking (segHeader s.freeCount (w.bytes.take w.length.toNat)).seq) →
    exec (.segment w) s = .next (s.replied .segment .full .none s.begun)

/-- R60, R61, R64 and R66: a SEGMENT is refused WRONG_MODE or LOCKED with no change; a malformed one locks the stream, with
the first reason that holds and with its sequence and kind; while SEEKING another record than the target is accepted
and discarded at once. -/
def Obligations.MalformedSegmentsLockTheStream : Prop :=
  (∀ (s : State) (w : RawWrite), s.takesRaw w → 3 ≤ w.length.toNat →
     let bs := w.bytes.take w.length.toNat
     let h := segHeader s.freeCount bs
     (s.role ≠ .cutter ∨ s.sp.mode = .offline →
       exec (.segment w) s = .next (s.replied .segment .wrongMode .none s.begun))
     ∧ (s.role = .cutter → s.sp.mode ≠ .offline →
       (∀ reason seq kind, s.sq.stream = .locked reason seq kind →
         exec (.segment w) s = .next (s.replied .segment .locked .none s.begun))
       ∧ (∀ target, s.sq.stream = .seeking target → target ≠ h.seq →
         exec (.segment w) s = .next (s.replied .segment .ok (.queued s.sq.held.length (.seeking target))
           { s.begun with sq := { s.sq with
             accepted := s.sq.accepted + 1
             discarded := s.sq.discarded + 1 } }))
       ∧ (∀ reason, (s.sq.stream = .opened ∨ s.sq.stream = .seeking h.seq) → s.sq.held.length < 64 →
         judgeForm s h bs = .error reason →
         exec (.segment w) s = .next (s.replied .segment .malformed (.lockedBy reason)
           (raise (.streamLocked reason h.seq h.kind) { s.begun with sq := { s.sq with
             stream := .locked reason h.seq h.kind } })))))
    ∧ (∀ (s : State) (h : SegHeader) (bs : List Byte),
         let unknown := h.kind.toNat < 1 ∨ 7 < h.kind.toNat
         let misplaced := ∃ e, s.sq.expected = some e ∧ e ≠ h.seq
         let untargeted := s.sq.repeatPending = true ∧ h.kind ≠ 1 ∧ h.kind ≠ 3
         (unknown → judgeForm s h bs = .error .unknownKind)
         ∧ (¬ unknown → misplaced → judgeForm s h bs = .error .sequence)
         ∧ (¬ unknown → ¬ misplaced → untargeted → judgeForm s h bs = .error .repeatTarget)
         ∧ (¬ unknown → ¬ misplaced → ¬ untargeted →
             (readSegment bs = none → judgeForm s h bs = .error .fieldRange)
             ∧ ∀ c, readSegment bs = some c →
               (∀ w, c.window = some w →
                 (w.xhi < w.xlo ∨ w.yhi < w.ylo → judgeForm s h bs = .error .windowInverted)
                 ∧ (w.xlo ≤ w.xhi → w.ylo ≤ w.yhi →
                   (w.xlo < 0 ∨ (s.cfg.params.bedLength : Int) < w.xhi ∨ w.ylo < 0 ∨ (s.cfg.params.bedWidth : Int) < w.yhi →
                     judgeForm s h bs = .error .windowOutsideBed)
                   ∧ (0 ≤ w.xlo → w.xhi ≤ s.cfg.params.bedLength → 0 ≤ w.ylo → w.yhi ≤ s.cfg.params.bedWidth →
                     judgeForm s h bs = .ok c)))
               ∧ (c.window = none → judgeForm s h bs = .ok c)))

/-- R65, R66 and R94: FLUSH and RESYNC discard every held record, count it, and hand the flush on: a copy in flight
goes on with its flushed flag set, and in every other state RC is left IDLE with no copy. RESYNC leaves the stream
SEEKING its target; that it is left OPEN where a broken copy's stop was pending, as the discard of R72 then follows, is
the model's reading (log 53). The release states are those of R78 (`releaseTable`), and a stop is pending only in RUN
(R99, `stopSound`). In the CRANE and RACK roles both are
refused WRONG_MODE. -/
def Obligations.FlushDiscardsWhatIsHeld : Prop :=
  (∀ (s : State) (f : WriteFrame) (target : Seq) (c : Instr) (code : RequestCode), s.takes f → s.role = .cutter →
    s.releaseTable → (s.rc.stopPending = true → s.sp.mode = .run) →
    (c = .flush f ∧ code = .flush) ∨ (c = .resync f target ∧ code = .resync) →
    ∃ t, exec c s = .next t ∧ t.sq.held = [] ∧ t.sq.cursor = none ∧ t.sq.repeatPending = false
      ∧ t.sq.accepted = s.sq.accepted ∧ t.sq.consumed = s.sq.consumed
      ∧ t.sq.discarded = s.sq.discarded + BitVec.ofNat 32 s.sq.held.length
      ∧ (c = .flush f ∨ (s.rc.release = .broken ∧ s.rc.stopPending = true) →
          t.sq.stream = .opened ∧ t.sq.expected = none)
      ∧ (c = .resync f target → ¬ (s.rc.release = .broken ∧ s.rc.stopPending = true) →
          t.sq.stream = .seeking target ∧ t.sq.expected = some target)
      ∧ t.rc.head = none
      ∧ (s.rc.release ≠ .inFlight → t.rc.release = .idle ∧ t.rc.current = none)
      ∧ (s.rc.release = .inFlight →
          t.rc.current.map (fun d => (d.copy, d.flushed)) = s.rc.current.map (fun d => (d.copy, true))
          ∧ (t.rc.release = .inFlight ∨ t.rc.release = .broken))
      ∧ t.sp.buffer = s.sp.buffer ++ [⟨s.sp.number, code, .ok, .flushed s.sq.held.length⟩]
      ∧ t.st = s.st ∧ t.su = s.su ∧ t.mu = s.mu ∧ t.cfg = s.cfg)
    ∧ ∀ (s : State) (f : WriteFrame) (target : Seq), s.takes f → s.role ≠ .cutter →
      exec (.flush f) s = .next (s.replied .flush .wrongMode .none s.begun)
      ∧ exec (.resync f target) s = .next (s.replied .resync .wrongMode .none s.begun)

/-! ### Permission to burn (chapter 5) -/

/-- R80 to R83, with R84 to R86 and R89 to R91, by RESUME_TIMER_EXPIRY, which judges the waiting copy: it may go exactly
when it has no hold reason, which is when the conditions of R80 and R81 hold. A CUT, TRAVEL or MARK that may go, a MARK
with its legend, is released with its pierce counted and its notice raised: it is in flight, an arc copy under
ARC_PERMIT, or it has been broken at once by the evaluation that follows its release, with a MARK's entry in the log
(R110, R112). That the notice of the release stands before a WEAR_LIMIT or PLATE_RETIRED of the same release is the model's
choice (log 13). A copy that goes again after a break bears a CUT's pierce and stays marked as broken before. A nest copy
that may go and passes its check completes at its release, here as the last copy of the only record held: its stock
effect is applied and the record is consumed. A copy that may not go waits. -/
def Obligations.ResumeTimerJudgesTheWaitingCopy : Prop :=
  (∀ (s : State) (c : SegContent) (again : Bool),
     (s.reasonsFor c again = [] ↔ s.mayRelease c again = true)
     ∧ (s.mayRelease c again = true ↔
         s.sp.mode = .run ∧ s.rc.stopPending = false ∧ s.lu.estop = false
         ∧ (c.isArc = true →
             s.flc.link = .normal ∧ s.env.station = .clear
             ∧ (∀ t, s.rc.lastNonclear = some t → s.cfg.params.resumeDelay ≤ min (s.time - t).toNat 65535)
             ∧ s.rc.arcMs < s.cfg.params.arcLimit * 1000
             ∧ (c.pierceBearing again = true →
                 s.rc.wearKnown = true ∧ s.rc.pierces < s.cfg.params.pierceLimit))))
    ∧ (∀ (s : State) (c : Copy) (again : Bool) (legend : Option Legend) (go : NoticeData), s.role = .cutter →
         s.expired s.rc.resumeTimer = true →
         (match c.content with
           | .cut _ _ _ _ _ => go = .segmentGo c.seq c.k .cut c.window (c.content.pierceBearing again) again false
           | .travel _ => again = false ∧ go = .segmentGo c.seq c.k .travel none false false false
           | .mark tool _ _ _ _ _ => ∃ g, legend = some g ∧ go = .markGo c.seq c.k g.text c.window tool
           | _ => False) →
         ((s.rc.release = .waiting ∧ s.rc.head = some c ∧ again = false ∧ releaseCheck c s = .ok legend)
           ∨ (s.rc.release = .broken ∧ again = true ∧ ∃ b, s.rc.current = some b ∧ b.copy = c ∧ b.halted = true
               ∧ b.brokenBefore = true ∧ b.legend = legend)) →
         s.mayRelease c.content again = true →
         ∃ (t : State) (d : Current), exec .resumeTimerExpiry s = .next t ∧ t.rc.current = some d ∧ d.copy = c
           ∧ d.legend = legend ∧ d.halted = false
           ∧ (again = false → d.flushed = false) ∧ (∀ b, again = true → s.rc.current = some b → d.flushed = b.flushed)
           ∧ t.rc.head = (if again then s.rc.head else none)
           ∧ t.rc.pierces = s.rc.pierces + (if c.content.pierceBearing again then 1 else 0)
           ∧ (s.sp.notices.length < 32 → (s.sp.notices ++ [⟨s.time, go⟩]) <+: t.sp.notices)
           ∧ t.rc.lastNonclear = (if t.env.station = .clear then s.rc.lastNonclear else some s.time)
           ∧ ((t.rc.release = .inFlight ∧ t.lu.arcPermit = c.content.isArc ∧ d.cause = none
                 ∧ d.brokenBefore = again ∧ t.lc = s.lc
                 ∧ t.rc.flightTimer = some ⟨s.time, c.content.budget + c.content.budget / 8
                     + (if c.content.pierceBearing again then s.cfg.params.pierceAllowance else 0)⟩)
               ∨ (t.rc.release = .broken ∧ t.lu.arcPermit = false ∧ t.env.station ≠ .clear ∧ c.content.isArc = true
                 ∧ (d.cause = some .cutoff ∨ (d.cause = some .hold ∧ s.cfg.params.breakMode = .breakFirst
                     ∧ c.content.kind = .cut ∧ again = false))
                 ∧ d.brokenBefore = true ∧ t.lc = s.lc.entered d .broken
                 ∧ t.rc.haltTimer = some ⟨s.time, 2000⟩))
           ∧ t.sq = s.sq ∧ t.st = s.st ∧ t.su = s.su ∧ t.mu = s.mu ∧ t.sp.mode = s.sp.mode ∧ t.cfg = s.cfg)
    ∧ (∀ (s : State) (c : Copy) (legend : Option Legend) (r : SegRecord) (cur : Cursor), s.role = .cutter →
         s.expired s.rc.resumeTimer = true → s.rc.release = .waiting → s.rc.head = some c → s.rc.current = none →
         c.content.kind ∈ [CopyKind.nestStart, .nestEnd, .remnant] → s.mayRelease c.content false = true →
         releaseCheck c s = .ok legend → s.sq.held = [r] → s.sq.cursor = some cur → cur.copies ≤ cur.k + 1 →
         ∃ t, exec .resumeTimerExpiry s = .next t ∧ t.rc.release = .idle ∧ t.rc.head = none ∧ t.rc.current = none
           ∧ t.sq.held = [] ∧ t.sq.cursor = none ∧ t.sq.consumed = s.sq.consumed + 1
           ∧ t.sq.discarded = s.sq.discarded ∧ t.sq.accepted = s.sq.accepted
           ∧ t.st = (stockEffect c.content s).st
           ∧ (s.sp.notices.length < 32 →
               (s.sp.notices ++ [⟨s.time, .segmentGo c.seq c.k c.content.kind none false false true⟩])
                 <+: t.sp.notices)
           ∧ t.lu = s.lu ∧ t.lc = s.lc ∧ t.rc.pierces = s.rc.pierces ∧ t.rc.arcMs = s.rc.arcMs ∧ t.su = s.su
           ∧ t.mu = s.mu ∧ t.sp.mode = s.sp.mode ∧ t.cfg = s.cfg)
    ∧ (∀ (s : State) (c : Copy), s.role = .cutter → s.expired s.rc.resumeTimer = true →
         ((s.rc.release = .waiting ∧ s.rc.head = some c ∧ s.mayRelease c.content false = false)
           ∨ (s.rc.release = .broken ∧ ∃ d, s.rc.current = some d ∧ d.copy = c
               ∧ (d.halted = false ∨ s.mayRelease c.content true = false))
           ∨ s.rc.release = .idle ∨ s.rc.release = .inFlight ∨ s.rc.release = .faulted) →
         exec .resumeTimerExpiry s = .next { s with rc := { s.rc with resumeTimer := none } })

/-- R84 and R92: a NEST_START passes its check when it names the bed record's ID, a REMNANT with a bed record, an unused
ID and room, a MARK with the legend that is composed for it, and the other copies without one. A copy whose check at
release fails is not released: RC is FAULTED with the check's reason, the copy stays the head copy, and the queue and the
stock table stand. R119 and R120: a released REMNANT enters the table with the bed
record's data, unmarked and HELD at TABLE; a released NEST_END removes the bed record and puts its ID first in the
retired list, which keeps 64. (What a fault says of the record at the head is the model's field: log 40.) -/
def Obligations.NestCopiesAreCheckedAndApplied : Prop :=
  ((∀ (s : State) (c : Copy),
       (∀ i, c.content = .nestStart i →
         (s.bedRecord = none → releaseCheck c s = .error .plateMismatch)
         ∧ ∀ r, s.bedRecord = some r →
           (r.piece.id = i → releaseCheck c s = .ok none ∧ stockEffect c.content s = s)
           ∧ (r.piece.id ≠ i → releaseCheck c s = .error .plateMismatch))
       ∧ (∀ tool w budget template target part, c.content = .mark tool w budget template target part →
         (∀ reason, compose s c.seq template target part = .error reason → releaseCheck c s = .error reason)
         ∧ ∀ l, compose s c.seq template target part = .ok l → releaseCheck c s = .ok (some l))
       ∧ (c.content.kind ∈ [CopyKind.cut, .travel, .nestEnd] → releaseCheck c s = .ok none)
       ∧ (∀ n l w k, c.content = .remnant n l w k →
           (s.bedRecord = none → releaseCheck c s = .error .noSourceRecord)
           ∧ (s.bedRecord ≠ none →
               ((s.st.find ⟨s.cfg.params.station, n⟩).isSome = true ∨ ⟨s.cfg.params.station, n⟩ ∈ s.st.retired →
                 releaseCheck c s = .error .stockIdInUse)
               ∧ (s.st.find ⟨s.cfg.params.station, n⟩ = none → ⟨s.cfg.params.station, n⟩ ∉ s.st.retired →
                   releaseCheck c s = if s.st.isFull then .error .stockFull else .ok none))))
     ∧ ∀ (s : State) (c : Copy) (reason : FaultReason), s.role = .cutter → s.expired s.rc.resumeTimer = true →
       s.rc.release = .waiting → s.rc.head = some c → s.mayRelease c.content false = true →
       releaseCheck c s = .error reason →
       ∃ t, exec .resumeTimerExpiry s = .next t ∧ t.rc.release = .faulted
         ∧ t.rc.fault = some ⟨reason, c.seq, c.k, false, true⟩ ∧ t.rc.head = some c ∧ t.rc.current = none
         ∧ t.lu.arcPermit = false ∧ t.sq = s.sq ∧ t.st = s.st ∧ t.su = s.su ∧ t.mu = s.mu ∧ t.cfg = s.cfg)
    ∧ ((∀ (s : State) (n l w : Nat) (k : Option Notch) (bed : StockRecord) (m : Nat), s.bedRecord = some bed →
           lowestEmpty s.st.records = some m →
           stockEffect (.remnant n l w k) s = { s with st := { s.st with records := s.st.records.set m (some
             { piece :=
                 { id := ⟨s.cfg.params.station, n⟩
                   kind := .remnant
                   grade := bed.piece.grade
                   thickness := bed.piece.thickness
                   length := l
                   width := w
                   notch := k
                   heat := bed.piece.heat
                   parent := some bed.piece.id
                   marked := false
                   reservation := none }
               location := .table
               custody := .held
               partner := none
               entryTime := s.time
               timer := none }) } })
         ∧ (∀ (s : State) (n : Nat) (bed : StockRecord), s.st.bed = some n → entryAt s.st.records n = some bed →
           stockEffect .nestEnd s = raise (.plateRetired bed.piece.id) { s with st := { s.st with
             records := s.st.records.set n none
             bed := none
             retired := (bed.piece.id :: s.st.retired).take 64 } })
         ∧ ∀ s : State, s.bedRecord = none → stockEffect .nestEnd s = s)

/-- R69, R70, R79, R87 and R99, with R111 to R113: a SEGMENT_DONE of the current copy ends it: ARC_PERMIT and the timers
end, an arc copy's time is added, a MARK writes its DONE entry and marks its remnant. Of the last copy of the only
record held: the record is consumed, RC is IDLE, and a pending stop ends in READY. While copies remain within the bed,
the next one is formed and the record stays; with a stop pending that copy is evaluated first, and a result that is not
CLEAR sets last_nonclear, and then the mode is READY and every held record discarded. A copy that would lie outside the
bed faults RC as BED_OVERRUN, and its record, the only one held, is discarded. After a flushed copy the queue stands, and a copy formed
since the flush is the head copy. (What a fault says of the record at the head is the model's field: log 40.) -/
def Obligations.DoneReportCompletesTheCopy : Prop :=
  ∀ (s : State) (f : WriteFrame) (seq : Seq) (k ms : Nat) (c : Current), s.takes f → s.role = .cutter →
    s.doneCopy seq k = some c →
    let arcMs := if c.copy.content.isArc then min (s.rc.arcMs + ms) 4294967295 else s.rc.arcMs
    let target := fun (n : Nat) (r : StockRecord) => ∃ serial, c.marks = some serial
      ∧ s.st.find ⟨s.cfg.params.station, serial⟩ = some n ∧ entryAt s.st.records n = some r
    let stocked := fun (t : State) =>
      (∀ n r, target n r → t.st = { s.st with
        records := s.st.records.set n (some { r with piece := { r.piece with marked := true } }) })
      ∧ ((∀ n r, ¬ target n r) → t.st = s.st)
    let ended := fun (t : State) => exec (.segmentDone f seq k ms) s = .next t
      ∧ t.rc.arcMs = arcMs ∧ stocked t
      ∧ t.sp.buffer = s.sp.buffer ++ [⟨s.sp.number, .segmentDone, .ok, .none⟩]
      ∧ t.su = s.su ∧ t.mu = s.mu ∧ t.cfg = s.cfg
    let rested := fun (t : State) => ended t ∧ t.lc = s.lc.entered c .done ∧ t.rc.current = none ∧ t.rc.head = none
      ∧ t.rc.flightTimer = none ∧ t.rc.haltTimer = none ∧ t.lu.arcPermit = false ∧ t.rc.pierces = s.rc.pierces
    let waits := fun (t : State) (next : Copy) =>
      (t.rc.head = some next ∨ t.rc.current.map (fun d => d.copy) = some next)
      ∧ (t.lc = s.lc.entered c .done ∨ ∃ d, t.rc.current = some d ∧ d.copy = next ∧ t.rc.release = .broken
          ∧ t.lc = (s.lc.entered c .done).entered d .broken)
    (∀ cur, c.flushed = false → s.sq.cursor = some cur → s.rc.head = none →
      (cur.copies ≤ cur.k + 1 → ∀ r, s.sq.held = [r] → ∃ t, rested t ∧ t.rc.release = .idle
        ∧ t.sq.held = [] ∧ t.sq.cursor = none ∧ t.sq.consumed = s.sq.consumed + 1
        ∧ t.sq.discarded = s.sq.discarded ∧ t.sq.accepted = s.sq.accepted
        ∧ t.rc.stopPending = false ∧ t.sp.mode = (if s.rc.stopPending then .ready else s.sp.mode))
      ∧ (cur.k + 1 < cur.copies →
        let next : Copy :=
          { seq := cur.record.seq
            content := cur.record.content
            k := cur.k + 1
            copies := cur.copies
            window := cur.record.content.window.map (fun w =>
              w.shift ((cur.k + 1 : Nat) * cur.dx) ((cur.k + 1 : Nat) * cur.dy)) }
        (cur.record.content.kind = .cut ∨ cur.record.content.kind = .mark →
          (∀ w, next.window = some w → s.cfg.params.inBed w = true) →
          (s.rc.stopPending = false → ∃ t, ended t ∧ waits t next
            ∧ t.sq = { s.sq with cursor := some { cur with k := cur.k + 1 } } ∧ t.sp.mode = s.sp.mode)
          ∧ (s.rc.stopPending = true → s.sp.mode = .run →
            let seen := evaluateAll { s with rc := { s.rc with
              release := .waiting, head := some next, current := none } }
            ∃ t, rested t ∧ t.rc.release = .idle ∧ t.rc.stopPending = false ∧ t.sp.mode = .ready
              ∧ t.rc.lastNonclear = (if seen.env.station = .clear then s.rc.lastNonclear else some s.time)
              ∧ t.sq.held = [] ∧ t.sq.cursor = none ∧ t.sq.consumed = s.sq.consumed
              ∧ t.sq.accepted = s.sq.accepted
              ∧ t.sq.discarded = s.sq.discarded + BitVec.ofNat 32 s.sq.held.length))
        ∧ (∀ w r, next.window = some w → s.cfg.params.inBed w = false → s.sq.held = [r] → s.rc.stopPending = false →
          ∃ t, rested t ∧ t.rc.release = .faulted
            ∧ t.rc.fault = some ⟨.bedOverrun, cur.record.seq, cur.k + 1, false, false⟩
            ∧ (s.sp.notices.length < 30 →
                (⟨s.time, .releaseFaulted .bedOverrun cur.record.seq (cur.k + 1) false⟩ : Notice) ∈ t.sp.notices)
            ∧ t.sq.held = [] ∧ t.sq.cursor = none ∧ t.sq.consumed = s.sq.consumed
            ∧ t.sq.discarded = s.sq.discarded + 1 ∧ t.sq.accepted = s.sq.accepted ∧ t.sp.mode = s.sp.mode)))
    ∧ (c.flushed = true → s.rc.stopPending = false →
      (s.rc.head = none → ∃ t, rested t ∧ t.rc.release = .idle ∧ t.sq = s.sq ∧ t.sp.mode = s.sp.mode)
      ∧ ∀ next, s.rc.head = some next → next.content.kind ∈ [CopyKind.cut, .travel, .mark] →
        ∃ t, ended t ∧ waits t next ∧ t.sq = s.sq ∧ t.sp.mode = s.sp.mode)

/-- R86, R88, R90 and R92: a SEGMENT_ABORTED of the current copy, a copy in flight past its time, and a broken copy not halted
in its time fault RC; the record stays in the queue. R112: the first two write a MARK's ABORTED entry, and mark no
remnant; the last writes none. (With a stop pending the mode changes too, R99; what a
fault says of the record at the head is the model's field: log 40.) -/
def Obligations.AbortsAndTimeoutsFaultTheCopy : Prop :=
  (∀ (s : State) (f : WriteFrame) (seq : Seq) (k ms : Nat) (c : Current), s.takes f → s.role = .cutter →
     s.abortedCopy seq k = some c → s.rc.stopPending = false →
     ∃ t, exec (.segmentAborted f seq k ms) s = .next t
       ∧ t.rc.release = .faulted ∧ t.rc.fault = some ⟨.controllerAbort, seq, k, c.flushed, !c.flushed⟩
       ∧ t.rc.current = none ∧ t.rc.head = s.rc.head ∧ t.rc.flightTimer = none ∧ t.rc.haltTimer = none
       ∧ t.lu.arcPermit = false
       ∧ t.rc.arcMs = (if c.copy.content.isArc then min (s.rc.arcMs + ms) 4294967295 else s.rc.arcMs)
       ∧ (s.sp.notices.length < 31 →
           (⟨s.time, .releaseFaulted .controllerAbort seq k c.flushed⟩ : Notice) ∈ t.sp.notices)
       ∧ t.sp.buffer = s.sp.buffer ++ [⟨s.sp.number, .segmentAborted, .ok, .none⟩]
       ∧ t.sq = s.sq ∧ t.st = s.st ∧ t.su = s.su ∧ t.mu = s.mu ∧ t.cfg = s.cfg
       ∧ t.lc = s.lc.entered c .aborted)
    ∧ ∀ (s : State) (c : Current), s.role = .cutter → s.rc.current = some c → s.rc.stopPending = false →
      let faulted := fun (e : Instr) (reason : FaultReason) (log : Composer) => ∃ t, exec e s = .next t
        ∧ t.rc.release = .faulted ∧ t.rc.fault = some ⟨reason, c.copy.seq, c.copy.k, c.flushed, !c.flushed⟩
        ∧ t.rc.current = none ∧ t.rc.head = s.rc.head ∧ t.rc.flightTimer = none ∧ t.rc.haltTimer = none
        ∧ t.rc.arcMs = s.rc.arcMs ∧ t.lu.arcPermit = false ∧ t.lc = log ∧ t.sq = s.sq ∧ t.st = s.st ∧ t.su = s.su
        ∧ t.mu = s.mu ∧ t.cfg = s.cfg
      (s.rc.release = .inFlight → s.expired s.rc.flightTimer = true →
        faulted .inFlightTimeout .inFlightTimeout (s.lc.entered c .aborted))
      ∧ (s.rc.release = .broken → s.expired s.rc.haltTimer = true → faulted .haltTimeout .haltTimeout s.lc)

/-- R87, R88, R90 and R91: a report that names no copy in the state it needs is refused NOT_IN_FLIGHT and changes nothing. A
SEGMENT_HALTED of the broken copy stops the halt timer, adds an arc copy's time and sets the halted flag; while ESTOP,
an intrusion or a pending stop holds the copy, it waits and nothing else changes. In the CRANE and RACK roles the three
reports are refused WRONG_MODE (R78). -/
def Obligations.ReportsMustNameTheCopy : Prop :=
  (∀ (s : State) (f : WriteFrame) (seq : Seq) (k ms : Nat), s.takes f → s.role = .cutter →
     ((s.rc.release ≠ .inFlight ∧ s.rc.release ≠ .broken)
       ∨ (∀ c, s.rc.current = some c → c.copy.seq ≠ seq ∨ c.copy.k ≠ k) →
       exec (.segmentDone f seq k ms) s = .next (s.replied .segmentDone .notInFlight .none s.begun)
       ∧ exec (.segmentAborted f seq k ms) s = .next (s.replied .segmentAborted .notInFlight .none s.begun)
       ∧ exec (.segmentHalted f seq k ms) s = .next (s.replied .segmentHalted .notInFlight .none s.begun))
     ∧ (s.rc.release = .broken → (∀ c, s.rc.current = some c → c.halted = true) →
       exec (.segmentDone f seq k ms) s = .next (s.replied .segmentDone .notInFlight .none s.begun)
       ∧ exec (.segmentHalted f seq k ms) s = .next (s.replied .segmentHalted .notInFlight .none s.begun))
     ∧ (s.rc.release ≠ .broken →
       exec (.segmentHalted f seq k ms) s = .next (s.replied .segmentHalted .notInFlight .none s.begun)))
    ∧ (∀ (s : State) (f : WriteFrame) (seq : Seq) (k ms : Nat) (c : Current), s.takes f → s.role = .cutter →
         s.haltedCopy seq k = some c →
         (s.lu.estop = true ∨ s.rc.stopPending = true ∨ (c.copy.content.isArc = true ∧ s.env.station ≠ .clear)) →
         let u := if c.copy.content.isArc then addArc ms s.begun else s.begun
         exec (.segmentHalted f seq k ms) s = .next (s.replied .segmentHalted .ok .none { u with
           rc := { u.rc with current := some { c with halted := true }, haltTimer := none } }))
    ∧ ∀ (s : State) (f : WriteFrame) (seq : Seq) (k ms : Nat), s.takes f → s.role ≠ .cutter →
      exec (.segmentDone f seq k ms) s = .next (s.replied .segmentDone .wrongMode .none s.begun)
      ∧ exec (.segmentAborted f seq k ms) s = .next (s.replied .segmentAborted .wrongMode .none s.begun)
      ∧ exec (.segmentHalted f seq k ms) s = .next (s.replied .segmentHalted .wrongMode .none s.begun)

/-- R93: CONTINUE leaves FAULTED. In READY: a record still at the head is discarded and counted, the fault is cleared,
and the state follows the head copy. In another release state it is refused NOT_FAULTED, and in the CRANE and RACK
roles WRONG_MODE (R78). (What a fault says of the record at the head is the model's field: log 40.) -/
def Obligations.ContinueLeavesFaulted : Prop :=
  ∀ (s : State) (f : WriteFrame), s.takes f →
    (s.role ≠ .cutter → exec (.continueRequest f) s = .next (s.replied .continueRequest .wrongMode .none s.begun))
    ∧ (s.role = .cutter →
    (s.rc.release ≠ .faulted →
      exec (.continueRequest f) s = .next (s.replied .continueRequest .notFaulted .none s.begun))
    ∧ (s.rc.release = .faulted → s.sp.mode = .ready → s.releaseTable → ∀ g, s.rc.fault = some g →
      ∃ t, exec (.continueRequest f) s = .next t ∧ t.rc.fault = none ∧ t.rc.current = none
        ∧ t.rc.release = (if t.rc.head.isSome then .waiting else .idle)
        ∧ t.sp.buffer = s.sp.buffer ++ [⟨s.sp.number, .continueRequest, .ok, .none⟩]
        ∧ (g.recordAtHead = false → t.sq = s.sq ∧ t.rc.head = s.rc.head)
        ∧ (g.recordAtHead = true → ∀ r, s.sq.held = [r] → t.sq.held = [] ∧ t.sq.cursor = none ∧ t.rc.head = none
            ∧ t.sq.discarded = s.sq.discarded + 1 ∧ t.sq.consumed = s.sq.consumed)
        ∧ t.st = s.st ∧ t.lc = s.lc ∧ t.su = s.su ∧ t.mu = s.mu ∧ t.cfg = s.cfg ∧ t.sp.mode = .ready))

/-- R95 and R96: arc time is added and held at 2^32 - 1, with WEAR_LIMIT when the limit is reached from below. Outside RUN,
WEAR_RESTORE sets an UNKNOWN wear and CONSUMABLE_CHANGED clears the wear; a KNOWN wear is refused WEAR_KNOWN, and new
consumables are BUSY while a copy burns or has not been halted. The WEAR_LIMIT notices of a WEAR_RESTORE, for pierces
whenever the given count reaches the limit and for arc time from below, are the model's reading (log 54), and their
order is its choice (log 13). In the CRANE and RACK roles both requests are refused WRONG_MODE (R78). -/
def Obligations.WearIsCountedRestoredAndCleared : Prop :=
  (∀ (ms : Nat) (s : State),
     let total := min (s.rc.arcMs + ms) 4294967295
     let t := { s with rc := { s.rc with arcMs := total } }
     (s.rc.arcMs < s.cfg.params.arcLimit * 1000 → s.cfg.params.arcLimit * 1000 ≤ total →
       addArc ms s = raise (.wearLimit .arc) t)
     ∧ (s.cfg.params.arcLimit * 1000 ≤ s.rc.arcMs ∨ total < s.cfg.params.arcLimit * 1000 → addArc ms s = t))
    ∧ (∀ (s : State) (f : WriteFrame) (pierces ms : Nat), s.takes f → s.role = .cutter →
         (s.rc.wearKnown = true →
           exec (.wearRestore f pierces ms) s = .next (s.replied .wearRestore .wearKnown .none s.begun))
         ∧ (s.rc.wearKnown = false → s.sp.mode ≠ .run →
           let limit := s.cfg.params.pierceLimit
           let u : State := { s.begun with rc := { s.rc with pierces := min pierces limit, wearKnown := true } }
           exec (.wearRestore f pierces ms) s = .next (s.replied .wearRestore .ok .none
             (addArc ms (if limit ≤ pierces then raise (.wearLimit .pierce) u else u))))
         ∧ (s.rc.release = .inFlight ∨ (s.rc.release = .broken ∧ ∃ c, s.rc.current = some c ∧ c.halted = false) →
           exec (.consumableChanged f) s = .next (s.replied .consumableChanged .busy .none s.begun))
         ∧ (s.rc.release ≠ .inFlight → (s.rc.release = .broken → ∀ c, s.rc.current = some c → c.halted = true) →
           s.sp.mode ≠ .run →
           exec (.consumableChanged f) s = .next (s.replied .consumableChanged .ok .none { s.begun with
             rc := { s.rc with pierces := 0, arcMs := 0, wearKnown := true } })))
    ∧ ∀ (s : State) (f : WriteFrame) (pierces ms : Nat), s.takes f → s.role ≠ .cutter →
      exec (.wearRestore f pierces ms) s = .next (s.replied .wearRestore .wrongMode .none s.begun)
      ∧ exec (.consumableChanged f) s = .next (s.replied .consumableChanged .wrongMode .none s.begun)

/-- R77, R97, R166, R172 and R174: a change of ESTOP is sampled in every load state and reported after a good load; a
burning copy breaks, a MARK's with its BROKEN entry (R112), a crane's lines are withdrawn and stay so until new results, and neither the mode nor the queue
changes; after its release an arc copy waits out the resume delay. -/
def Obligations.EstopBreaksAndWithdraws : Prop :=
  ∀ s : State,
    (s.lu.estop = true → exec .estopAsserted s = .next s)
    ∧ (s.lu.estop = false → exec .estopReleased s = .next s)
    ∧ (s.lu.estop = false →
      let t : State := { s with lu := { s.lu with estop := true } }
      (s.isLoaded = false → exec .estopAsserted s = .next t)
      ∧ (s.isLoaded = true →
        (s.role = .rack ∨ (s.role = .cutter ∧ s.burning = false) →
          exec .estopAsserted s = .next (raise (.estopChanged true) t))
        ∧ (s.role = .cutter → s.burning = true → ∃ u c, exec .estopAsserted s = .next u
          ∧ u.rc.release = .broken ∧ u.lu.arcPermit = false ∧ u.rc.flightTimer = none
          ∧ u.rc.haltTimer = some ⟨s.time, 2000⟩ ∧ s.rc.current = some c
          ∧ u.rc.current = some { c with cause := some .estop, brokenBefore := true, halted := false }
          ∧ u.rc.head = s.rc.head ∧ u.sp.mode = s.sp.mode ∧ u.sq = s.sq ∧ u.st = s.st ∧ u.su = s.su ∧ u.mu = s.mu
          ∧ u.lc = s.lc.entered c .broken ∧ u.cfg = s.cfg)
        ∧ (s.role = .crane → exec .estopAsserted s = .next (raise (.estopChanged true) { t with
          lu := { t.lu with
            travelXP := false, travelXN := false, travelYP := false, travelYN := false, lower := false }
          mu := { s.mu with live := false } }))))
    ∧ (s.lu.estop = true →
      let t : State := { s with lu := { s.lu with estop := false } }
      (s.isLoaded = false → exec .estopReleased s = .next t)
      ∧ (s.isLoaded = true →
        (s.role = .rack → exec .estopReleased s = .next (raise (.estopChanged false) t))
        ∧ (s.role = .cutter → 1 ≤ s.cfg.params.resumeDelay →
          (∀ c again, s.rc.waiting = some (c, again) → c.content.isArc = true) →
          exec .estopReleased s = .next (raise (.estopChanged false) { t with rc := { s.rc with
            lastNonclear := some s.time
            resumeTimer := some ⟨s.time, s.cfg.params.resumeDelay⟩ } }))
        ∧ (s.role = .crane → s.mu.live = false →
          exec .estopReleased s = .next (raise (.estopChanged false) { t with lu := { t.lu with
            travelXP := false, travelXN := false, travelYP := false, travelYN := false, lower := false } }))))

/-! ### Marking (chapter 6) -/

/-- R105 to R108: the source record of a MARK is the bed record, or the remnant of this station with the named serial
while it stands at TABLE; without one the outcome is NO_SOURCE_RECORD. The items of the named template are rendered in
their order: a literal as it stands, the part number as given or the prefix with the sequence in five digits, the heat
as stored, the grade as G with two digits, the thickness in millimetres with its tenths digit, the ID as SS-NNNNN, the
length and the width with an X between them, and this station in two digits. R109: literals are dropped from the last
toward the first, and no more of them than it takes; the legend is LEGEND_LONG exactly when the fields alone pass 40
characters. -/
def Obligations.LegendDropsLiteralsFromTheEnd : Prop :=
  (∀ items : List (Bool × Text),
    (fitLegend items.length 0 items = none ↔
      40 < (joinItems (items.filter (fun i => !i.1))).length)
    ∧ ∀ l, fitLegend items.length 0 items = some l →
        l.text = joinItems (Nat.repeat dropLastLiteral l.dropped items) ∧ l.text.length ≤ 40
        ∧ l.dropped ≤ (items.filter (fun i => i.1)).length
        ∧ ∀ k, k < l.dropped → 40 < (joinItems (Nat.repeat dropLastLiteral k items)).length)
  ∧ (∀ (s : State) (seq : Seq) (template : Nat) (target : MarkTarget) (part : Option Text) (l : List TemplateItem),
    s.cfg.params.templates[template]? = some l →
    let run := compose s seq template target part
    let from_ := fun (p : Piece) =>
      let items := l.map (fun i => match i with
        | .literal t => (true, t)
        | .field f => (false, renderField s.cfg.params p part seq f))
      (∀ g, fitLegend items.length 0 items = some g → run = .ok g)
      ∧ (fitLegend items.length 0 items = none → run = .error .legendLong)
    (target = .part →
      (s.bedRecord = none → run = .error .noSourceRecord)
      ∧ ∀ r, s.bedRecord = some r → from_ r.piece)
    ∧ ∀ serial, target = .remnant serial →
      (s.st.find ⟨s.cfg.params.station, serial⟩ = none → run = .error .noSourceRecord)
      ∧ ∀ n r, s.st.find ⟨s.cfg.params.station, serial⟩ = some n → entryAt s.st.records n = some r →
        (r.piece.kind = .remnant → r.location = .table → from_ r.piece)
        ∧ (r.piece.kind = .plate ∨ r.location ≠ .table → run = .error .noSourceRecord))
  ∧ ∀ (p : Params) (source : Piece) (part : Option Text) (seq : Seq),
    let text := renderField p source part seq
    let reads := fun (t : Text) (n : Nat) => (∀ b ∈ t, 48 ≤ b.toNat ∧ b.toNat ≤ 57)
      ∧ t.foldl (fun a b => 10 * a + (b.toNat - 48)) 0 = n
    let fixed := fun (k : Nat) (t : Text) (n : Nat) => t.length = k ∧ reads t n
    let plain := fun (t : Text) (n : Nat) => reads t n ∧ t ≠ [] ∧ (t.head? = some 48#8 → t.length = 1)
    (∀ t, part = some t → text .part = t)
    ∧ (part = none → ∃ d, text .part = p.partPrefix ++ d ∧ fixed 5 d seq.toNat)
    ∧ text .heat = source.heat
    ∧ (source.grade ≤ 63 → ∃ d, text .grade = 71#8 :: d ∧ fixed 2 d source.grade)
    ∧ (source.thickness ≤ 1500 → ∃ w d, text .thick = w ++ [46#8, d] ∧ plain w (source.thickness / 10)
        ∧ fixed 1 [d] (source.thickness % 10))
    ∧ (source.id.origin ≤ 62 → source.id.serial ≤ 65535 → ∃ a b, text .stockId = a ++ 45#8 :: b
        ∧ fixed 2 a source.id.origin ∧ fixed 5 b source.id.serial)
    ∧ (source.length ≤ 24000 → source.width ≤ 24000 → ∃ a b, text .dims = a ++ 88#8 :: b ∧ plain a source.length
        ∧ plain b source.width)
    ∧ (p.station ≤ 62 → fixed 2 (text .station) p.station)

/-! ### Stock records and custody (chapter 7) -/

/-- R117 and R118, with R183 for the length: a declaration that passes its checks enters the record HELD, unreserved,
with the present count, in the lowest empty position and nowhere else; one that fails is refused by its first failing
check (the mode, the fields, the location, the ID, the retired list, the room, the place) and changes nothing. A slot
outside 1..64 is judged with the place (log 61), a location kind that cannot be read with the form (log 79), and the slot
number beside another location is not looked at (log 80): these are the model's choices. -/
def Obligations.DeclareStockEntersTheRecord : Prop :=
  (∀ (s : State) (f : WriteFrame) (record : List Byte) (k : LocationKind) (slot : Nat) (p : Piece) (loc : Location),
      s.takes f → f.length.toNat = 34 → s.sp.mode ≠ .offline → readPiece record = some p → pieceOk p = true →
      openLocation s.role k slot = some loc →
      (declareCheck s p loc = none → ∃ n, lowestEmpty s.st.records = some n ∧
        exec (.declareStock f record (some k) slot) s = .next (s.replied .declareStock .ok .none { s.begun with
          st := { s.st with
            records := s.st.records.set n (some
              ⟨{ p with reservation := none }, loc, .held, none, s.time, none⟩)
            bed := if loc = .bed then some n else s.st.bed } }))
      ∧ ∀ r, declareCheck s p loc = some r →
        exec (.declareStock f record (some k) slot) s = .next (s.replied .declareStock r .none s.begun))
    ∧ (∀ (s : State) (f : WriteFrame) (record : List Byte) (k : LocationKind) (slot : Nat) (p : Piece),
      s.takes f → f.length.toNat = 34 → s.sp.mode ≠ .offline → readPiece record = some p → pieceOk p = true →
      openLocation s.role k slot = none →
      exec (.declareStock f record (some k) slot) s = .next (s.replied .declareStock .badLocation .none s.begun))
    ∧ (∀ (s : State) (f : WriteFrame) (record : List Byte) (location : Option LocationKind) (slot : Nat), s.takes f →
      (s.sp.mode = .offline →
        exec (.declareStock f record location slot) s = .next (s.replied .declareStock .wrongMode .none s.begun))
      ∧ (s.sp.mode ≠ .offline →
        (f.length.toNat ≠ 34 ∨ location = none ∨ readPiece record = none
          ∨ ∃ p, readPiece record = some p ∧ pieceOk p = false) →
        exec (.declareStock f record location slot) s = .next (s.replied .declareStock .fieldRange .none s.begun)))
    ∧ ∀ (s : State) (p : Piece) (loc : Location),
      declareCheck s p loc
        = if (s.st.find p.id).isSome then some .idInUse
          else if p.id ∈ s.st.retired then some .retired
          else if s.st.isFull then some .full
          else match loc with
            | .slot n => if inRange 1 s.cfg.params.slotCount n = false ∨ (s.st.atSlot n).isSome ∨ s.slotLocked n
              then some .slotBad else none
            | .bed => if s.st.bed.isSome then some .bedOccupied else none
            | .table => none
            | .hook => none

/-- R121 and R123: a HAND_OFF that passes its checks makes the record OFFERED to its taker, starts the offer timer and
queues the CUSTODY_OFFER; nothing else changes. While the link is ISOLATED it takes the telegram and discards it (R42);
one the link refuses is SEND_REFUSED and counted, and the record stays HELD. One that fails a check is refused by the
first check that fails, in their order, and changes nothing. -/
def Obligations.HandOffIsJudgedAndOffered : Prop :=
  (∀ (s : State) (f : WriteFrame) (i : StockId) (taker n : Nat) (r : StockRecord), s.takes f → s.sp.mode ≠ .offline →
     inRange 1 62 taker = true → taker ≠ s.cfg.params.station → s.st.find i = some n →
     entryAt s.st.records n = some r → r.custody = .held → s.atLockedSlot r = false → s.unmarkedRemnant r = false →
     s.bedInWork n = false →
     let offered : State := { s.begun with st := { s.st with
       records := s.st.records.set n (some { r with
         custody := .offered
         partner := some taker
         timer := some ⟨s.time, s.cfg.params.offerTime⟩ })
       offersMade := bump s.st.offersMade } }
     let counts := s.flc.counts
     (s.linkTakes taker (.custodyOffer r.piece) →
       exec (.handOff f i taker) s = .next (s.replied .handOff .ok .none
         { offered with flc := s.flc.sending taker (.custodyOffer r.piece) }))
     ∧ (∀ cause, s.flc.link = .isolated cause →
       exec (.handOff f i taker) s = .next (s.replied .handOff .ok .none { offered with flc := { s.flc with
         counts := { counts with isolationDiscards := bump counts.isolationDiscards } } }))
     ∧ (s.flc.link = .normal → 8 ≤ s.flc.class1.length →
       exec (.handOff f i taker) s = .next (s.replied .handOff .sendRefused .none { s.begun with
         flc := { s.flc with counts := { counts with refused := bump counts.refused } }
         st := { s.st with linkRefusals := bump s.st.linkRefusals } })))
    ∧ (∀ (s : State) (f : WriteFrame) (i : StockId) (taker : Nat), s.takes f →
         let no := fun code => exec (.handOff f i taker) s = .next (s.replied .handOff code .none s.begun)
         (s.sp.mode = .offline → no .wrongMode)
         ∧ (s.sp.mode ≠ .offline →
           (inRange 1 62 taker = false ∨ taker = s.cfg.params.station → no .badStation)
           ∧ (inRange 1 62 taker = true → taker ≠ s.cfg.params.station →
             (s.st.find i = none → no .noRecord)
             ∧ ∀ n r, s.st.find i = some n → entryAt s.st.records n = some r →
               (r.custody ≠ .held → no .notHeld)
               ∧ (r.custody = .held →
                 (s.atLockedSlot r = true → no .slotLocked)
                 ∧ (s.atLockedSlot r = false → s.unmarkedRemnant r = true → no .unmarked)
                 ∧ (s.atLockedSlot r = false → s.unmarkedRemnant r = false → s.bedInWork n = true → no .busy)))))

/-- R126, R127 and R132: BED_LOADED and PLACED store the offered record PENDING in the lowest empty position, free the
incoming slot and queue the CUSTODY_ACCEPT; CONFIRM_CUSTODY makes a DISPUTED record HELD, with no reservation but at a
crane, and is refused NO_RECORD for an ID the table does not hold and NOT_DISPUTED for another record. BED_LOADED but at
a cutter and PLACED but at a rack, and both in OFFLINE, are refused WRONG_MODE. -/
def Obligations.ConfirmationTakesCustody : Prop :=
  (∀ (s : State) (f : WriteFrame) (i : StockId) (slot m n : Nat) (o : HeldOffer) (c : Instr) (code : RequestCode)
      (loc : Location), s.takes f → s.sp.mode ≠ .offline → s.st.offerOf i = some (m, o) →
      ((c = .bedLoaded f i ∧ code = .bedLoaded ∧ loc = .bed ∧ s.role = .cutter ∧ s.st.bed = none)
        ∨ (c = .placed f i slot ∧ code = .placed ∧ loc = .slot slot ∧ s.role = .rack ∧ s.slotBad slot = false)) →
      s.st.find o.piece.id = none → o.piece.id ∉ s.st.retired → lowestEmpty s.st.records = some n →
      s.linkTakes o.giver (.custodyAccept o.piece.id) →
      exec c s = .next (s.replied code .ok .none { s.begun with
        flc := s.flc.sending o.giver (.custodyAccept o.piece.id)
        st := { s.st.setSlot m none with
          records := s.st.records.set n (some
            { piece := if s.role = .rack then { o.piece with reservation := none } else o.piece
              location := loc
              custody := .pending
              partner := some o.giver
              entryTime := s.time
              timer := some ⟨s.time, s.cfg.params.pendingTime⟩ })
          bed := if loc = .bed then some n else s.st.bed
          acceptsSent := bump s.st.acceptsSent } }))
    ∧ (∀ (s : State) (f : WriteFrame) (i : StockId), s.takes f → s.st.find i = none →
      exec (.confirmCustody f i) s = .next (s.replied .confirmCustody .noRecord .none s.begun))
    ∧ (∀ (s : State) (f : WriteFrame) (i : StockId) (n : Nat) (r : StockRecord), s.takes f →
      s.st.find i = some n → entryAt s.st.records n = some r →
      exec (.confirmCustody f i) s = .next (
        if r.custody = .disputed then s.replied .confirmCustody .ok .none { s.begun with st := { s.st with
          records := s.st.records.set n (some { r with
            custody := .held
            partner := none
            timer := none
            piece := if s.role = .crane then r.piece else { r.piece with reservation := none } }) } }
        else s.replied .confirmCustody .notDisputed .none s.begun))
    ∧ ∀ (s : State) (f : WriteFrame) (i : StockId) (slot : Nat), s.takes f →
      (s.role ≠ .cutter ∨ s.sp.mode = .offline →
        exec (.bedLoaded f i) s = .next (s.replied .bedLoaded .wrongMode .none s.begun))
      ∧ (s.role ≠ .rack ∨ s.sp.mode = .offline →
        exec (.placed f i slot) s = .next (s.replied .placed .wrongMode .none s.begun))

/-- R124 to R126: a CUSTODY_OFFER sent to this station while it is READY or RUN is judged in the order of R124 and
refused with its reason, or held in an incoming slot with the offer time running; a repetition by its giver replaces
the held offer; that it raises no second OFFER_HELD is the model's reading (log 51), and that it counts as the one taken
last its choice (log 42), as is slot 0 where both are free (log 76). Sent to a group, or while OFFLINE, it is ignored. -/
def Obligations.CustodyOffersAreJudged : Prop :=
  (∀ (s : State) (t : Telegram) (p : Piece), s.hearsMessage t (.custodyOffer p) →
    let g := t.source.toNat
    let run := exec (.custodyOffer t) s
    let refused := fun r => s.linkTakes g (.custodyRefuse p.id r) → run = .next { s.heard with
      flc := s.heard.flc.sending g (.custodyRefuse p.id r)
      st := { s.st with refusalsSent := bump s.st.refusalsSent } }
    let new : HeldOffer := ⟨p, g, s.time, some ⟨s.time, s.cfg.params.offerTime⟩⟩
    (t.dest.toNat ≠ s.cfg.params.station ∨ s.sp.mode = .offline →
      run = .next { s.heard with st := { s.st with ignored := bump s.st.ignored } })
    ∧ (t.dest.toNat = s.cfg.params.station → s.sp.mode ≠ .offline →
      (∀ r, offerCheck s p = some r → refused r)
      ∧ (offerCheck s p = none →
        (∀ o, s.st.slot0 = some o → o.piece.id = p.id →
          (o.giver = g → run = .next { s.heard with st := { s.st with slot0 := some new, lastPlaced := 0 } })
          ∧ (o.giver ≠ g → refused .duplicate))
        ∧ (∀ o q, s.st.slot0 = some o → s.st.slot1 = some q → o.piece.id ≠ p.id → q.piece.id ≠ p.id →
          refused .busy)
        ∧ ((s.role ≠ .crane ∨ s.lu.loadAttached = false) →
          (s.st.slot0 = none → s.st.slot1 = none →
            run = .next (raise (.offerHeld p.id g p.kind)
              { s.heard with st := { s.st with slot0 := some new, lastPlaced := 0 } }))
          ∧ (∀ o, s.st.slot0 = some o → s.st.slot1 = none → o.piece.id ≠ p.id →
            run = .next (raise (.offerHeld p.id g p.kind)
              { s.heard with st := { s.st with slot1 := some new, lastPlaced := 1 } }))))))
  ∧ ∀ (s : State) (p : Piece),
    offerCheck s p
      = if pieceOk p = false ∨ reservationOk p = false then some .badRecord
        else if s.st.find p.id ≠ none then some .duplicate
        else if p.id ∈ s.st.retired then some .retired
        else if lowestEmpty s.st.records = none then some .full
        else if s.role = .cutter ∧ p.reservation ≠ none ∧ p.reservation ≠ some s.cfg.params.station then
          some .notReservedHere
        else if s.role = .cutter ∧ s.st.bed ≠ none then some .bedOccupied
        else none

/-- R125 and R128 to R131. The giver: an acceptance by the taker removes the record and sends the release; another
acceptance is refused LATE or NOT_OFFERED; a refusal by the taker, or no answer in the offer time, makes the record
HELD again. The taker: the giver's release makes a PENDING record HELD, and clears its reservation but at a crane; the
giver's refusal removes it; no answer in the pending time makes it DISPUTED with its partner kept; a held offer that is
not confirmed in its time is dropped. R162: where the record that leaves a crane is the one of the started DELIVER or
STORE, that move is finished, as CARRIED with the taker or as not carried; that HANDOVER_DONE and HANDOVER_REJECTED stand
before that move's MOVE_NEXT is the model's choice (log 13). -/
def Obligations.HandoversEndOnBothSides : Prop :=
  let moves := fun (s : State) (i : StockId) (m : QueuedMove) => s.role = .crane ∧ s.mu.queue.head? = some m
    ∧ m.started = true ∧ m.info.kind ≠ .clear ∧ m.info.stock = some i
  let leaves := fun (s u : State) (i : StockId) (carried : Bool) (taker : Option Nat)
      (o : Host.Outcome State Fault Refusal) =>
    ((∀ m, ¬ moves s i m) → o = .next u)
    ∧ ∀ m rest, s.mu.queue = m :: rest → moves s i m → s.linkTakes m.requester (.moveDone m.tag carried taker) →
      (s.mu.leavePending = true → s.sp.mode = .run) → o = .next (s.finished m rest carried taker u)
  (∀ (s : State) (i : StockId) (n : Nat) (r : StockRecord), entryAt s.st.records n = some r → s.st.find i = some n →
     let held : List (Option StockRecord) :=
       s.st.records.set n (some { r with custody := .held, partner := none, timer := none })
     (∀ t : Telegram, s.hearsMessage t (.custodyAccept i) → t.dest.toNat = s.cfg.params.station →
       let g := t.source.toNat
       let refused := fun reason => s.linkTakes g (.custodyRefuse i reason) →
         exec (.custodyAccept t) s = .next { s.heard with
           flc := s.heard.flc.sending g (.custodyRefuse i reason)
           st := { s.st with refusalsSent := bump s.st.refusalsSent } }
       (r.custody = .offered → r.partner = some g → s.linkTakes g (.custodyRelease i) →
         leaves s (raise (.handoverDone i g .giver) { s.heard with
           flc := s.heard.flc.sending g (.custodyRelease i)
           st := { s.st with
             records := s.st.records.set n none
             bed := if s.st.bed = some n then none else s.st.bed
             releasesSent := bump s.st.releasesSent } }) i true (some g) (exec (.custodyAccept t) s))
       ∧ (r.custody = .offered → r.partner ≠ some g → refused .notOffered)
       ∧ (r.custody = .pending → refused .notOffered)
       ∧ (r.custody = .held ∨ r.custody = .disputed → refused .late))
     ∧ (∀ (t : Telegram) (reason : CustodyRefusal), s.hearsMessage t (.custodyRefuse i reason) →
       t.dest.toNat = s.cfg.params.station → r.custody = .offered → r.partner = some t.source.toNat →
       reason ≠ .late → reason ≠ .notOffered →
       exec (.custodyRefuse t) s = .next (raise (.handoverFailed i t.source.toNat (.refused reason))
         { s.heard with st := { s.st with records := held } }))
     ∧ ∀ k, r.custody = .offered → r.partner = some k → s.expired r.timer = true →
       exec (.offerTimeout n) s = .next (raise (.handoverFailed i k .timeout)
         { s with st := { s.st with records := held } }))
    ∧ ((∀ (s : State) (i : StockId) (n : Nat) (r : StockRecord), entryAt s.st.records n = some r →
           s.st.find i = some n → r.custody = .pending →
           (∀ t : Telegram, s.hearsMessage t (.custodyRelease i) → t.dest.toNat = s.cfg.params.station →
             (r.partner = some t.source.toNat →
               exec (.custodyRelease t) s = .next (raise (.handoverDone i t.source.toNat .taker) { s.heard with
                 st := { s.st with records := s.st.records.set n (some { r with
                   custody := .held
                   partner := none
                   timer := none
                   piece := if s.role = .crane then r.piece else { r.piece with reservation := none } }) } }))
             ∧ (r.partner ≠ some t.source.toNat →
               exec (.custodyRelease t) s = .next { s.heard with st := { s.st with ignored := bump s.st.ignored } }))
           ∧ (∀ (t : Telegram) (reason : CustodyRefusal), s.hearsMessage t (.custodyRefuse i reason) →
             t.dest.toNat = s.cfg.params.station → r.partner = some t.source.toNat →
             reason = .late ∨ reason = .notOffered →
             leaves s (raise (.handoverRejected i t.source.toNat reason) { s.heard with
               st := { s.st with
                 records := s.st.records.set n none
                 bed := if s.st.bed = some n then none else s.st.bed } }) i false none (exec (.custodyRefuse t) s))
           ∧ ∀ k, r.partner = some k → s.expired r.timer = true →
             exec (.pendingTimeout n) s = .next (raise (.handoverDisputed i k) { s with st := { s.st with
               records := s.st.records.set n (some { r with custody := .disputed, timer := none }) } }))
         ∧ (∀ (s : State) (o : HeldOffer), s.st.slot0 = some o → s.expired o.timer = true →
           exec (.heldOfferExpiry 0) s = .next { s with st := { s.st with
             slot0 := none
             heldExpired := bump s.st.heldExpired } })
         ∧ ∀ (s : State) (o : HeldOffer), s.st.slot1 = some o → s.expired o.timer = true →
           exec (.heldOfferExpiry 1) s = .next { s with st := { s.st with
             slot1 := none
             heldExpired := bump s.st.heldExpired } })

/-- R122, R126, R161 and R172: a rise of LOAD_ATTACHED at a crane confirms the offer it holds at its hook, which starts
the queued DELIVER or STORE that names the stock ID (the first one in queue order: log 56) or is an UNPLANNED_LOAD, or
starts the CLEAR move at the head of its queue; a fall offers the hook record of the started move to the move's to-station,
or says that it cannot. At the other roles only the sample changes. (A rise takes up a
free value: log 12; that a change of LOAD_ATTACHED raises no notice of its own is the model's reading: log 49.) -/
def Obligations.LoadAttachedTakesAndOffers : Prop :=
  ∀ s : State,
    (s.lu.loadAttached = true → exec .loadAttachedRises s = .next s)
    ∧ (s.lu.loadAttached = false → exec .loadAttachedFalls s = .next s)
    ∧ (s.lu.loadAttached = false →
      let t : State := { s with lu := { s.lu with loadAttached := true } }
      (s.isLoaded = false ∨ s.role ≠ .crane → exec .loadAttachedRises s = .next t)
      ∧ (s.isLoaded = true → s.role = .crane → s.st.slot1 = none →
        (∀ o n, s.st.slot0 = some o → s.st.find o.piece.id = none → o.piece.id ∉ s.st.retired →
          lowestEmpty s.st.records = some n → ∃ u, exec .loadAttachedRises s = .next u
            ∧ u.st.records = s.st.records.set n (some
              { piece := o.piece
                location := .hook
                custody := .pending
                partner := some o.giver
                entryTime := s.time
                timer := some ⟨s.time, s.cfg.params.pendingTime⟩ })
            ∧ u.st.slot0 = none ∧ u.st.slot1 = none ∧ u.lu = t.lu ∧ u.env = s.env ∧ u.pt = s.pt ∧ u.cfg = s.cfg)
        ∧ (∀ o n, s.st.slot0 = some o → s.st.find o.piece.id = none → o.piece.id ∉ s.st.retired →
          lowestEmpty s.st.records = some n → s.linkTakes o.giver (.custodyAccept o.piece.id) →
          let accepted : State := { t with
            flc := s.flc.sending o.giver (.custodyAccept o.piece.id)
            st := { s.st with
              records := s.st.records.set n (some
                { piece := o.piece
                  location := .hook
                  custody := .pending
                  partner := some o.giver
                  entryTime := s.time
                  timer := some ⟨s.time, s.cfg.params.pendingTime⟩ })
              slot0 := none
              acceptsSent := bump s.st.acceptsSent }
            freeCount := s.freeCount + 1 }
          let wanted := fun m : QueuedMove =>
            m.started = false ∧ m.info.kind ≠ .clear ∧ m.info.stock = some o.piece.id
          let clearFirst := ∃ m, s.mu.queue.head? = some m ∧ m.info.kind = .clear
          (∀ front m back, s.mu.queue = front ++ m :: back → wanted m → (∀ q ∈ front, ¬ wanted q) →
            s.mu.anyStarted = false → ¬ clearFirst → s.linkTakes m.requester (.moveStarted m.tag) →
            exec .loadAttachedRises s = .next (s.requeued ({ m with started := true } :: (front ++ back))
              { accepted with flc := accepted.flc.sending m.requester (.moveStarted m.tag) }))
          ∧ (s.mu.anyStarted = true ∨ ((∀ q ∈ s.mu.queue, ¬ wanted q) ∧ ¬ clearFirst) →
            exec .loadAttachedRises s = .next (raise (.unplannedLoad o.piece.id) { accepted with mu := { s.mu with
              counts := { s.mu.counts with unplannedLoads := bump s.mu.counts.unplannedLoads } } })))
        ∧ (∀ m rest, s.st.slot0 = none → s.sp.mode ≠ .offline → s.mu.queue = m :: rest → m.info.kind = .clear →
          s.mu.anyStarted = false → s.linkTakes m.requester (.moveStarted m.tag) →
          exec .loadAttachedRises s = .next { t with
            flc := s.flc.sending m.requester (.moveStarted m.tag)
            mu := { s.mu with queue := { m with started := true } :: rest }
            freeCount := s.freeCount + 1 })))
    ∧ (s.lu.loadAttached = true →
      let t : State := { s with lu := { s.lu with loadAttached := false } }
      (s.isLoaded = false ∨ s.role ≠ .crane ∨ s.sp.mode = .offline → exec .loadAttachedFalls s = .next t)
      ∧ (s.isLoaded = true → s.role = .crane → s.sp.mode ≠ .offline →
        ∀ m i n r, s.mu.queue.head? = some m → m.started = true → m.info.kind ≠ .clear → m.info.stock = some i →
          s.st.find i = some n → entryAt s.st.records n = some r → r.location = .hook →
          (r.custody ≠ .held →
            exec .loadAttachedFalls s = .next (raise (.handoverFailed i m.info.toStation .notHeld) t))
          ∧ (r.custody = .held → s.linkTakes m.info.toStation (.custodyOffer r.piece) →
            exec .loadAttachedFalls s = .next { t with
              flc := s.flc.sending m.info.toStation (.custodyOffer r.piece)
              st := { s.st with
                records := s.st.records.set n (some { r with
                  custody := .offered
                  partner := some m.info.toStation
                  timer := some ⟨s.time, s.cfg.params.offerTime⟩ })
                offersMade := bump s.st.offersMade } })))

/-! ### Racks and stock search (chapter 8) -/

/-- R138: the runtime locks. R137: in the CUTTER and CRANE roles both requests are refused WRONG_MODE. -/
def Obligations.SlotLocksFollowTheRequests : Prop :=
  ∀ (s : State) (f : WriteFrame) (n : Nat), s.takes f →
    let lock := exec (.lockSlot f n) s
    let unlock := exec (.unlockSlot f n) s
    (s.role ≠ .rack → lock = .next (s.replied .lockSlot .wrongMode .none s.begun)
      ∧ unlock = .next (s.replied .unlockSlot .wrongMode .none s.begun))
    ∧ (s.role = .rack →
    (inRange 1 s.cfg.params.slotCount n = false →
      lock = .next (s.replied .lockSlot .slotBad .none s.begun)
      ∧ unlock = .next (s.replied .unlockSlot .slotBad .none s.begun))
    ∧ (inRange 1 s.cfg.params.slotCount n = true →
      (s.slotInHandover n = true → lock = .next (s.replied .lockSlot .busy .none s.begun))
      ∧ (s.slotInHandover n = false → ∃ l, lock = .next (s.replied .lockSlot .ok .none { s.begun with
          st := { s.st with runtimeLocks := l } }) ∧ ∀ m, m ∈ l ↔ m = n ∨ m ∈ s.st.runtimeLocks)
      ∧ (n ∈ s.cfg.params.configLocks →
          unlock = .next (s.replied .unlockSlot .configLocked .none s.begun))
      ∧ (n ∉ s.cfg.params.configLocks → ∃ l, unlock = .next (s.replied .unlockSlot .ok .none { s.begun with
          st := { s.st with runtimeLocks := l } }) ∧ ∀ m, m ∈ l ↔ m ≠ n ∧ m ∈ s.st.runtimeLocks)))

/-- R141: a record fits a query when one of its usable rectangles is large enough, turned where the query allows it; the
notch's corner does not matter, and a good record's rectangles are at least 100 mm on each side. -/
def Obligations.FitIsByUsableRectangles : Prop :=
  ∀ (q : QueryFields) (p : Piece),
    let rects := match p.notch with
      | none => [(p.length, p.width)]
      | some n => [(p.length - n.length, p.width), (p.length, p.width - n.width)]
    (pieceFits q p = true ↔ ∃ r ∈ rects, (q.minLength ≤ r.1 ∧ q.minWidth ≤ r.2)
      ∨ (q.rotation = true ∧ q.minWidth ≤ r.1 ∧ q.minLength ≤ r.2))
    ∧ (pieceOk p = true → ∀ r ∈ rects, 100 ≤ r.1 ∧ 100 ≤ r.2)

/-- R142, R148 and R149: the record a rack offers is an eligible one of the smallest score, of those the one longest in the
table, and of those the lowest position. A rack in RUN answers a query with it, judges a reservation and answers in
each case, and takes back one its holder gives up; a part that is not a rack in RUN ignores queries and
reservations. R140: a record is available when it is HELD or DISPUTED, stands at a slot that neither lock locks, and
carries no reservation; it is eligible when it is available, its grade is the query's in the bits of the mask, its
thickness is the query's and it fits (R141). That the station a RESERVE counts for is the telegram's source, whatever its
requester field carries, is the model's reading (log 47). -/
def Obligations.RackAnswersTheSearch : Prop :=
  ((∀ (s : State) (r : StockRecord), s.available r = true ↔
      (r.custody = .held ∨ r.custody = .disputed) ∧ r.piece.reservation = none
      ∧ ∃ n, r.location = .slot n ∧ n ∉ s.cfg.params.configLocks ∧ n ∉ s.st.runtimeLocks)
    ∧ ∀ (s : State) (q : QueryFields) (r : StockRecord), s.eligible q r = true ↔
      s.available r = true
      ∧ (∀ i, i < 6 → q.mask.testBit i = true → r.piece.grade.testBit i = q.grade.testBit i)
      ∧ r.piece.thickness = q.thickness ∧ pieceFits q r.piece = true) ∧
  (∀ (s : State) (q : QueryFields),
     (s.bestRecord q = none ↔ ∀ n r, entryAt s.st.records n = some r → s.eligible q r = false)
     ∧ ∀ b, s.bestRecord q = some b →
         ∃ m, entryAt s.st.records m = some b ∧ s.eligible q b = true
           ∧ ∀ n r, entryAt s.st.records n = some r → s.eligible q r = true →
               pieceScore b.piece < pieceScore r.piece
               ∨ (pieceScore b.piece = pieceScore r.piece
                 ∧ ((s.time - r.entryTime).toNat < (s.time - b.entryTime).toNat
                   ∨ ((s.time - r.entryTime).toNat = (s.time - b.entryTime).toNat ∧ m ≤ n))))
    ∧ (∀ (s : State) (t : Telegram),
         let g := t.source.toNat
         let counted := fun (u : State) (k : SearchCounts) => { u with st := { u.st with search := k } }
         let n := s.st.search
         (∀ (number : Byte) (q : QueryFields), s.hearsMessage t (.stockQuery number q) →
           let run := exec (.stockQuery t) s
           (s.role ≠ .rack ∨ s.sp.mode ≠ .run → run = .next (counted s.heard { n with ignored := bump n.ignored }))
           ∧ (s.role = .rack → s.sp.mode = .run →
             (s.bestRecord q = none → run = .next (counted s.heard { n with unanswered := bump n.unanswered }))
             ∧ ∀ r k, s.bestRecord q = some r → r.location = .slot k →
               let answer : Message := .stockCandidate number
                 ⟨s.cfg.params.station, r.piece.id, k, r.piece.grade, r.piece.thickness, r.piece.length, r.piece.width,
                   r.piece.notch, r.piece.heat, r.piece.length * r.piece.width
                     - (r.piece.notch.map (fun c => c.length * c.width)).getD 0⟩
               s.linkTakes g answer → run = .next (counted { s.heard with flc := s.heard.flc.sending g answer }
                 { n with answered := bump n.answered })))
         ∧ (∀ (number : Byte) (i : StockId) (requester : Nat), s.hearsMessage t (.reserve number i requester) →
           let run := exec (.reserve t) s
           let replied := fun (r : ReserveResult) (k : SearchCounts) => s.linkTakes g (.reserveReply number i r) →
             run = .next (counted { s.heard with flc := s.heard.flc.sending g (.reserveReply number i r) } k)
           (s.role ≠ .rack ∨ s.sp.mode ≠ .run → run = .next (counted s.heard { n with ignored := bump n.ignored }))
           ∧ (s.role = .rack → s.sp.mode = .run →
             (s.hears g = false → replied .notHeard { n with refusedNotHeard := bump n.refusedNotHeard })
             ∧ (s.hears g = true →
               (s.st.find i = none → replied .gone { n with refusedGone := bump n.refusedGone })
               ∧ ∀ m r, s.st.find i = some m → entryAt s.st.records m = some r →
                 (r.piece.reservation = some g → replied .ok n)
                 ∧ (r.piece.reservation ≠ some g →
                   (s.available r = false → replied .gone { n with refusedGone := bump n.refusedGone })
                   ∧ (s.available r = true →
                     (16 ≤ s.st.reservations → replied .full { n with refusedFull := bump n.refusedFull })
                     ∧ (s.st.reservations < 16 → s.linkTakes g (.reserveReply number i .ok) →
                       run = .next { s.heard with
                         flc := s.heard.flc.sending g (.reserveReply number i .ok)
                         st := { s.st with
                           records := s.st.records.set m (some
                             { r with piece := { r.piece with reservation := some g } })
                           search := { n with granted := bump n.granted } } }))))))
         ∧ ∀ i : StockId, s.hearsMessage t (.unreserve i) →
           (∀ m r, s.role = .rack → s.st.find i = some m → entryAt s.st.records m = some r →
             r.piece.reservation = some g → exec (.unreserve t) s = .next { s.heard with st := { s.st with
               records := s.st.records.set m (some { r with piece := { r.piece with reservation := none } }) } })
           ∧ (s.role ≠ .rack ∨ s.st.find i = none →
             exec (.unreserve t) s = .next (counted s.heard { n with ignored := bump n.ignored })))

/-- R143 and R147: QUERY_STOCK opens a query under the next number and queues the STOCK_QUERY; CANCEL_QUERY closes an
open one, gives back a found reservation, and is refused NO_QUERY when there is neither. In the CRANE and RACK roles
both are refused WRONG_MODE, and QUERY_STOCK in OFFLINE too. -/
def Obligations.QueryIsOpenedAndCancelled : Prop :=
  (∀ (s : State) (f : WriteFrame) (q : QueryFields), s.takes f → s.role = .cutter → s.sp.mode ≠ .offline →
      (s.su.phase ≠ .closed → exec (.queryStock f q) s = .next (s.replied .queryStock .busy .none s.begun))
      ∧ (s.su.phase = .closed → queryOk q = false →
        exec (.queryStock f q) s = .next (s.replied .queryStock .fieldRange .none s.begun))
      ∧ (s.su.phase = .closed → queryOk q = true → s.linkTakes s.queryDest (.stockQuery (s.su.number + 1) q) →
        exec (.queryStock f q) s = .next (s.replied .queryStock .ok (.query (s.su.number + 1)) { s.begun with
          flc := s.flc.sending s.queryDest (.stockQuery (s.su.number + 1) q)
          su := { s.su with
            phase := .collecting
            number := s.su.number + 1
            query := some q
            candidates := []
            windowTimer := some ⟨s.time, s.cfg.params.queryWindow⟩
            reserveTimer := none
            awaited := none
            found := none } })))
    ∧ (∀ (s : State) (f : WriteFrame) (q : QueryFields), s.takes f →
      (s.role ≠ .cutter ∨ s.sp.mode = .offline →
        exec (.queryStock f q) s = .next (s.replied .queryStock .wrongMode .none s.begun))
      ∧ (s.role ≠ .cutter → exec (.cancelQuery f) s = .next (s.replied .cancelQuery .wrongMode .none s.begun)))
    ∧ ∀ (s : State) (f : WriteFrame), s.takes f → s.role = .cutter →
      let closed : Search := { s.su with
        phase := .closed, candidates := [], windowTimer := none, reserveTimer := none, awaited := none }
      (s.su.phase = .collecting →
        exec (.cancelQuery f) s = .next (s.replied .cancelQuery .ok .none { s.begun with su := closed }))
      ∧ (∀ c, s.su.phase = .reserving → s.su.awaited = some c → s.linkTakes c.rack (.unreserve c.id) →
        exec (.cancelQuery f) s = .next (s.replied .cancelQuery .ok .none { s.begun with
          flc := s.flc.sending c.rack (.unreserve c.id)
          su := closed }))
      ∧ (∀ rack i, s.su.phase = .closed → s.su.found = some (rack, i) → s.linkTakes rack (.unreserve i) →
        exec (.cancelQuery f) s = .next (s.replied .cancelQuery .ok .none { s.begun with
          flc := s.flc.sending rack (.unreserve i)
          su := { s.su with found := none } }))
      ∧ (s.su.phase = .closed → s.su.found = none →
        exec (.cancelQuery f) s = .next (s.replied .cancelQuery .noQuery .none s.begun))

/-- R144 to R146: the candidate list stays in its order with one candidate a rack and eight at most. Candidates for the
query join it while the window runs; at the window's end the first one is reserved, a failed attempt goes on to the
next, and with none left the query closes with NONE; OK to the awaited reservation closes it as found; an OK that
nothing awaits is given back. That a refusal that nothing awaits gains the count of candidates ignored is the model's
choice (log 63), and that a candidate at a part of another role does is its reading (log 31). -/
def Obligations.SearchUnitFollowsItsQuery : Prop :=
  (∀ (c : Candidate) (u : Search),
     u.candidates.Pairwise (fun a b => a.before b = true) → (u.candidates.map (fun d => d.rack)).Nodup →
     u.candidates.length ≤ 8 →
     let v := placeCandidate c u
     v.candidates.Pairwise (fun a b => a.before b = true) ∧ (v.candidates.map (fun d => d.rack)).Nodup
       ∧ v.candidates.length ≤ 8
       ∧ (∀ d ∈ v.candidates, d = c ∨ d ∈ u.candidates)
       ∧ (u.candidates.length < 8 ∨ (∃ d ∈ u.candidates, d.rack = c.rack) →
           c ∈ v.candidates ∧ v.displaced = u.displaced
           ∧ ∀ d ∈ u.candidates, d.rack ≠ c.rack → d ∈ v.candidates)
       ∧ (u.candidates.length = 8 → (∀ d ∈ u.candidates, d.rack ≠ c.rack) →
           v.displaced = bump u.displaced ∧ v.candidates.length = 8))
    ∧ (∀ s : State,
         let closed : Search := { s.su with
           phase := .closed, candidates := [], windowTimer := none, reserveTimer := none, awaited := none }
         let tried := fun (u : State) (l : List Candidate) (o : Host.Outcome State Fault Refusal) =>
           (l = [] → o = .next (raise (.queryResult s.su.number none) { u with su := closed }))
           ∧ ∀ d rest, l = d :: rest → s.linkTakes d.rack (.reserve s.su.number d.id s.cfg.params.station) →
             o = .next { u with
               flc := u.flc.sending d.rack (.reserve s.su.number d.id s.cfg.params.station)
               su := { s.su with
                 phase := .reserving
                 candidates := d :: rest
                 awaited := some d
                 windowTimer := none
                 reserveTimer := some ⟨s.time, s.cfg.params.queryWindow⟩ } }
         (∀ (t : Telegram) (number : Byte) (c : Candidate), s.hearsMessage t (.stockCandidate number c) →
           (s.role = .cutter → s.su.phase = .collecting → number = s.su.number →
             exec (.stockCandidate t) s = .next { s.heard with su := placeCandidate c s.su })
           ∧ (s.role ≠ .cutter ∨ s.su.phase ≠ .collecting ∨ number ≠ s.su.number →
             exec (.stockCandidate t) s = .next { s.heard with su := { s.su with ignored := bump s.su.ignored } }))
         ∧ (s.su.phase = .collecting → s.expired s.su.windowTimer = true →
           tried s s.su.candidates (exec .queryWindowExpiry s))
         ∧ (s.su.phase = .reserving → s.expired s.su.reserveTimer = true →
           tried s (s.su.candidates.drop 1) (exec .reserveTimerExpiry s))
         ∧ ∀ (t : Telegram) (number : Byte) (i : StockId) (r : ReserveResult),
           s.hearsMessage t (.reserveReply number i r) → s.role = .cutter →
           let g := t.source.toNat
           (∀ c, s.su.phase = .reserving → number = s.su.number → s.su.awaited = some c → c.rack = g → c.id = i →
             (r = .ok → exec (.reserveReply t) s = .next (raise (.queryResult number (some c)) { s.heard with
               su := { closed with found := some (g, i) } }))
             ∧ (r ≠ .ok → tried s.heard (s.su.candidates.drop 1) (exec (.reserveReply t) s)))
           ∧ (s.su.phase ≠ .reserving ∨ number ≠ s.su.number →
             (r = .ok → s.linkTakes g (.unreserve i) → exec (.reserveReply t) s = .next { s.heard with
               flc := s.heard.flc.sending g (.unreserve i)
               su := { s.su with strays := bump s.su.strays } })
             ∧ (r ≠ .ok → exec (.reserveReply t) s
               = .next { s.heard with su := { s.su with ignored := bump s.su.ignored } })))

/-! ### Crane moves (chapter 9) -/

/-- R153 and R154: a MOVE_REQUEST that passes its checks opens a move at its place under a tag no live move holds, queues its
first MOVE_CALL and starts the bid window; MOVE_STATE reports it (log 29); with eight live moves it is refused FULL. A
stock ID or an X of 0 is an absent one (R181), and the anchor of its station stands for an absent X. That a CLEAR keeps
and carries a stock ID it comes with is the model's choice (log 52), and so is which of several empty places is taken (log
69, in `Moves.place`), and the number of an ended move is its own field (log 41). R158: CANCEL_MOVE by the move's standing. In the CRANE role both are refused WRONG_MODE, and
MOVE_REQUEST in OFFLINE too. -/
def Obligations.RequesterOpensAndCancelsMoves : Prop :=
  (∀ (s : State) (f : WriteFrame) (m : MoveFields) (kind : MoveKind) (fromX toX : Nat), s.takes f →
     s.role ≠ .crane → s.sp.mode ≠ .offline → m.kind = some kind →
     let v : MoveFields := { m with
       stock := m.stock.filter (fun i => decide (i ≠ ⟨0, 0⟩))
       fromX := m.fromX.filter (fun x => decide (x ≠ 0))
       toX := m.toX.filter (fun x => decide (x ≠ 0)) }
     moveFieldsOk s.cfg.params v = true →
     moveStationsOk s.cfg.params.station kind v = true → s.resolveX m.fromStation v.fromX = some fromX →
     s.resolveX m.toStation v.toX = some toX → s.storeCheck kind v.stock = none →
     let info : MoveInfo := ⟨kind, v.stock, m.fromStation, fromX, m.toStation, toX, m.priority⟩
     (s.mu.place = none → exec (.moveRequest f m) s = .next (s.replied .moveRequest .full .none s.begun))
     ∧ ∀ n, s.mu.place = some n →
       ∃ tag : Byte, (s.mu.moves.length ≤ 8 →
           ∀ k e, entryAt s.mu.moves k = some e → e.live = true → e.tag ≠ tag)
         ∧ (s.linkTakes s.callDest (.moveCall tag 1 info) →
           exec (.moveRequest f m) s = .next (s.replied .moveRequest .ok (.tag tag)
             (raise (.moveState tag .opened none none none) { s.begun with
               flc := s.flc.sending s.callDest (.moveCall tag 1 info)
               mu := { s.mu with
                 tag := tag
                 moves := s.mu.moves.set n (some
                   { tag := tag
                     info := info
                     state := .opened
                     crane := none
                     callNumber := 1
                     bids := []
                     windowTimer := some ⟨s.time, s.cfg.params.bidWindow⟩
                     replyTimer := none
                     cancelPending := false
                     reason := none
                     endOrder := 0 })
                 counts := { s.mu.counts with callsMade := bump s.mu.counts.callsMade } } }))))
    ∧ (∀ (s : State) (f : WriteFrame) (m : MoveFields) (tag : Byte), s.takes f →
         (s.role = .crane ∨ s.sp.mode = .offline →
           exec (.moveRequest f m) s = .next (s.replied .moveRequest .wrongMode .none s.begun))
         ∧ (s.role = .crane → exec (.cancelMove f tag) s = .next (s.replied .cancelMove .wrongMode .none s.begun)))
    ∧ (∀ (s : State) (f : WriteFrame) (tag : Byte), s.takes f → s.role ≠ .crane →
         (s.mu.findLive tag = none → exec (.cancelMove f tag) s = .next (s.replied .cancelMove .noMove .none s.begun))
         ∧ ∀ n e, s.mu.findLive tag = some n → entryAt s.mu.moves n = some e →
           let ended : Option MoveEntry := some { e with
             state := .failed
             crane := none
             bids := []
             windowTimer := none
             replyTimer := none
             cancelPending := false
             reason := some .cancelled
             endOrder := s.mu.endCount }
           ((e.state = .opened ∧ e.replyTimer = none) ∨ e.state = .started →
             exec (.cancelMove f tag) s = .next (s.replied .cancelMove .ok .none
               (raise (.moveState tag .failed none (some .cancelled) none) { s.begun with
                 mu := { s.mu with moves := s.mu.moves.set n ended, endCount := s.mu.endCount + 1 } })))
           ∧ (∀ t crane, e.state = .opened → e.replyTimer = some t → e.crane = some crane →
             s.linkTakes crane (.moveRevoke tag) →
             exec (.cancelMove f tag) s = .next (s.replied .cancelMove .ok .none
               (raise (.moveState tag .failed none (some .cancelled) none) { s.begun with
                 flc := s.flc.sending crane (.moveRevoke tag)
                 mu := { s.mu with
                   moves := s.mu.moves.set n ended
                   endCount := s.mu.endCount + 1
                   counts := { s.mu.counts with revocationsSent := bump s.mu.counts.revocationsSent } } })))
           ∧ (∀ crane, e.state = .awarded → e.cancelPending = false → e.crane = some crane →
             s.linkTakes crane (.moveRevoke tag) →
             exec (.cancelMove f tag) s = .next (s.replied .cancelMove .ok .none { s.begun with
               flc := s.flc.sending crane (.moveRevoke tag)
               mu := { s.mu with
                 moves := s.mu.moves.set n (some { e with
                   cancelPending := true
                   replyTimer := some ⟨s.time, s.cfg.params.bidWindow⟩ })
                 counts := { s.mu.counts with revocationsSent := bump s.mu.counts.revocationsSent } } }))
           ∧ (e.state = .awarded → e.cancelPending = true →
             exec (.cancelMove f tag) s = .next (s.replied .cancelMove .ok .none s.begun)))

/-- R152, R154 and R156, at the requester: the bid list stays in its order with one bid a crane and eight at most. Bids for
the current call join it; at the window's end, and after each award that is declined or not answered, the next bid is
awarded, with none left the move is called again, and after the third call it fails as NO_CRANE; a taken award makes it
AWARDED. What the award counts count at a requester is the model's choice (log 48), and so is that a telegram's
destination need not be this station alone (log 74); that a bid outside its window or call is counted twice, and one that
finds no room not at all, is its reading (log 30); the number of an ended move is its own field (log 41). -/
def Obligations.AwardPassesDownTheBids : Prop :=
  (∀ (b : Bid) (l : List Bid),
     l.Pairwise (fun x y => x.before y = true) → (l.map (fun x => x.crane)).Nodup → l.length ≤ 8 →
     (takeBid b l).Pairwise (fun x y => x.before y = true) ∧ ((takeBid b l).map (fun x => x.crane)).Nodup
       ∧ (takeBid b l).length ≤ 8
       ∧ (∀ x ∈ takeBid b l, x = b ∨ x ∈ l)
       ∧ (∀ x, (x = b ∨ (x ∈ l ∧ x.crane ≠ b.crane)) → x ∉ takeBid b l →
           (takeBid b l).length = 8 ∧ ∀ y ∈ takeBid b l, y.before x = true))
    ∧ (∀ (s : State) (n : Nat) (e : MoveEntry), entryAt s.mu.moves n = some e → e.state = .opened → s.role ≠ .crane →
         (s.expired e.windowTimer = true → s.passes n e s (exec (.bidWindowExpiry n) s))
         ∧ (∀ k, e.replyTimer ≠ none → s.expired e.replyTimer = true → e.crane = some k →
           s.linkTakes k (.moveRevoke e.tag) →
           s.passes n e { s with
             flc := s.flc.sending k (.moveRevoke e.tag)
             mu := { s.mu with counts := { s.mu.counts with
               revocationsSent := bump s.mu.counts.revocationsSent } } } (exec (.awardReplyTimeout n) s))
         ∧ (s.mu.findLive e.tag = some n →
           (∀ (t : Telegram) (call cost : Nat), s.hearsMessage t (.moveBid e.tag call cost) →
             (e.windowTimer ≠ none → call = e.callNumber →
               let b : Bid := ⟨t.source.toNat, cost⟩
               exec (.moveBid t) s = .next { s.heard with mu := { s.mu with
                 moves := s.mu.moves.set n (some { e with bids := takeBid b e.bids })
                 counts := if b ∈ takeBid b e.bids then
                   { s.mu.counts with bidsTaken := bump s.mu.counts.bidsTaken } else s.mu.counts } })
             ∧ (e.windowTimer = none ∨ call ≠ e.callNumber →
               exec (.moveBid t) s = .next { s.heard with mu := { s.mu with counts := { s.mu.counts with
                 bidsIgnored := bump s.mu.counts.bidsIgnored
                 telegramsIgnored := bump s.mu.counts.telegramsIgnored } } }))
           ∧ ∀ (t : Telegram) (taken : Bool), s.hearsMessage t (.awardReply e.tag taken) → e.replyTimer ≠ none →
             let g := t.source.toNat
             (e.crane = some g → taken = true →
               exec (.awardReply t) s = .next (raise (.moveState e.tag .awarded (some g) none none) { s.heard with
                 mu := { s.mu with
                   moves := s.mu.moves.set n (some { e with
                     state := .awarded
                     crane := some g
                     bids := []
                     replyTimer := none
                     reason := none })
                   counts := { s.mu.counts with awardsTaken := bump s.mu.counts.awardsTaken } } }))
             ∧ (e.crane = some g → taken = false →
               s.passes n e { s.heard with mu := { s.mu with counts := { s.mu.counts with
                 awardsDeclined := bump s.mu.counts.awardsDeclined } } } (exec (.awardReply t) s))
             ∧ (e.crane ≠ some g → taken = true → s.linkTakes g (.moveRevoke e.tag) →
               exec (.awardReply t) s = .next { s.heard with
                 flc := s.heard.flc.sending g (.moveRevoke e.tag)
                 mu := { s.mu with counts := { s.mu.counts with
                   revocationsSent := bump s.mu.counts.revocationsSent } } })))

/-- R157 and R158, at the requester: a live move that a crane reports started is STARTED with it, and is taken back
from a crane that had it or was to answer an award of it; a started move that is done ends DONE or NOT_CARRIED; one
given back is called again, or is CANCELLED where that was asked for; a cancellation ends at the crane's answer, or
stands as NO_REPLY. That returns are counted at the requester and that a telegram's destination need not be this
station alone are the model's choices (logs 48 and 74), and that a move's reason and crane are cleared with its new state
is its reading (log 29); the number of an ended move is its own field (log 41). -/
def Obligations.MovesFollowTheirCrane : Prop :=
  ∀ (s : State) (n : Nat) (e : MoveEntry) (t : Telegram), entryAt s.mu.moves n = some e →
    s.mu.findLive e.tag = some n → s.role ≠ .crane →
    let g := t.source.toNat
    let moved := fun (u : State) (x : MoveEntry) => { u with mu := { u.mu with moves := s.mu.moves.set n (some x) } }
    let started : MoveEntry := { e with
      state := .started
      crane := some g
      bids := []
      windowTimer := none
      replyTimer := none
      cancelPending := false
      reason := none }
    let ended := fun (u : State) (st : MoveStanding) (reason : Option MoveReason) (taker : Option Nat) =>
      raise (.moveState e.tag st none reason taker) { u with mu := { u.mu with
        moves := s.mu.moves.set n (some { e with
          state := st
          crane := none
          bids := []
          windowTimer := none
          replyTimer := none
          cancelPending := false
          reason := reason
          endOrder := s.mu.endCount })
        endCount := s.mu.endCount + 1 } }
    let report := raise (.moveState e.tag .started (some g) none none)
    (∀ c, (c = .moveStarted t ∧ s.hearsMessage t (.moveStarted e.tag))
        ∨ (c = .revokeReply t ∧ s.hearsMessage t (.revokeReply e.tag true)) → e.state ≠ .started →
      (e.crane = none ∨ e.crane = some g ∨ (e.state = .opened ∧ e.replyTimer = none) →
        exec c s = .next (report (moved s.heard started)))
      ∧ ∀ other, e.crane = some other → other ≠ g → e.state = .awarded ∨ e.replyTimer ≠ none →
        s.linkTakes other (.moveRevoke e.tag) →
        exec c s = .next (report (moved { s.heard with
          flc := s.heard.flc.sending other (.moveRevoke e.tag)
          mu := { s.mu with counts := { s.mu.counts with
            revocationsSent := bump s.mu.counts.revocationsSent } } } started)))
    ∧ (∀ carried taker, s.hearsMessage t (.moveDone e.tag carried taker) → e.state = .started →
      exec (.moveDone t) s = .next (if carried then ended s.heard .done none taker
        else ended s.heard .failed (some .notCarried) taker))
    ∧ (s.hearsMessage t (.moveReturn e.tag) → e.state = .awarded → e.crane = some g →
      let u : State := { s.heard with mu := { s.mu with counts := { s.mu.counts with
        returns := bump s.mu.counts.returns } } }
      (e.cancelPending = true → exec (.moveReturn t) s = .next (ended u .failed (some .cancelled) none))
      ∧ (e.cancelPending = false → s.linkTakes s.callDest (.moveCall e.tag 1 e.info) →
        exec (.moveReturn t) s = .next (raise (.moveState e.tag .opened none none none)
          (moved { u with
            flc := u.flc.sending s.callDest (.moveCall e.tag 1 e.info)
            mu := { u.mu with counts := { u.mu.counts with callsMade := bump s.mu.counts.callsMade } } }
            { e with
              state := .opened
              crane := none
              callNumber := 1
              bids := []
              windowTimer := some ⟨s.time, s.cfg.params.bidWindow⟩
              replyTimer := none
              reason := none }))))
    ∧ (s.hearsMessage t (.revokeReply e.tag false) → e.cancelPending = true → e.crane = some g →
      exec (.revokeReply t) s = .next (ended s.heard .failed (some .cancelled) none))
    ∧ (e.state = .awarded → e.cancelPending = true → s.expired e.replyTimer = true →
      exec (.cancelReplyTimeout n) s = .next (raise (.moveState e.tag .awarded e.crane (some .noReply) none)
        (moved s { e with cancelPending := false, replyTimer := none, reason := some .noReply })))

/-- R155, R160 and R163, at a crane: a call is answered with the bid of R155 or passed; an award joins the queue in
its place or is declined, and one it holds already is answered again; a revocation removes an unstarted move and is
LATE for a started one. MOVE_NEXT is raised when the head changes. (Log 48 for the two award counts at a crane, log 84 for
the award order numbers.) -/
def Obligations.CraneAnswersMoveTelegrams : Prop :=
  ∀ (s : State) (t : Telegram) (tag : Byte), s.role = .crane →
    let g := t.source.toNat
    let mine := fun m : QueuedMove => m.requester = g ∧ m.tag = tag
    let sent := fun (u : State) (m : Message) => { u with flc := s.heard.flc.sending g m }
    (∀ (call : Nat) (i : MoveInfo), s.hearsMessage t (.moveCall tag call i) →
      let gap := fun a b : Nat => ((a : Int) - b).natAbs
      let bid := min (gap s.env.own.x i.fromX + gap i.fromX i.toX + s.mu.queue.length * s.cfg.params.queuePenalty)
        16777215
      let able := s.sp.mode = .run ∧ s.mu.leavePending = false ∧ s.flc.link = .normal
        ∧ s.env.own.isStale s.cfg.params s.time = false ∧ s.env.own.age s.time ≤ 255
        ∧ s.mu.queue.length < 8 ∧ (∀ m ∈ s.mu.queue, ¬ mine m)
        ∧ s.cfg.params.ownSpan.lo ≤ i.fromX ∧ i.fromX ≤ s.cfg.params.ownSpan.hi
        ∧ s.cfg.params.ownSpan.lo ≤ i.toX ∧ i.toX ≤ s.cfg.params.ownSpan.hi
      (able → s.linkTakes g (.moveBid tag call bid) →
        exec (.moveCall t) s = .next (sent s.heard (.moveBid tag call bid)))
      ∧ (¬ able → exec (.moveCall t) s = .next { s.heard with mu := { s.mu with
        counts := { s.mu.counts with callsPassed := bump s.mu.counts.callsPassed } } }))
    ∧ (∀ i : MoveInfo, s.hearsMessage t (.moveAward tag i) →
      let ahead := fun q : QueuedMove => q.started || decide (q.info.priority ≤ i.priority)
      ((∃ m ∈ s.mu.queue, mine m) → s.linkTakes g (.awardReply tag true) →
        exec (.moveAward t) s = .next (sent s.heard (.awardReply tag true)))
      ∧ ((∀ m ∈ s.mu.queue, ¬ mine m) →
        (s.sp.mode = .run → s.mu.leavePending = false → s.mu.queue.length < 8 →
          s.linkTakes g (.awardReply tag true) →
          let joined := sent { s.heard with mu := { s.mu with
            queue := s.mu.queue.takeWhile ahead ++ ⟨g, tag, i, s.mu.awardOrder, false⟩ :: s.mu.queue.dropWhile ahead
            awardOrder := s.mu.awardOrder + 1
            counts := { s.mu.counts with awardsTaken := bump s.mu.counts.awardsTaken } } } (.awardReply tag true)
          exec (.moveAward t) s = .next (if s.mu.queue.takeWhile ahead = [] then
            raise (.moveNext (some (g, tag, i))) joined else joined))
        ∧ (s.sp.mode ≠ .run ∨ s.mu.leavePending = true ∨ 8 ≤ s.mu.queue.length →
          s.linkTakes g (.awardReply tag false) →
          exec (.moveAward t) s = .next (sent { s.heard with mu := { s.mu with
            counts := { s.mu.counts with awardsDeclined := bump s.mu.counts.awardsDeclined } } }
            (.awardReply tag false)))))
    ∧ (s.hearsMessage t (.moveRevoke tag) →
      ((∃ m ∈ s.mu.queue, mine m ∧ m.started = true) → s.linkTakes g (.revokeReply tag true) →
        exec (.moveRevoke t) s = .next (sent s.heard (.revokeReply tag true)))
      ∧ ((∀ m ∈ s.mu.queue, mine m → m.started = false) → s.linkTakes g (.revokeReply tag false) →
        let left := s.mu.queue.filter (fun m => decide (¬ mine m))
        let gone := sent { s.heard with mu := { s.mu with queue := left } } (.revokeReply tag false)
        exec (.moveRevoke t) s = .next (
          if left.head?.map (fun m => (m.requester, m.tag)) = s.mu.queue.head?.map (fun m => (m.requester, m.tag))
          then gone
          else raise (.moveNext (left.head?.map (fun m => (m.requester, m.tag, m.info)))) gone)))

/-- R162 and R164: MOVE_FINISH finishes the started CLEAR at the head as CARRIED, which completes a pending leave of RUN
(`State.finished`); it is refused NO_MOVE when none is started, and WRONG_MODE in the CUTTER and RACK roles. -/
def Obligations.MoveFinishEndsTheClear : Prop :=
  (∀ (s : State) (f : WriteFrame), s.takes f → s.role ≠ .crane →
    exec (.moveFinish f) s = .next (s.replied .moveFinish .wrongMode .none s.begun))
  ∧ ∀ (s : State) (f : WriteFrame), s.takes f → s.role = .crane →
    (∀ m rest, s.mu.queue = m :: rest → m.started = true → m.info.kind = .clear →
      (s.mu.leavePending = true → s.sp.mode = .run) → s.linkTakes m.requester (.moveDone m.tag true none) →
      exec (.moveFinish f) s = .next (s.replied .moveFinish .ok .none (s.finished m rest true none s.begun)))
    ∧ ((∀ m, s.mu.queue.head? = some m → m.started = false ∨ m.info.kind ≠ .clear) →
      exec (.moveFinish f) s = .next (s.replied .moveFinish .noMove .none s.begun))

/-! ### The station port (chapter 10) -/

/-- R168 and R169 (with log 23 for the order of the two refusals): a request that is too long or cut short is a frame error,
one that meets four unread replies is BUFFER_FULL, and one without a good load is NOT_LOADED unless it is a STATUS in
CONFIG_FAULT; none of them is acted on, and the number byte beside the take status is a free value (log 22). Each taken
request gets the next request number and leaves exactly one reply, at the end of the buffer, under its number and
code. -/
def Obligations.RequestsAreJudgedAtTheDoor : Prop :=
  (∀ (c : Instr) (s : State) (code : RequestCode) (length : Byte) (cut : Bool),
     writeRequest c = some (code, length, cut) →
     (34 < length.toNat ∨ cut = true → exec c s = .next { s with sp := { s.sp with
         frameErrors := bump s.sp.frameErrors
         output := ⟨s.statusByte, .nothing⟩ } })
     ∧ (length.toNat ≤ 34 → cut = false → 4 ≤ s.sp.buffer.length →
         ∃ n, exec c s = .next { s with
           sp := { s.sp with
             bufferFull := bump s.sp.bufferFull
             output := ⟨s.statusByte, .take .bufferFull n⟩ }
           freeCount := s.freeCount + 1 })
     ∧ (length.toNat ≤ 34 → cut = false → s.sp.buffer.length < 4 → s.isLoaded = false →
         (code ≠ .status ∨ s.cfg.load = .loading) →
         ∃ n, exec c s = .next { s with
           sp := { s.sp with
             notLoaded := bump s.sp.notLoaded
             output := ⟨s.statusByte, .take .notLoaded n⟩ }
           freeCount := s.freeCount + 1 }))
    ∧ (∀ (c : Instr) (s : State) (code : RequestCode) (length : Byte),
         writeRequest c = some (code, length, false) → length.toNat ≤ 34 → s.sp.buffer.length < 4 → s.isLoaded = true →
         ∃ (t : State) (r : ResultCode) (d : ReplyData), exec c s = .next t
           ∧ t.sp.buffer = s.sp.buffer ++ [⟨s.sp.number, code, r, d⟩]
           ∧ t.sp.number = s.sp.number + 1 ∧ t.sp.taken = bump s.sp.taken
           ∧ t.sp.output = ⟨s.statusByte, .take .taken s.sp.number⟩)

/-- R168 to R170 and R183: a complete READ_REPLY removes the oldest reply and a complete READ_NOTICE the oldest notice
with the lost-notice count; one cut short leaves them. The operation byte is 1 for a request, 2 for READ_REPLY and 3 for
READ_NOTICE; any other makes a void transaction, which shifts out the status byte alone. That one of the three, sent as a
void transaction, begins its own, which ends right after it, is the model's choice (log 83). A read is
complete when the length byte and as many bytes as it gives are clocked out. The frames are those of R183; the codes of
requests, results and notices, and the layout of data, the manual does not give (log 66). R169, R173: STATUS,
READ_TABLE and an unknown request change nothing but the port's own request items; STATUS is taken in CONFIG_FAULT too,
and an unknown table or an index out of its range is FIELD_RANGE. That the report of a STATUS counts that STATUS itself is
the model's choice (log 72), and so are the items of logs 59, 62 and 64 in `statusReport` and `readEntry`. -/
def Obligations.ReadsAndQuestionsChangeNothingElse : Prop :=
  (∀ (s : State) (clocked : Nat),
     let reply := PortAnswer.reply (s.sp.buffer[0]?)
     let notice := PortAnswer.notice s.sp.lost (s.sp.notices[0]?)
     (1 + fieldNat reply.frame 0 1 ≤ clocked →
         exec (.readReply clocked) s = .next { s with sp := { s.sp with
           buffer := s.sp.buffer.drop 1
           output := ⟨s.statusByte, reply⟩ } })
     ∧ (clocked < 1 + fieldNat reply.frame 0 1 →
         exec (.readReply clocked) s = .next { s with sp := { s.sp with output := ⟨s.statusByte, reply⟩ } })
     ∧ (1 + fieldNat notice.frame 0 1 ≤ clocked →
         exec (.readNotice clocked) s = .next { s with sp := { s.sp with
           notices := s.sp.notices.drop 1
           lost := 0
           output := ⟨s.statusByte, notice⟩ } })
     ∧ (clocked < 1 + fieldNat notice.frame 0 1 →
         exec (.readNotice clocked) s = .next { s with sp := { s.sp with output := ⟨s.statusByte, notice⟩ } })
     ∧ (∀ op, op ≠ 1 → op ≠ 2 → op ≠ 3 →
         exec (.voidTransaction op) s = .next { s with sp := { s.sp with output := ⟨s.statusByte, .nothing⟩ } })
     ∧ exec (.voidTransaction 1) s = .next { s with sp := { s.sp with
         frameErrors := bump s.sp.frameErrors
         output := ⟨s.statusByte, .nothing⟩ } }
     ∧ exec (.voidTransaction 2) s = .next { s with sp := { s.sp with output := ⟨s.statusByte, reply⟩ } }
     ∧ exec (.voidTransaction 3) s = .next { s with sp := { s.sp with output := ⟨s.statusByte, notice⟩ } })
    ∧ ((∀ c request, writeRequest c = some request → operationByte c = some 1)
         ∧ (∀ f, operationByte (.restart f) = some 1)
         ∧ ∀ clocked, operationByte (.readReply clocked) = some 2 ∧ operationByte (.readNotice clocked) = some 3)
    ∧ (((PortAnswer.reply none).frame = [0]
           ∧ (∀ lost, (PortAnswer.notice lost none).frame = [1, BitVec.ofNat 8 lost])
           ∧ (∀ (st : TakeStatus) (code number : Byte),
               (st, code) ∈ [(TakeStatus.taken, (0 : Byte)), (.bufferFull, 1), (.notLoaded, 2), (.restarting, 3)] →
               (PortAnswer.take st number).frame = [code, number])
           ∧ ∀ st : TakeStatus, st ∈ [TakeStatus.taken, .bufferFull, .notLoaded, .restarting])
         ∧ (∀ (r : Reply) (bs : List Byte), (PortAnswer.reply (some r)).frame = bs → bs.length ≤ 256 →
             4 ≤ bs.length ∧ fieldNat bs 0 1 + 1 = bs.length ∧ bs[1]? = some r.number
             ∧ (∀ code, r.code = .unknown code → bs[2]? = some code)
             ∧ (r.data = .none → bs.length = 4)
             ∧ ∀ q : Reply, q.result = r.result → bs[3]? = (PortAnswer.reply (some q)).frame[3]?)
         ∧ ∀ (lost : Nat) (n : Notice) (bs : List Byte), (PortAnswer.notice lost (some n)).frame = bs → lost ≤ 255 →
             bs.length ≤ 256 → 7 ≤ bs.length ∧ fieldNat bs 0 1 + 1 = bs.length ∧ fieldNat bs 1 1 = lost
             ∧ fieldNat bs 3 4 = n.time.toNat)
    ∧ ((∀ (s : State) (f : WriteFrame), s.takes f ∨ (s.cfg.load = .configFault ∧ s.sp.buffer.length < 4
             ∧ f.length.toNat ≤ 34 ∧ f.cut = false ∧ f.suits = true) →
           exec (.status f) s = .next (s.replied .status .ok (.status s.begun.statusReport) s.begun))
         ∧ (∀ (s : State) (f : WriteFrame) (table : TableName) (i : Nat), s.takes f →
           exec (.readTable f (some table) i) s = .next (
             if tableRange table i then s.replied .readTable .ok (.table (s.readEntry table i)) s.begun
             else s.replied .readTable .fieldRange .none s.begun))
         ∧ (∀ (s : State) (f : WriteFrame) (i : Nat), s.takes f →
           exec (.readTable f none i) s = .next (s.replied .readTable .fieldRange .none s.begun))
         ∧ ∀ (s : State) (f : WriteFrame) (code : Byte), s.takes f →
           exec (.unknownRequest f code) s = .next (s.replied (.unknown code) .unknownRequest .none s.begun))

/-- R171: the table of modes. A change raises MODE_CHANGED and is answered OK with the outcome DONE; a leave of RUN is
answered PENDING while a cutter's copy is current or a crane's move is started. That every OK but a leave of RUN carries
DONE too is the model's choice (log 82). That MODE_CHANGED comes directly after
the notices already there, and so before QUEUE_LOW at a cutter and after a crane's own notices of the leave, is the
model's choice (log 13). -/
def Obligations.SetModeFollowsTheTable : Prop :=
  ∀ (s : State) (f : WriteFrame) (m : Mode), s.takes f →
    let answered := fun (t : State) (pending : Bool) =>
      t.sp.buffer = s.sp.buffer ++ [⟨s.sp.number, .setMode, .ok, .mode pending⟩]
    ((s.sp.mode = m → (m = .run → s.leavePending = false) →
        exec (.setMode f (some m)) s = .next (s.replied .setMode .ok (.mode false) s.begun))
    ∧ (s.sp.mode = .offline ∧ m = .run ∨ s.sp.mode = .run ∧ m = .offline →
        exec (.setMode f (some m)) s = .next (s.replied .setMode .wrongMode .none s.begun))
    ∧ (s.sp.mode = .run → m = .run → s.leavePending = true →
        exec (.setMode f (some m)) s = .next (s.replied .setMode .busy .none s.begun))
    ∧ (s.sp.mode = .run → m = .ready → s.leavePending = true →
        exec (.setMode f (some m)) s = .next (s.replied .setMode .ok (.mode true) s.begun))
    ∧ (s.sp.mode = .run → m = .ready → s.leavePending = false → s.role = .cutter →
        s.rc.release = .inFlight ∨ s.rc.release = .broken →
        exec (.setMode f (some m)) s = .next (s.replied .setMode .ok (.mode true)
          { s.begun with rc := { s.rc with stopPending := true } }))
    ∧ (s.sp.mode = .run → m = .ready → s.leavePending = false → s.role = .crane → s.mu.ordered →
        ∃ t, exec (.setMode f (some m)) s = .next t ∧ t.mu.queue = s.mu.queue.filter (fun q => q.started)
          ∧ answered t s.mu.anyStarted
          ∧ (s.mu.anyStarted = true → t.sp.mode = .run ∧ t.mu.leavePending = true)
          ∧ (s.mu.anyStarted = false → t.sp.mode = .ready ∧ t.mu.leavePending = false
              ∧ (32 ≤ t.sp.notices.length ∨ (⟨s.time, .modeChanged .run .ready⟩ : Notice) ∈ t.sp.notices))
          ∧ t.st = s.st ∧ t.env = s.env ∧ t.pt = s.pt ∧ t.cfg = s.cfg)
    ∧ ((s.sp.mode = .offline ∧ m = .ready) ∨ (s.sp.mode = .ready ∧ m = .offline)
        ∨ (s.sp.mode = .ready ∧ m = .run ∧ s.leavePending = false)
        ∨ (s.sp.mode = .run ∧ m = .ready ∧ s.leavePending = false ∧ (s.role = .rack
            ∨ (s.role = .cutter ∧ s.rc.release ≠ .inFlight ∧ s.rc.release ≠ .broken))) →
        s.sp.notices.length < 32 →
        ∃ t, exec (.setMode f (some m)) s = .next t ∧ t.sp.mode = m ∧ answered t false
          ∧ (s.sp.notices ++ [⟨s.time, .modeChanged s.sp.mode m⟩]) <+: t.sp.notices
          ∧ (s.sp.mode = .run → s.role = .cutter → t.sq.held = [] ∧ t.rc.head = none
              ∧ t.sq.discarded = s.sq.discarded + BitVec.ofNat 32 s.sq.held.length)
          ∧ (s.sp.mode ≠ .run → m ≠ .run → t.sq = s.sq)
          ∧ t.su = s.su ∧ t.cfg = s.cfg ∧ t.mu.queue = s.mu.queue ∧ t.mu.moves = s.mu.moves))
end

