-- ==== Sys2Proof/Laws/Link.lean ====
section
/-! SUPPORT. What notices, urgent beacons, offered telegrams and isolation leave unchanged. -/

namespace Sys2Proof.Machine

/-- What a request or a read changes at the port, beside the mode and the notices. -/
def Port.front (p : Port) : Byte × List Reply × Nat × Nat × Nat × Nat × PortOutput :=
  (p.number, p.buffer, p.taken, p.bufferFull, p.notLoaded, p.frameErrors, p.output)

@[simp] theorem Port.front_mode (p : Port) (m : Mode) : Port.front { p with mode := m } = p.front := rfl

@[simp] theorem Flc.setQueue_link (f : Flc) (c : TxClass) (q : List Queued) : (f.setQueue c q).link = f.link := by
  cases c <;> rfl

@[simp] theorem placeBeacon_link (c : TxClass) (f : Flc) : (placeBeacon c f).link = f.link := by
  unfold placeBeacon
  dsimp only
  split <;> simp

@[simp] theorem raise_frame (d : NoticeData) (s : State) :
    (raise d s).pending = s.pending ∧ (raise d s).time = s.time ∧ (raise d s).cfg = s.cfg ∧
      (raise d s).flc = s.flc ∧ (raise d s).pt = s.pt ∧ (raise d s).env = s.env ∧ (raise d s).sq = s.sq ∧
      (raise d s).rc = s.rc ∧ (raise d s).lc = s.lc ∧ (raise d s).st = s.st ∧ (raise d s).su = s.su ∧
      (raise d s).mu = s.mu ∧ (raise d s).sp.mode = s.sp.mode ∧ (raise d s).sp.front = s.sp.front ∧
      (raise d s).lu = s.lu ∧ (raise d s).freeCount = s.freeCount := by
  unfold raise
  split <;> simp [Port.front]

@[simp] theorem callUrgent_frame (s : State) :
    (callUrgent s).pending = s.pending ∧ (callUrgent s).time = s.time ∧ (callUrgent s).cfg = s.cfg ∧
      (callUrgent s).flc.link = s.flc.link ∧ (callUrgent s).pt = s.pt ∧ (callUrgent s).env = s.env ∧
      (callUrgent s).sq = s.sq ∧ (callUrgent s).rc = s.rc ∧ (callUrgent s).lc = s.lc ∧
      (callUrgent s).st = s.st ∧ (callUrgent s).su = s.su ∧ (callUrgent s).mu = s.mu ∧
      (callUrgent s).sp = s.sp ∧ (callUrgent s).lu = s.lu ∧ (callUrgent s).freeCount = s.freeCount := by
  generalize h : callUrgent s = t
  unfold callUrgent at h
  try dsimp only at h
  (repeat' split at h) <;> (subst h; simp_all)

@[simp] theorem offer_frame (dest : Nat) (m : Message) (s : State) :
    ((offer dest m s).1).pending = s.pending ∧ ((offer dest m s).1).time = s.time ∧
      ((offer dest m s).1).cfg = s.cfg ∧ ((offer dest m s).1).flc.link = s.flc.link ∧
      ((offer dest m s).1).pt = s.pt ∧ ((offer dest m s).1).env = s.env ∧ ((offer dest m s).1).sq = s.sq ∧
      ((offer dest m s).1).rc = s.rc ∧ ((offer dest m s).1).lc = s.lc ∧ ((offer dest m s).1).st = s.st ∧
      ((offer dest m s).1).su = s.su ∧ ((offer dest m s).1).mu = s.mu ∧ ((offer dest m s).1).sp = s.sp ∧
      ((offer dest m s).1).lu = s.lu ∧ ((offer dest m s).1).freeCount = s.freeCount := by
  generalize h : (offer dest m s).1 = t
  unfold offer at h
  try dsimp only at h
  (repeat' split at h) <;> (subst h; simp_all)

@[simp] theorem setMoveQueue_frame (q : List QueuedMove) (s : State) :
    (setMoveQueue q s).pending = s.pending ∧ (setMoveQueue q s).time = s.time ∧
      (setMoveQueue q s).cfg = s.cfg ∧ (setMoveQueue q s).flc = s.flc ∧ (setMoveQueue q s).pt = s.pt ∧
      (setMoveQueue q s).env = s.env ∧ (setMoveQueue q s).sq = s.sq ∧ (setMoveQueue q s).rc = s.rc ∧
      (setMoveQueue q s).lc = s.lc ∧ (setMoveQueue q s).st = s.st ∧ (setMoveQueue q s).su = s.su ∧
      (setMoveQueue q s).mu.moves = s.mu.moves ∧ (setMoveQueue q s).sp.mode = s.sp.mode ∧
      (setMoveQueue q s).sp.front = s.sp.front ∧ (setMoveQueue q s).lu = s.lu ∧
      (setMoveQueue q s).freeCount = s.freeCount := by
  generalize h : setMoveQueue q s = t
  unfold setMoveQueue at h
  try dsimp only at h
  (repeat' split at h) <;> (subst h; simp_all)

@[simp] theorem dropUnstarted_frame (s : State) :
    (dropUnstarted s).pending = s.pending ∧ (dropUnstarted s).time = s.time ∧ (dropUnstarted s).cfg = s.cfg ∧
      (dropUnstarted s).flc = s.flc ∧ (dropUnstarted s).pt = s.pt ∧ (dropUnstarted s).env = s.env ∧
      (dropUnstarted s).sq = s.sq ∧ (dropUnstarted s).rc = s.rc ∧ (dropUnstarted s).lc = s.lc ∧
      (dropUnstarted s).st = s.st ∧ (dropUnstarted s).su = s.su ∧ (dropUnstarted s).mu.moves = s.mu.moves ∧
      (dropUnstarted s).sp.mode = s.sp.mode ∧ (dropUnstarted s).sp.front = s.sp.front ∧
      (dropUnstarted s).lu = s.lu ∧ (dropUnstarted s).freeCount = s.freeCount := by
  generalize h : dropUnstarted s = t
  unfold dropUnstarted at h
  try dsimp only at h
  (repeat' split at h) <;> (subst h; simp_all)

@[simp] theorem isolate_frame (cause : IsolationCause) (s : State) :
    (isolate cause s).pending = s.pending ∧ (isolate cause s).time = s.time ∧ (isolate cause s).cfg = s.cfg ∧
      (isolate cause s).pt = s.pt ∧ (isolate cause s).env = s.env ∧ (isolate cause s).sq = s.sq ∧
      (isolate cause s).rc = s.rc ∧ (isolate cause s).lc = s.lc ∧ (isolate cause s).st = s.st ∧
      (isolate cause s).su = s.su ∧ (isolate cause s).mu.moves = s.mu.moves ∧
      (isolate cause s).sp.mode = s.sp.mode ∧ (isolate cause s).sp.front = s.sp.front ∧
      (isolate cause s).lu = s.lu ∧ (isolate cause s).freeCount = s.freeCount := by
  generalize h : isolate cause s = t
  unfold isolate at h
  try dsimp only at h
  (repeat' split at h) <;> (subst h; simp_all)

@[simp] theorem duplicate_frame (s : State) :
    (duplicate s).pending = s.pending ∧ (duplicate s).time = s.time ∧ (duplicate s).cfg = s.cfg ∧
      (duplicate s).pt = s.pt ∧ (duplicate s).env = s.env ∧ (duplicate s).sq = s.sq ∧ (duplicate s).rc = s.rc ∧
      (duplicate s).lc = s.lc ∧ (duplicate s).st = s.st ∧ (duplicate s).su = s.su ∧
      (duplicate s).mu.moves = s.mu.moves ∧ (duplicate s).sp.mode = s.sp.mode ∧
      (duplicate s).sp.front = s.sp.front ∧ (duplicate s).lu = s.lu ∧ (duplicate s).freeCount = s.freeCount := by
  generalize h : duplicate s = t
  unfold duplicate at h
  try dsimp only at h
  (repeat' split at h) <;> (subst h; simp_all)

end Sys2Proof.Machine
end

