-- ==== Sys2Proof/Laws/Stock.lean ====
section
/-! SUPPORT. What the shared operations of the stock table, the legend composer and the crane's lines leave unchanged. -/

namespace Sys2Proof.Machine

@[simp] theorem Lines.withPermits_frame (l : Lines) (p : Permits) :
    (l.withPermits p).estop = l.estop ∧ (l.withPermits p).loadAttached = l.loadAttached
      ∧ (l.withPermits p).arcPermit = l.arcPermit := by
  simp [Lines.withPermits]

@[simp] theorem logMark_frame (c : Current) (o : MarkOutcome) (s : State) :
    (logMark c o s).pending = s.pending ∧ (logMark c o s).time = s.time ∧ (logMark c o s).cfg = s.cfg ∧
      (logMark c o s).flc = s.flc ∧ (logMark c o s).pt = s.pt ∧ (logMark c o s).env = s.env ∧
      (logMark c o s).sq = s.sq ∧ (logMark c o s).rc = s.rc ∧ (logMark c o s).su = s.su ∧
      (logMark c o s).mu = s.mu ∧ (logMark c o s).sp = s.sp ∧ (logMark c o s).lu = s.lu ∧
      (logMark c o s).freeCount = s.freeCount := by
  generalize h : logMark c o s = t
  unfold logMark at h
  try dsimp only at h
  (repeat' split at h) <;> (subst h; simp_all)

@[simp] theorem retireBed_frame (s : State) :
    (retireBed s).pending = s.pending ∧ (retireBed s).time = s.time ∧ (retireBed s).cfg = s.cfg ∧
      (retireBed s).flc = s.flc ∧ (retireBed s).pt = s.pt ∧ (retireBed s).env = s.env ∧
      (retireBed s).sq = s.sq ∧ (retireBed s).rc = s.rc ∧ (retireBed s).lc = s.lc ∧ (retireBed s).su = s.su ∧
      (retireBed s).mu = s.mu ∧ (retireBed s).sp.mode = s.sp.mode ∧ (retireBed s).sp.front = s.sp.front ∧
      (retireBed s).lu = s.lu ∧ (retireBed s).freeCount = s.freeCount := by
  generalize h : retireBed s = t
  unfold retireBed at h
  try dsimp only at h
  (repeat' split at h) <;> (subst h; simp_all)

@[simp] theorem createRemnant_frame (serial l w : Nat) (n : Option Notch) (s : State) :
    (createRemnant serial l w n s).pending = s.pending ∧ (createRemnant serial l w n s).time = s.time ∧
      (createRemnant serial l w n s).cfg = s.cfg ∧ (createRemnant serial l w n s).flc = s.flc ∧
      (createRemnant serial l w n s).pt = s.pt ∧ (createRemnant serial l w n s).env = s.env ∧
      (createRemnant serial l w n s).sq = s.sq ∧ (createRemnant serial l w n s).rc = s.rc ∧
      (createRemnant serial l w n s).lc = s.lc ∧ (createRemnant serial l w n s).su = s.su ∧
      (createRemnant serial l w n s).mu = s.mu ∧ (createRemnant serial l w n s).sp = s.sp ∧
      (createRemnant serial l w n s).lu = s.lu ∧ (createRemnant serial l w n s).freeCount = s.freeCount := by
  generalize h : createRemnant serial l w n s = t
  unfold createRemnant at h
  try dsimp only at h
  (repeat' split at h) <;> (subst h; simp_all)

@[simp] theorem stockEffect_frame (c : SegContent) (s : State) :
    (stockEffect c s).pending = s.pending ∧ (stockEffect c s).time = s.time ∧ (stockEffect c s).cfg = s.cfg ∧
      (stockEffect c s).flc = s.flc ∧ (stockEffect c s).pt = s.pt ∧ (stockEffect c s).env = s.env ∧
      (stockEffect c s).sq = s.sq ∧ (stockEffect c s).rc = s.rc ∧ (stockEffect c s).lc = s.lc ∧
      (stockEffect c s).su = s.su ∧ (stockEffect c s).mu = s.mu ∧ (stockEffect c s).sp.mode = s.sp.mode ∧
      (stockEffect c s).sp.front = s.sp.front ∧ (stockEffect c s).lu = s.lu ∧
      (stockEffect c s).freeCount = s.freeCount := by
  generalize h : stockEffect c s = t
  unfold stockEffect at h
  try dsimp only at h
  (repeat' split at h) <;> (subst h; simp_all)

@[simp] theorem countStockRefusal_frame (s : State) :
    (countStockRefusal s).pending = s.pending ∧ (countStockRefusal s).time = s.time ∧
      (countStockRefusal s).cfg = s.cfg ∧ (countStockRefusal s).flc = s.flc ∧ (countStockRefusal s).pt = s.pt ∧
      (countStockRefusal s).env = s.env ∧ (countStockRefusal s).sq = s.sq ∧ (countStockRefusal s).rc = s.rc ∧
      (countStockRefusal s).lc = s.lc ∧ (countStockRefusal s).su = s.su ∧ (countStockRefusal s).mu = s.mu ∧
      (countStockRefusal s).sp = s.sp ∧ (countStockRefusal s).lu = s.lu ∧
      (countStockRefusal s).freeCount = s.freeCount := by
  simp [countStockRefusal]

@[simp] theorem offerRecord_frame (n : Nat) (r : StockRecord) (taker : Nat) (s : State) :
    ((offerRecord n r taker s).1).pending = s.pending ∧ ((offerRecord n r taker s).1).time = s.time ∧
      ((offerRecord n r taker s).1).cfg = s.cfg ∧ ((offerRecord n r taker s).1).flc.link = s.flc.link ∧
      ((offerRecord n r taker s).1).pt = s.pt ∧ ((offerRecord n r taker s).1).env = s.env ∧
      ((offerRecord n r taker s).1).sq = s.sq ∧ ((offerRecord n r taker s).1).rc = s.rc ∧
      ((offerRecord n r taker s).1).lc = s.lc ∧ ((offerRecord n r taker s).1).su = s.su ∧
      ((offerRecord n r taker s).1).mu = s.mu ∧ ((offerRecord n r taker s).1).sp = s.sp ∧
      ((offerRecord n r taker s).1).lu = s.lu ∧ ((offerRecord n r taker s).1).freeCount = s.freeCount := by
  generalize h : (offerRecord n r taker s).1 = t
  unfold offerRecord at h
  try dsimp only at h
  (repeat' split at h) <;> (subst h; simp_all)

@[simp] theorem refuseCustody_frame (giver : Nat) (i : StockId) (r : CustodyRefusal) (s : State) :
    (refuseCustody giver i r s).pending = s.pending ∧ (refuseCustody giver i r s).time = s.time ∧
      (refuseCustody giver i r s).cfg = s.cfg ∧ (refuseCustody giver i r s).flc.link = s.flc.link ∧
      (refuseCustody giver i r s).pt = s.pt ∧ (refuseCustody giver i r s).env = s.env ∧
      (refuseCustody giver i r s).sq = s.sq ∧ (refuseCustody giver i r s).rc = s.rc ∧
      (refuseCustody giver i r s).lc = s.lc ∧ (refuseCustody giver i r s).su = s.su ∧
      (refuseCustody giver i r s).mu = s.mu ∧ (refuseCustody giver i r s).sp = s.sp ∧
      (refuseCustody giver i r s).lu = s.lu ∧ (refuseCustody giver i r s).freeCount = s.freeCount := by
  generalize h : refuseCustody giver i r s = t
  unfold refuseCustody at h
  try dsimp only at h
  (repeat' split at h) <;> (subst h; simp_all)

@[simp] theorem ignoreCustody_frame (s : State) :
    (ignoreCustody s).pending = s.pending ∧ (ignoreCustody s).time = s.time ∧ (ignoreCustody s).cfg = s.cfg ∧
      (ignoreCustody s).flc = s.flc ∧ (ignoreCustody s).pt = s.pt ∧ (ignoreCustody s).env = s.env ∧
      (ignoreCustody s).sq = s.sq ∧ (ignoreCustody s).rc = s.rc ∧ (ignoreCustody s).lc = s.lc ∧
      (ignoreCustody s).su = s.su ∧ (ignoreCustody s).mu = s.mu ∧ (ignoreCustody s).sp = s.sp ∧
      (ignoreCustody s).lu = s.lu ∧ (ignoreCustody s).freeCount = s.freeCount := by
  simp [ignoreCustody]

@[simp] theorem driveLines_frame (s : State) :
    (driveLines s).pending = s.pending ∧ (driveLines s).time = s.time ∧ (driveLines s).cfg = s.cfg ∧
      (driveLines s).flc = s.flc ∧ (driveLines s).pt = s.pt ∧ (driveLines s).env = s.env ∧
      (driveLines s).sq = s.sq ∧ (driveLines s).rc = s.rc ∧ (driveLines s).lc = s.lc ∧
      (driveLines s).st = s.st ∧ (driveLines s).su = s.su ∧ (driveLines s).mu.queue = s.mu.queue ∧
      (driveLines s).mu.moves = s.mu.moves ∧ (driveLines s).sp = s.sp ∧ (driveLines s).lu.estop = s.lu.estop ∧
      (driveLines s).lu.loadAttached = s.lu.loadAttached ∧ (driveLines s).freeCount = s.freeCount := by
  generalize h : driveLines s = t
  unfold driveLines at h
  try dsimp only at h
  (repeat' split at h) <;> (subst h; simp_all)

@[simp] theorem craneEvaluates_frame (s : State) :
    (craneEvaluates s).pending = s.pending ∧ (craneEvaluates s).time = s.time ∧
      (craneEvaluates s).cfg = s.cfg ∧ (craneEvaluates s).flc = s.flc ∧ (craneEvaluates s).pt = s.pt ∧
      (craneEvaluates s).env.own = s.env.own ∧ (craneEvaluates s).sq = s.sq ∧ (craneEvaluates s).rc = s.rc ∧
      (craneEvaluates s).lc = s.lc ∧ (craneEvaluates s).st = s.st ∧ (craneEvaluates s).su = s.su ∧
      (craneEvaluates s).mu.queue = s.mu.queue ∧ (craneEvaluates s).mu.moves = s.mu.moves ∧
      (craneEvaluates s).sp = s.sp ∧ (craneEvaluates s).lu.estop = s.lu.estop ∧
      (craneEvaluates s).lu.loadAttached = s.lu.loadAttached ∧ (craneEvaluates s).freeCount = s.freeCount := by
  simp [craneEvaluates]

end Sys2Proof.Machine
end

