-- ==== Sys2Proof/Laws/Release.lean ====
section
/-! SUPPORT. What the shared operations of the segment queue, the envelope unit and the release controller can do, and what they leave unchanged. -/

namespace Sys2Proof.Machine

@[simp] theorem lowWater_frame (s : State) :
    (lowWater s).pending = s.pending ∧ (lowWater s).time = s.time ∧ (lowWater s).cfg = s.cfg ∧
      (lowWater s).flc = s.flc ∧ (lowWater s).pt = s.pt ∧ (lowWater s).env = s.env ∧ (lowWater s).rc = s.rc ∧
      (lowWater s).lc = s.lc ∧ (lowWater s).st = s.st ∧ (lowWater s).su = s.su ∧ (lowWater s).mu = s.mu ∧
      (lowWater s).sp.mode = s.sp.mode ∧ (lowWater s).sp.front = s.sp.front ∧ (lowWater s).lu = s.lu ∧
      (lowWater s).freeCount = s.freeCount := by
  generalize h : lowWater s = t
  unfold lowWater at h
  try dsimp only at h
  (repeat' split at h) <;> (subst h; simp_all)

@[simp] theorem consumeHead_frame (s : State) :
    (consumeHead s).pending = s.pending ∧ (consumeHead s).time = s.time ∧ (consumeHead s).cfg = s.cfg ∧
      (consumeHead s).flc = s.flc ∧ (consumeHead s).pt = s.pt ∧ (consumeHead s).env = s.env ∧
      (consumeHead s).rc = s.rc ∧ (consumeHead s).lc = s.lc ∧ (consumeHead s).st = s.st ∧
      (consumeHead s).su = s.su ∧ (consumeHead s).mu = s.mu ∧ (consumeHead s).sp.mode = s.sp.mode ∧
      (consumeHead s).sp.front = s.sp.front ∧ (consumeHead s).lu = s.lu ∧
      (consumeHead s).freeCount = s.freeCount := by
  generalize h : consumeHead s = t
  unfold consumeHead at h
  try dsimp only at h
  (repeat' split at h) <;> (subst h; simp_all)

@[simp] theorem discardHead_frame (s : State) :
    (discardHead s).pending = s.pending ∧ (discardHead s).time = s.time ∧ (discardHead s).cfg = s.cfg ∧
      (discardHead s).flc = s.flc ∧ (discardHead s).pt = s.pt ∧ (discardHead s).env = s.env ∧
      (discardHead s).rc = s.rc ∧ (discardHead s).lc = s.lc ∧ (discardHead s).st = s.st ∧
      (discardHead s).su = s.su ∧ (discardHead s).mu = s.mu ∧ (discardHead s).sp.mode = s.sp.mode ∧
      (discardHead s).sp.front = s.sp.front ∧ (discardHead s).lu = s.lu ∧
      (discardHead s).freeCount = s.freeCount := by
  generalize h : discardHead s = t
  unfold discardHead at h
  try dsimp only at h
  (repeat' split at h) <;> (subst h; simp_all)

@[simp] theorem discardAll_frame (s : State) :
    (discardAll s).pending = s.pending ∧ (discardAll s).time = s.time ∧ (discardAll s).cfg = s.cfg ∧
      (discardAll s).flc = s.flc ∧ (discardAll s).pt = s.pt ∧ (discardAll s).env = s.env ∧
      (discardAll s).rc = s.rc ∧ (discardAll s).lc = s.lc ∧ (discardAll s).st = s.st ∧
      (discardAll s).su = s.su ∧ (discardAll s).mu = s.mu ∧ (discardAll s).sp.mode = s.sp.mode ∧
      (discardAll s).sp.front = s.sp.front ∧ (discardAll s).lu = s.lu ∧ (discardAll s).freeCount = s.freeCount := by
  simp [discardAll]

@[simp] theorem takeCopy_frame (c : Copy) (s : State) :
    (takeCopy c s).pending = s.pending ∧ (takeCopy c s).time = s.time ∧ (takeCopy c s).cfg = s.cfg ∧
      (takeCopy c s).flc = s.flc ∧ (takeCopy c s).pt = s.pt ∧ (takeCopy c s).env = s.env ∧
      (takeCopy c s).sq = s.sq ∧ (takeCopy c s).lc = s.lc ∧ (takeCopy c s).st = s.st ∧
      (takeCopy c s).su = s.su ∧ (takeCopy c s).mu = s.mu ∧ (takeCopy c s).sp = s.sp ∧
      (takeCopy c s).lu = s.lu ∧ (takeCopy c s).freeCount = s.freeCount := by
  generalize h : takeCopy c s = t
  unfold takeCopy at h
  try dsimp only at h
  (repeat' split at h) <;> (subst h; simp_all)

@[simp] theorem formCopy_frame (c : Cursor) (s : State) :
    (formCopy c s).pending = s.pending ∧ (formCopy c s).time = s.time ∧ (formCopy c s).cfg = s.cfg ∧
      (formCopy c s).flc = s.flc ∧ (formCopy c s).pt = s.pt ∧ (formCopy c s).env = s.env ∧
      (formCopy c s).lc = s.lc ∧ (formCopy c s).st = s.st ∧ (formCopy c s).su = s.su ∧
      (formCopy c s).mu = s.mu ∧ (formCopy c s).sp = s.sp ∧ (formCopy c s).lu = s.lu ∧
      (formCopy c s).freeCount = s.freeCount := by
  simp [formCopy]

@[simp] theorem formHead_frame (s : State) :
    (formHead s).pending = s.pending ∧ (formHead s).time = s.time ∧ (formHead s).cfg = s.cfg ∧
      (formHead s).flc = s.flc ∧ (formHead s).pt = s.pt ∧ (formHead s).env = s.env ∧ (formHead s).lc = s.lc ∧
      (formHead s).st = s.st ∧ (formHead s).su = s.su ∧ (formHead s).mu = s.mu ∧
      (formHead s).sp.mode = s.sp.mode ∧ (formHead s).sp.front = s.sp.front ∧ (formHead s).lu = s.lu ∧
      (formHead s).freeCount = s.freeCount := by
  generalize h : formHead s = t
  unfold formHead at h
  try dsimp only at h
  (repeat' split at h) <;> (subst h; simp_all)

@[simp] theorem queueCompletes_frame (s : State) :
    ((queueCompletes s).1).pending = s.pending ∧ ((queueCompletes s).1).time = s.time ∧
      ((queueCompletes s).1).cfg = s.cfg ∧ ((queueCompletes s).1).flc = s.flc ∧
      ((queueCompletes s).1).pt = s.pt ∧ ((queueCompletes s).1).env = s.env ∧
      ((queueCompletes s).1).lc = s.lc ∧ ((queueCompletes s).1).st = s.st ∧ ((queueCompletes s).1).su = s.su ∧
      ((queueCompletes s).1).mu = s.mu ∧ ((queueCompletes s).1).sp.mode = s.sp.mode ∧
      ((queueCompletes s).1).sp.front = s.sp.front ∧ ((queueCompletes s).1).lu = s.lu ∧
      ((queueCompletes s).1).freeCount = s.freeCount := by
  generalize h : (queueCompletes s).1 = t
  unfold queueCompletes at h
  try dsimp only at h
  (repeat' split at h) <;> (subst h; simp_all)

@[simp] theorem announce_frame (b : Bool) (s : State) :
    (announce b s).pending = s.pending ∧ (announce b s).time = s.time ∧ (announce b s).cfg = s.cfg ∧
      (announce b s).flc.link = s.flc.link ∧ (announce b s).pt = s.pt ∧ (announce b s).env = s.env ∧
      (announce b s).sq = s.sq ∧ (announce b s).lc = s.lc ∧ (announce b s).st = s.st ∧
      (announce b s).su = s.su ∧ (announce b s).mu = s.mu ∧ (announce b s).sp = s.sp ∧
      (announce b s).lu = s.lu ∧ (announce b s).freeCount = s.freeCount := by
  generalize h : announce b s = t
  unfold announce at h
  try dsimp only at h
  (repeat' split at h) <;> (subst h; simp_all)

@[simp] theorem formStation_frame (s : State) :
    (formStation s).pending = s.pending ∧ (formStation s).time = s.time ∧ (formStation s).cfg = s.cfg ∧
      (formStation s).flc = s.flc ∧ (formStation s).pt = s.pt ∧ (formStation s).env.own = s.env.own ∧
      (formStation s).sq = s.sq ∧ (formStation s).rc = s.rc ∧ (formStation s).lc = s.lc ∧
      (formStation s).st = s.st ∧ (formStation s).su = s.su ∧ (formStation s).mu = s.mu ∧
      (formStation s).sp = s.sp ∧ (formStation s).lu = s.lu ∧ (formStation s).freeCount = s.freeCount := by
  generalize h : formStation s = t
  unfold formStation at h
  try dsimp only at h
  (repeat' split at h) <;> (subst h; simp_all)

@[simp] theorem evaluateAll_frame (s : State) :
    (evaluateAll s).pending = s.pending ∧ (evaluateAll s).time = s.time ∧ (evaluateAll s).cfg = s.cfg ∧
      (evaluateAll s).flc = s.flc ∧ (evaluateAll s).env.own = s.env.own ∧ (evaluateAll s).sq = s.sq ∧
      (evaluateAll s).rc = s.rc ∧ (evaluateAll s).lc = s.lc ∧ (evaluateAll s).st = s.st ∧
      (evaluateAll s).su = s.su ∧ (evaluateAll s).mu = s.mu ∧ (evaluateAll s).sp = s.sp ∧
      (evaluateAll s).lu = s.lu ∧ (evaluateAll s).freeCount = s.freeCount := by
  generalize h : evaluateAll s = t
  unfold evaluateAll at h
  try dsimp only at h
  (repeat' split at h) <;> (subst h; simp_all)

@[simp] theorem evaluateOne_frame (n : Nat) (s : State) :
    (evaluateOne n s).pending = s.pending ∧ (evaluateOne n s).time = s.time ∧ (evaluateOne n s).cfg = s.cfg ∧
      (evaluateOne n s).flc = s.flc ∧ (evaluateOne n s).env.own = s.env.own ∧ (evaluateOne n s).sq = s.sq ∧
      (evaluateOne n s).rc = s.rc ∧ (evaluateOne n s).lc = s.lc ∧ (evaluateOne n s).st = s.st ∧
      (evaluateOne n s).su = s.su ∧ (evaluateOne n s).mu = s.mu ∧ (evaluateOne n s).sp = s.sp ∧
      (evaluateOne n s).lu = s.lu ∧ (evaluateOne n s).freeCount = s.freeCount := by
  generalize h : evaluateOne n s = t
  unfold evaluateOne at h
  try dsimp only at h
  (repeat' split at h) <;> (subst h; simp_all)

@[simp] theorem noteResult_frame (s : State) :
    (noteResult s).pending = s.pending ∧ (noteResult s).time = s.time ∧ (noteResult s).cfg = s.cfg ∧
      (noteResult s).flc = s.flc ∧ (noteResult s).pt = s.pt ∧ (noteResult s).env = s.env ∧
      (noteResult s).sq = s.sq ∧ (noteResult s).lc = s.lc ∧ (noteResult s).st = s.st ∧
      (noteResult s).su = s.su ∧ (noteResult s).mu = s.mu ∧ (noteResult s).sp = s.sp ∧
      (noteResult s).lu = s.lu ∧ (noteResult s).freeCount = s.freeCount := by
  generalize h : noteResult s = t
  unfold noteResult at h
  try dsimp only at h
  (repeat' split at h) <;> (subst h; simp_all)

@[simp] theorem breakCopy_frame (cause : BreakCause) (s : State) :
    (breakCopy cause s).pending = s.pending ∧ (breakCopy cause s).time = s.time ∧
      (breakCopy cause s).cfg = s.cfg ∧ (breakCopy cause s).flc.link = s.flc.link ∧
      (breakCopy cause s).env.own = s.env.own ∧ (breakCopy cause s).sq = s.sq ∧ (breakCopy cause s).su = s.su ∧
      (breakCopy cause s).mu = s.mu ∧ (breakCopy cause s).sp.mode = s.sp.mode ∧
      (breakCopy cause s).sp.front = s.sp.front ∧ (breakCopy cause s).lu.estop = s.lu.estop ∧
      (breakCopy cause s).lu.loadAttached = s.lu.loadAttached ∧ (breakCopy cause s).freeCount = s.freeCount := by
  generalize h : breakCopy cause s = t
  unfold breakCopy at h
  try dsimp only at h
  (repeat' split at h) <;> (subst h; simp_all)

@[simp] theorem handOn_frame (s : State) :
    (handOn s).pending = s.pending ∧ (handOn s).time = s.time ∧ (handOn s).cfg = s.cfg ∧
      (handOn s).flc.link = s.flc.link ∧ (handOn s).env.own = s.env.own ∧ (handOn s).sq = s.sq ∧
      (handOn s).su = s.su ∧ (handOn s).mu = s.mu ∧ (handOn s).sp.mode = s.sp.mode ∧
      (handOn s).sp.front = s.sp.front ∧ (handOn s).lu.estop = s.lu.estop ∧
      (handOn s).lu.loadAttached = s.lu.loadAttached ∧ (handOn s).freeCount = s.freeCount := by
  generalize h : handOn s = t
  unfold handOn at h
  try dsimp only at h
  (repeat' split at h) <;> (subst h; simp_all)

@[simp] theorem windowChanged_frame (s : State) :
    (windowChanged s).pending = s.pending ∧ (windowChanged s).time = s.time ∧ (windowChanged s).cfg = s.cfg ∧
      (windowChanged s).flc.link = s.flc.link ∧ (windowChanged s).env.own = s.env.own ∧
      (windowChanged s).sq = s.sq ∧ (windowChanged s).su = s.su ∧ (windowChanged s).mu = s.mu ∧
      (windowChanged s).sp.mode = s.sp.mode ∧ (windowChanged s).sp.front = s.sp.front ∧
      (windowChanged s).lu.estop = s.lu.estop ∧ (windowChanged s).lu.loadAttached = s.lu.loadAttached ∧
      (windowChanged s).freeCount = s.freeCount := by
  generalize h : windowChanged s = t
  unfold windowChanged at h
  try dsimp only at h
  (repeat' split at h) <;> (subst h; simp_all)

@[simp] theorem queueLeavesRun_frame (s : State) :
    (queueLeavesRun s).pending = s.pending ∧ (queueLeavesRun s).time = s.time ∧
      (queueLeavesRun s).cfg = s.cfg ∧ (queueLeavesRun s).flc.link = s.flc.link ∧
      (queueLeavesRun s).env.own = s.env.own ∧ (queueLeavesRun s).su = s.su ∧ (queueLeavesRun s).mu = s.mu ∧
      (queueLeavesRun s).sp.mode = s.sp.mode ∧ (queueLeavesRun s).sp.front = s.sp.front ∧
      (queueLeavesRun s).lu.estop = s.lu.estop ∧ (queueLeavesRun s).lu.loadAttached = s.lu.loadAttached ∧
      (queueLeavesRun s).freeCount = s.freeCount := by
  generalize h : queueLeavesRun s = t
  unfold queueLeavesRun at h
  try dsimp only at h
  (repeat' split at h) <;> (subst h; simp_all)

@[simp] theorem changeMode_frame (m : Mode) (s : State) :
    (changeMode m s).pending = s.pending ∧ (changeMode m s).time = s.time ∧ (changeMode m s).cfg = s.cfg ∧
      (changeMode m s).flc.link = s.flc.link ∧ (changeMode m s).env.own = s.env.own ∧
      (changeMode m s).su = s.su ∧ (changeMode m s).mu.queue = s.mu.queue ∧
      (changeMode m s).mu.moves = s.mu.moves ∧ (changeMode m s).sp.front = s.sp.front ∧
      (changeMode m s).lu.estop = s.lu.estop ∧ (changeMode m s).lu.loadAttached = s.lu.loadAttached ∧
      (changeMode m s).freeCount = s.freeCount := by
  generalize h : changeMode m s = t
  unfold changeMode at h
  try dsimp only at h
  (repeat' split at h) <;> (subst h; simp_all)

@[simp] theorem endStop_frame (s : State) :
    (endStop s).pending = s.pending ∧ (endStop s).time = s.time ∧ (endStop s).cfg = s.cfg ∧
      (endStop s).flc.link = s.flc.link ∧ (endStop s).env.own = s.env.own ∧ (endStop s).su = s.su ∧
      (endStop s).mu.queue = s.mu.queue ∧ (endStop s).mu.moves = s.mu.moves ∧
      (endStop s).sp.front = s.sp.front ∧ (endStop s).lu.estop = s.lu.estop ∧
      (endStop s).lu.loadAttached = s.lu.loadAttached ∧ (endStop s).freeCount = s.freeCount := by
  generalize h : endStop s = t
  unfold endStop at h
  try dsimp only at h
  (repeat' split at h) <;> (subst h; simp_all)

@[simp] theorem enterFaulted_frame (f : ReleaseFault) (b : Bool) (s : State) :
    (enterFaulted f b s).pending = s.pending ∧ (enterFaulted f b s).time = s.time ∧
      (enterFaulted f b s).cfg = s.cfg ∧ (enterFaulted f b s).flc.link = s.flc.link ∧
      (enterFaulted f b s).env.own = s.env.own ∧ (enterFaulted f b s).su = s.su ∧
      (enterFaulted f b s).mu.queue = s.mu.queue ∧ (enterFaulted f b s).mu.moves = s.mu.moves ∧
      (enterFaulted f b s).sp.front = s.sp.front ∧ (enterFaulted f b s).lu.estop = s.lu.estop ∧
      (enterFaulted f b s).lu.loadAttached = s.lu.loadAttached ∧ (enterFaulted f b s).freeCount = s.freeCount := by
  simp [enterFaulted]

@[simp] theorem addArc_frame (ms : Nat) (s : State) :
    (addArc ms s).pending = s.pending ∧ (addArc ms s).time = s.time ∧ (addArc ms s).cfg = s.cfg ∧
      (addArc ms s).flc = s.flc ∧ (addArc ms s).pt = s.pt ∧ (addArc ms s).env = s.env ∧
      (addArc ms s).sq = s.sq ∧ (addArc ms s).lc = s.lc ∧ (addArc ms s).st = s.st ∧ (addArc ms s).su = s.su ∧
      (addArc ms s).mu = s.mu ∧ (addArc ms s).sp.mode = s.sp.mode ∧ (addArc ms s).sp.front = s.sp.front ∧
      (addArc ms s).lu = s.lu ∧ (addArc ms s).freeCount = s.freeCount := by
  generalize h : addArc ms s = t
  unfold addArc at h
  try dsimp only at h
  (repeat' split at h) <;> (subst h; simp_all)

@[simp] theorem startCopy_frame (c : Copy) (again : Bool) (g : Option Legend) (s : State) :
    (startCopy c again g s).pending = s.pending ∧ (startCopy c again g s).time = s.time ∧
      (startCopy c again g s).cfg = s.cfg ∧ (startCopy c again g s).flc.link = s.flc.link ∧
      (startCopy c again g s).env.own = s.env.own ∧ (startCopy c again g s).sq = s.sq ∧
      (startCopy c again g s).su = s.su ∧ (startCopy c again g s).mu = s.mu ∧
      (startCopy c again g s).sp.mode = s.sp.mode ∧ (startCopy c again g s).sp.front = s.sp.front ∧
      (startCopy c again g s).lu.estop = s.lu.estop ∧
      (startCopy c again g s).lu.loadAttached = s.lu.loadAttached ∧
      (startCopy c again g s).freeCount = s.freeCount := by
  generalize h : startCopy c again g s = t
  unfold startCopy at h
  try dsimp only at h
  (repeat' split at h) <;> (subst h; simp_all)

@[simp] theorem afterCompletion_frame (o : Option (Seq × Nat)) (b : Bool) (s : State) :
    (afterCompletion o b s).pending = s.pending ∧ (afterCompletion o b s).time = s.time ∧
      (afterCompletion o b s).cfg = s.cfg ∧ (afterCompletion o b s).flc.link = s.flc.link ∧
      (afterCompletion o b s).env.own = s.env.own ∧ (afterCompletion o b s).su = s.su ∧
      (afterCompletion o b s).mu.queue = s.mu.queue ∧ (afterCompletion o b s).mu.moves = s.mu.moves ∧
      (afterCompletion o b s).sp.front = s.sp.front ∧ (afterCompletion o b s).lu.estop = s.lu.estop ∧
      (afterCompletion o b s).lu.loadAttached = s.lu.loadAttached ∧
      (afterCompletion o b s).freeCount = s.freeCount := by
  generalize h : afterCompletion o b s = t
  unfold afterCompletion at h
  try dsimp only at h
  (repeat' split at h) <;> (subst h; simp_all)

@[simp] theorem releaseNest_frame (c : Copy) (s : State) :
    (releaseNest c s).pending = s.pending ∧ (releaseNest c s).time = s.time ∧ (releaseNest c s).cfg = s.cfg ∧
      (releaseNest c s).flc.link = s.flc.link ∧ (releaseNest c s).env.own = s.env.own ∧
      (releaseNest c s).su = s.su ∧ (releaseNest c s).mu.queue = s.mu.queue ∧
      (releaseNest c s).mu.moves = s.mu.moves ∧ (releaseNest c s).sp.front = s.sp.front ∧
      (releaseNest c s).lu.estop = s.lu.estop ∧ (releaseNest c s).lu.loadAttached = s.lu.loadAttached ∧
      (releaseNest c s).freeCount = s.freeCount := by
  simp [releaseNest]

@[simp] theorem completeCurrent_frame (c : Current) (ms : Nat) (s : State) :
    (completeCurrent c ms s).pending = s.pending ∧ (completeCurrent c ms s).time = s.time ∧
      (completeCurrent c ms s).cfg = s.cfg ∧ (completeCurrent c ms s).flc.link = s.flc.link ∧
      (completeCurrent c ms s).env.own = s.env.own ∧ (completeCurrent c ms s).su = s.su ∧
      (completeCurrent c ms s).mu.queue = s.mu.queue ∧ (completeCurrent c ms s).mu.moves = s.mu.moves ∧
      (completeCurrent c ms s).sp.front = s.sp.front ∧ (completeCurrent c ms s).lu.estop = s.lu.estop ∧
      (completeCurrent c ms s).lu.loadAttached = s.lu.loadAttached ∧
      (completeCurrent c ms s).freeCount = s.freeCount := by
  generalize h : completeCurrent c ms s = t
  unfold completeCurrent at h
  try dsimp only at h
  (repeat' split at h) <;> (subst h; simp_all)

@[simp] theorem judgeOnce_frame (s : State) :
    ((judgeOnce s).1).pending = s.pending ∧ ((judgeOnce s).1).time = s.time ∧ ((judgeOnce s).1).cfg = s.cfg ∧
      ((judgeOnce s).1).flc.link = s.flc.link ∧ ((judgeOnce s).1).env.own = s.env.own ∧
      ((judgeOnce s).1).su = s.su ∧ ((judgeOnce s).1).mu.queue = s.mu.queue ∧
      ((judgeOnce s).1).mu.moves = s.mu.moves ∧ ((judgeOnce s).1).sp.front = s.sp.front ∧
      ((judgeOnce s).1).lu.estop = s.lu.estop ∧ ((judgeOnce s).1).lu.loadAttached = s.lu.loadAttached ∧
      ((judgeOnce s).1).freeCount = s.freeCount := by
  generalize h : (judgeOnce s).1 = t
  unfold judgeOnce at h
  try dsimp only at h
  (repeat' split at h) <;> (subst h; simp_all)

@[simp] theorem settleFor_frame (n : Nat) (s : State) :
    (settleFor n s).pending = s.pending ∧ (settleFor n s).time = s.time ∧ (settleFor n s).cfg = s.cfg ∧
      (settleFor n s).flc.link = s.flc.link ∧ (settleFor n s).env.own = s.env.own ∧ (settleFor n s).su = s.su ∧
      (settleFor n s).mu.queue = s.mu.queue ∧ (settleFor n s).mu.moves = s.mu.moves ∧
      (settleFor n s).sp.front = s.sp.front ∧ (settleFor n s).lu.estop = s.lu.estop ∧
      (settleFor n s).lu.loadAttached = s.lu.loadAttached ∧ (settleFor n s).freeCount = s.freeCount := by
  induction n generalizing s with
  | zero => simp [settleFor]
  | succ n ih =>
    generalize h : settleFor (n + 1) s = t
    have j := judgeOnce_frame s
    unfold settleFor at h
    split at h <;> (subst h; simp_all)

@[simp] theorem settle_frame (s : State) :
    (settle s).pending = s.pending ∧ (settle s).time = s.time ∧ (settle s).cfg = s.cfg ∧
      (settle s).flc.link = s.flc.link ∧ (settle s).env.own = s.env.own ∧ (settle s).su = s.su ∧
      (settle s).mu.queue = s.mu.queue ∧ (settle s).mu.moves = s.mu.moves ∧ (settle s).sp.front = s.sp.front ∧
      (settle s).lu.estop = s.lu.estop ∧ (settle s).lu.loadAttached = s.lu.loadAttached ∧
      (settle s).freeCount = s.freeCount := by
  simp [settle]

@[simp] theorem rcSettles_frame (before : State) (s : State) :
    (rcSettles before s).pending = s.pending ∧ (rcSettles before s).time = s.time ∧
      (rcSettles before s).cfg = s.cfg ∧ (rcSettles before s).flc.link = s.flc.link ∧
      (rcSettles before s).env.own = s.env.own ∧ (rcSettles before s).su = s.su ∧
      (rcSettles before s).mu.queue = s.mu.queue ∧ (rcSettles before s).mu.moves = s.mu.moves ∧
      (rcSettles before s).sp.front = s.sp.front ∧ (rcSettles before s).lu.estop = s.lu.estop ∧
      (rcSettles before s).lu.loadAttached = s.lu.loadAttached ∧ (rcSettles before s).freeCount = s.freeCount := by
  generalize h : rcSettles before s = t
  unfold rcSettles at h
  try dsimp only at h
  (repeat' split at h) <;> (subst h; simp_all)

/-- Announcing forms the live window again and leaves the rest of the release controller (R100). -/
theorem announce_rc (b : Bool) (s : State) : (announce b s).rc = { s.rc with live := s.formLive } := by
  have hu : ∀ u : State, (callUrgent u).rc = u.rc := by
    intro u
    unfold callUrgent
    repeat' split
    all_goals rfl
  unfold announce
  dsimp only
  split
  · rw [hu]
  · rfl

/-- All that the release controller's settling can do (R79, R83, R100): the live window is formed again, and only a
change of the head copy or of the release state is evaluated and judged. -/
theorem rcSettles_cases (before s : State) :
    (s.rc.release = before.rc.release ∧ s.rc.head = before.rc.head ∧ rcSettles before s = announce false s)
      ∨ ((s.rc.release ≠ before.rc.release ∨ s.rc.head ≠ before.rc.head)
        ∧ rcSettles before s = settle (windowChanged (announce false s))) := by
  have hr : (announce false s).rc.release = s.rc.release := by rw [announce_rc]
  have hh : (announce false s).rc.head = s.rc.head := by rw [announce_rc]
  unfold rcSettles
  simp only [hr, hh]
  by_cases h : s.rc.release ≠ before.rc.release ∨ s.rc.head ≠ before.rc.head
  · exact .inr ⟨h, by simp only [if_pos h]⟩
  · refine .inl ⟨?_, ?_, by simp only [if_neg h]⟩
    · exact Classical.not_not.1 fun hn => h (.inl hn)
    · exact Classical.not_not.1 fun hn => h (.inr hn)

/-- A result that is not CLEAR sets last_nonclear and the resume timer, and nothing else is touched (R83). -/
theorem noteResult_cases (s : State) :
    (s.env.station = .clear ∧ noteResult s = s)
      ∨ (s.env.station ≠ .clear ∧ noteResult s = { s with rc := { s.rc with
        lastNonclear := some s.time
        resumeTimer := s.timer s.cfg.params.resumeDelay } }) := by
  unfold noteResult
  split
  · exact .inl ⟨‹_›, rfl⟩
  · exact .inr ⟨‹_›, rfl⟩

end Sys2Proof.Machine
end

