-- ==== Sys2Proof/Laws/Moves.lean ====
section
/-! SUPPORT. What the shared operations of the move unit leave unchanged. -/

namespace Sys2Proof.Machine

@[simp] theorem countMove_frame (f : MoveCounts → MoveCounts) (s : State) :
    (countMove f s).pending = s.pending ∧ (countMove f s).time = s.time ∧ (countMove f s).cfg = s.cfg ∧
      (countMove f s).flc = s.flc ∧ (countMove f s).pt = s.pt ∧ (countMove f s).env = s.env ∧
      (countMove f s).sq = s.sq ∧ (countMove f s).rc = s.rc ∧ (countMove f s).lc = s.lc ∧
      (countMove f s).st = s.st ∧ (countMove f s).su = s.su ∧ (countMove f s).mu.queue = s.mu.queue ∧
      (countMove f s).mu.moves = s.mu.moves ∧ (countMove f s).sp = s.sp ∧ (countMove f s).lu = s.lu ∧
      (countMove f s).freeCount = s.freeCount := by
  simp [countMove]

@[simp] theorem ignoreMove_frame (s : State) :
    (ignoreMove s).pending = s.pending ∧ (ignoreMove s).time = s.time ∧ (ignoreMove s).cfg = s.cfg ∧
      (ignoreMove s).flc = s.flc ∧ (ignoreMove s).pt = s.pt ∧ (ignoreMove s).env = s.env ∧
      (ignoreMove s).sq = s.sq ∧ (ignoreMove s).rc = s.rc ∧ (ignoreMove s).lc = s.lc ∧
      (ignoreMove s).st = s.st ∧ (ignoreMove s).su = s.su ∧ (ignoreMove s).mu.queue = s.mu.queue ∧
      (ignoreMove s).mu.moves = s.mu.moves ∧ (ignoreMove s).sp = s.sp ∧ (ignoreMove s).lu = s.lu ∧
      (ignoreMove s).freeCount = s.freeCount := by
  simp [ignoreMove]

@[simp] theorem sendMove_frame (dest : Nat) (m : Message) (s : State) :
    ((sendMove dest m s).1).pending = s.pending ∧ ((sendMove dest m s).1).time = s.time ∧
      ((sendMove dest m s).1).cfg = s.cfg ∧ ((sendMove dest m s).1).flc.link = s.flc.link ∧
      ((sendMove dest m s).1).pt = s.pt ∧ ((sendMove dest m s).1).env = s.env ∧
      ((sendMove dest m s).1).sq = s.sq ∧ ((sendMove dest m s).1).rc = s.rc ∧
      ((sendMove dest m s).1).lc = s.lc ∧ ((sendMove dest m s).1).st = s.st ∧
      ((sendMove dest m s).1).su = s.su ∧ ((sendMove dest m s).1).mu.queue = s.mu.queue ∧
      ((sendMove dest m s).1).mu.moves = s.mu.moves ∧ ((sendMove dest m s).1).sp = s.sp ∧
      ((sendMove dest m s).1).lu = s.lu ∧ ((sendMove dest m s).1).freeCount = s.freeCount := by
  generalize h : (sendMove dest m s).1 = t
  unfold sendMove at h
  try dsimp only at h
  (repeat' split at h) <;> (subst h; simp_all)

@[simp] theorem sendRevoke_frame (dest : Nat) (tag : Byte) (s : State) :
    ((sendRevoke dest tag s).1).pending = s.pending ∧ ((sendRevoke dest tag s).1).time = s.time ∧
      ((sendRevoke dest tag s).1).cfg = s.cfg ∧ ((sendRevoke dest tag s).1).flc.link = s.flc.link ∧
      ((sendRevoke dest tag s).1).pt = s.pt ∧ ((sendRevoke dest tag s).1).env = s.env ∧
      ((sendRevoke dest tag s).1).sq = s.sq ∧ ((sendRevoke dest tag s).1).rc = s.rc ∧
      ((sendRevoke dest tag s).1).lc = s.lc ∧ ((sendRevoke dest tag s).1).st = s.st ∧
      ((sendRevoke dest tag s).1).su = s.su ∧ ((sendRevoke dest tag s).1).mu.queue = s.mu.queue ∧
      ((sendRevoke dest tag s).1).mu.moves = s.mu.moves ∧ ((sendRevoke dest tag s).1).sp = s.sp ∧
      ((sendRevoke dest tag s).1).lu = s.lu ∧ ((sendRevoke dest tag s).1).freeCount = s.freeCount := by
  generalize h : (sendRevoke dest tag s).1 = t
  unfold sendRevoke at h
  try dsimp only at h
  (repeat' split at h) <;> (subst h; simp_all)

@[simp] theorem putMove_frame (n : Nat) (e : MoveEntry) (s : State) :
    (putMove n e s).pending = s.pending ∧ (putMove n e s).time = s.time ∧ (putMove n e s).cfg = s.cfg ∧
      (putMove n e s).flc = s.flc ∧ (putMove n e s).pt = s.pt ∧ (putMove n e s).env = s.env ∧
      (putMove n e s).sq = s.sq ∧ (putMove n e s).rc = s.rc ∧ (putMove n e s).lc = s.lc ∧
      (putMove n e s).st = s.st ∧ (putMove n e s).su = s.su ∧ (putMove n e s).mu.queue = s.mu.queue ∧
      (putMove n e s).sp = s.sp ∧ (putMove n e s).lu = s.lu ∧ (putMove n e s).freeCount = s.freeCount := by
  simp [putMove]

@[simp] theorem changeMove_frame (n : Nat) (old e : MoveEntry) (taker : Option Nat) (s : State) :
    (changeMove n old e taker s).pending = s.pending ∧ (changeMove n old e taker s).time = s.time ∧
      (changeMove n old e taker s).cfg = s.cfg ∧ (changeMove n old e taker s).flc = s.flc ∧
      (changeMove n old e taker s).pt = s.pt ∧ (changeMove n old e taker s).env = s.env ∧
      (changeMove n old e taker s).sq = s.sq ∧ (changeMove n old e taker s).rc = s.rc ∧
      (changeMove n old e taker s).lc = s.lc ∧ (changeMove n old e taker s).st = s.st ∧
      (changeMove n old e taker s).su = s.su ∧ (changeMove n old e taker s).mu.queue = s.mu.queue ∧
      (changeMove n old e taker s).sp.mode = s.sp.mode ∧ (changeMove n old e taker s).sp.front = s.sp.front ∧
      (changeMove n old e taker s).lu = s.lu ∧ (changeMove n old e taker s).freeCount = s.freeCount := by
  generalize h : changeMove n old e taker s = t
  unfold changeMove at h
  try dsimp only at h
  (repeat' split at h) <;> (subst h; simp_all)

@[simp] theorem endMove_frame (n : Nat) (e : MoveEntry) (st : MoveStanding) (r : Option MoveReason) (taker : Option Nat) (s : State) :
    (endMove n e st r taker s).pending = s.pending ∧ (endMove n e st r taker s).time = s.time ∧
      (endMove n e st r taker s).cfg = s.cfg ∧ (endMove n e st r taker s).flc = s.flc ∧
      (endMove n e st r taker s).pt = s.pt ∧ (endMove n e st r taker s).env = s.env ∧
      (endMove n e st r taker s).sq = s.sq ∧ (endMove n e st r taker s).rc = s.rc ∧
      (endMove n e st r taker s).lc = s.lc ∧ (endMove n e st r taker s).st = s.st ∧
      (endMove n e st r taker s).su = s.su ∧ (endMove n e st r taker s).mu.queue = s.mu.queue ∧
      (endMove n e st r taker s).sp.mode = s.sp.mode ∧ (endMove n e st r taker s).sp.front = s.sp.front ∧
      (endMove n e st r taker s).lu = s.lu ∧ (endMove n e st r taker s).freeCount = s.freeCount := by
  simp [endMove]

@[simp] theorem makeCall_frame (n : Nat) (e : MoveEntry) (s : State) :
    (makeCall n e s).pending = s.pending ∧ (makeCall n e s).time = s.time ∧ (makeCall n e s).cfg = s.cfg ∧
      (makeCall n e s).flc.link = s.flc.link ∧ (makeCall n e s).pt = s.pt ∧ (makeCall n e s).env = s.env ∧
      (makeCall n e s).sq = s.sq ∧ (makeCall n e s).rc = s.rc ∧ (makeCall n e s).lc = s.lc ∧
      (makeCall n e s).st = s.st ∧ (makeCall n e s).su = s.su ∧ (makeCall n e s).mu.queue = s.mu.queue ∧
      (makeCall n e s).sp = s.sp ∧ (makeCall n e s).lu = s.lu ∧ (makeCall n e s).freeCount = s.freeCount := by
  simp [makeCall]

@[simp] theorem actOnBids_frame (n : Nat) (e : MoveEntry) (bs : List Bid) (s : State) :
    (actOnBids n e bs s).pending = s.pending ∧ (actOnBids n e bs s).time = s.time ∧
      (actOnBids n e bs s).cfg = s.cfg ∧ (actOnBids n e bs s).flc.link = s.flc.link ∧
      (actOnBids n e bs s).pt = s.pt ∧ (actOnBids n e bs s).env = s.env ∧ (actOnBids n e bs s).sq = s.sq ∧
      (actOnBids n e bs s).rc = s.rc ∧ (actOnBids n e bs s).lc = s.lc ∧ (actOnBids n e bs s).st = s.st ∧
      (actOnBids n e bs s).su = s.su ∧ (actOnBids n e bs s).mu.queue = s.mu.queue ∧
      (actOnBids n e bs s).sp.mode = s.sp.mode ∧ (actOnBids n e bs s).sp.front = s.sp.front ∧
      (actOnBids n e bs s).lu = s.lu ∧ (actOnBids n e bs s).freeCount = s.freeCount := by
  induction bs generalizing s with
  | nil =>
    unfold actOnBids
    split <;> simp
  | cons b l ih =>
    have j := sendMove_frame b.crane (.moveAward e.tag e.info) s
    unfold actOnBids
    generalize sendMove b.crane (.moveAward e.tag e.info) s = p at *
    dsimp only
    split <;> simp_all

@[simp] theorem passDown_frame (n : Nat) (e : MoveEntry) (s : State) :
    (passDown n e s).pending = s.pending ∧ (passDown n e s).time = s.time ∧ (passDown n e s).cfg = s.cfg ∧
      (passDown n e s).flc.link = s.flc.link ∧ (passDown n e s).pt = s.pt ∧ (passDown n e s).env = s.env ∧
      (passDown n e s).sq = s.sq ∧ (passDown n e s).rc = s.rc ∧ (passDown n e s).lc = s.lc ∧
      (passDown n e s).st = s.st ∧ (passDown n e s).su = s.su ∧ (passDown n e s).mu.queue = s.mu.queue ∧
      (passDown n e s).sp.mode = s.sp.mode ∧ (passDown n e s).sp.front = s.sp.front ∧
      (passDown n e s).lu = s.lu ∧ (passDown n e s).freeCount = s.freeCount := by
  simp [passDown]

@[simp] theorem reopenMove_frame (n : Nat) (e : MoveEntry) (s : State) :
    (reopenMove n e s).pending = s.pending ∧ (reopenMove n e s).time = s.time ∧
      (reopenMove n e s).cfg = s.cfg ∧ (reopenMove n e s).flc.link = s.flc.link ∧
      (reopenMove n e s).pt = s.pt ∧ (reopenMove n e s).env = s.env ∧ (reopenMove n e s).sq = s.sq ∧
      (reopenMove n e s).rc = s.rc ∧ (reopenMove n e s).lc = s.lc ∧ (reopenMove n e s).st = s.st ∧
      (reopenMove n e s).su = s.su ∧ (reopenMove n e s).mu.queue = s.mu.queue ∧
      (reopenMove n e s).sp.mode = s.sp.mode ∧ (reopenMove n e s).sp.front = s.sp.front ∧
      (reopenMove n e s).lu = s.lu ∧ (reopenMove n e s).freeCount = s.freeCount := by
  generalize h : reopenMove n e s = t
  unfold reopenMove at h
  try dsimp only at h
  (repeat' split at h) <;> (subst h; simp_all)

@[simp] theorem startedWith_frame (n : Nat) (e : MoveEntry) (crane : Nat) (s : State) :
    (startedWith n e crane s).pending = s.pending ∧ (startedWith n e crane s).time = s.time ∧
      (startedWith n e crane s).cfg = s.cfg ∧ (startedWith n e crane s).flc.link = s.flc.link ∧
      (startedWith n e crane s).pt = s.pt ∧ (startedWith n e crane s).env = s.env ∧
      (startedWith n e crane s).sq = s.sq ∧ (startedWith n e crane s).rc = s.rc ∧
      (startedWith n e crane s).lc = s.lc ∧ (startedWith n e crane s).st = s.st ∧
      (startedWith n e crane s).su = s.su ∧ (startedWith n e crane s).mu.queue = s.mu.queue ∧
      (startedWith n e crane s).sp.mode = s.sp.mode ∧ (startedWith n e crane s).sp.front = s.sp.front ∧
      (startedWith n e crane s).lu = s.lu ∧ (startedWith n e crane s).freeCount = s.freeCount := by
  generalize h : startedWith n e crane s = t
  unfold startedWith at h
  try dsimp only at h
  (repeat' split at h) <;> (subst h; simp_all)

@[simp] theorem loseCraneAt_frame (station n : Nat) (s : State) :
    (loseCraneAt station n s).pending = s.pending ∧ (loseCraneAt station n s).time = s.time ∧
      (loseCraneAt station n s).cfg = s.cfg ∧ (loseCraneAt station n s).flc.link = s.flc.link ∧
      (loseCraneAt station n s).pt = s.pt ∧ (loseCraneAt station n s).env = s.env ∧
      (loseCraneAt station n s).sq = s.sq ∧ (loseCraneAt station n s).rc = s.rc ∧
      (loseCraneAt station n s).lc = s.lc ∧ (loseCraneAt station n s).st = s.st ∧
      (loseCraneAt station n s).su = s.su ∧ (loseCraneAt station n s).mu.queue = s.mu.queue ∧
      (loseCraneAt station n s).sp.mode = s.sp.mode ∧ (loseCraneAt station n s).sp.front = s.sp.front ∧
      (loseCraneAt station n s).lu = s.lu ∧ (loseCraneAt station n s).freeCount = s.freeCount := by
  generalize h : loseCraneAt station n s = t
  unfold loseCraneAt at h
  try dsimp only at h
  (repeat' split at h) <;> (subst h; simp_all)

@[simp] theorem loseCrane_frame (station : Nat) (s : State) :
    (loseCrane station s).pending = s.pending ∧ (loseCrane station s).time = s.time ∧
      (loseCrane station s).cfg = s.cfg ∧ (loseCrane station s).flc.link = s.flc.link ∧
      (loseCrane station s).pt = s.pt ∧ (loseCrane station s).env = s.env ∧ (loseCrane station s).sq = s.sq ∧
      (loseCrane station s).rc = s.rc ∧ (loseCrane station s).lc = s.lc ∧ (loseCrane station s).st = s.st ∧
      (loseCrane station s).su = s.su ∧ (loseCrane station s).mu.queue = s.mu.queue ∧
      (loseCrane station s).sp.mode = s.sp.mode ∧ (loseCrane station s).sp.front = s.sp.front ∧
      (loseCrane station s).lu = s.lu ∧ (loseCrane station s).freeCount = s.freeCount := by
  unfold loseCrane
  split
  · simp
  · clear * -
    generalize List.range 8 = l
    induction l generalizing s with
    | nil => simp
    | cons a l ih => simp_all

@[simp] theorem startQueued_frame (i : Nat) (s : State) :
    (startQueued i s).pending = s.pending ∧ (startQueued i s).time = s.time ∧ (startQueued i s).cfg = s.cfg ∧
      (startQueued i s).flc.link = s.flc.link ∧ (startQueued i s).pt = s.pt ∧ (startQueued i s).env = s.env ∧
      (startQueued i s).sq = s.sq ∧ (startQueued i s).rc = s.rc ∧ (startQueued i s).lc = s.lc ∧
      (startQueued i s).st = s.st ∧ (startQueued i s).su = s.su ∧ (startQueued i s).mu.moves = s.mu.moves ∧
      (startQueued i s).sp.mode = s.sp.mode ∧ (startQueued i s).sp.front = s.sp.front ∧
      (startQueued i s).lu = s.lu ∧ (startQueued i s).freeCount = s.freeCount := by
  generalize h : startQueued i s = t
  unfold startQueued at h
  try dsimp only at h
  (repeat' split at h) <;> (subst h; simp_all)

@[simp] theorem acceptedLoad_frame (id : StockId) (s : State) :
    (acceptedLoad id s).pending = s.pending ∧ (acceptedLoad id s).time = s.time ∧
      (acceptedLoad id s).cfg = s.cfg ∧ (acceptedLoad id s).flc.link = s.flc.link ∧
      (acceptedLoad id s).pt = s.pt ∧ (acceptedLoad id s).env = s.env ∧ (acceptedLoad id s).sq = s.sq ∧
      (acceptedLoad id s).rc = s.rc ∧ (acceptedLoad id s).lc = s.lc ∧ (acceptedLoad id s).st = s.st ∧
      (acceptedLoad id s).su = s.su ∧ (acceptedLoad id s).mu.moves = s.mu.moves ∧
      (acceptedLoad id s).sp.mode = s.sp.mode ∧ (acceptedLoad id s).sp.front = s.sp.front ∧
      (acceptedLoad id s).lu = s.lu ∧ (acceptedLoad id s).freeCount = s.freeCount := by
  generalize h : acceptedLoad id s = t
  unfold acceptedLoad at h
  try dsimp only at h
  (repeat' split at h) <;> (subst h; simp_all)

@[simp] theorem clearRises_frame (s : State) :
    (clearRises s).pending = s.pending ∧ (clearRises s).time = s.time ∧ (clearRises s).cfg = s.cfg ∧
      (clearRises s).flc.link = s.flc.link ∧ (clearRises s).pt = s.pt ∧ (clearRises s).env = s.env ∧
      (clearRises s).sq = s.sq ∧ (clearRises s).rc = s.rc ∧ (clearRises s).lc = s.lc ∧
      (clearRises s).st = s.st ∧ (clearRises s).su = s.su ∧ (clearRises s).mu.moves = s.mu.moves ∧
      (clearRises s).sp.mode = s.sp.mode ∧ (clearRises s).sp.front = s.sp.front ∧ (clearRises s).lu = s.lu ∧
      (clearRises s).freeCount = s.freeCount := by
  generalize h : clearRises s = t
  unfold clearRises at h
  try dsimp only at h
  (repeat' split at h) <;> (subst h; simp_all)

@[simp] theorem completeLeave_frame (s : State) :
    (completeLeave s).pending = s.pending ∧ (completeLeave s).time = s.time ∧ (completeLeave s).cfg = s.cfg ∧
      (completeLeave s).flc.link = s.flc.link ∧ (completeLeave s).env.own = s.env.own ∧
      (completeLeave s).su = s.su ∧ (completeLeave s).mu.queue = s.mu.queue ∧
      (completeLeave s).mu.moves = s.mu.moves ∧ (completeLeave s).sp.front = s.sp.front ∧
      (completeLeave s).lu.estop = s.lu.estop ∧ (completeLeave s).lu.loadAttached = s.lu.loadAttached ∧
      (completeLeave s).freeCount = s.freeCount := by
  generalize h : completeLeave s = t
  unfold completeLeave at h
  try dsimp only at h
  (repeat' split at h) <;> (subst h; simp_all)

@[simp] theorem finishMove_frame (carried : Bool) (taker : Option Nat) (s : State) :
    (finishMove carried taker s).pending = s.pending ∧ (finishMove carried taker s).time = s.time ∧
      (finishMove carried taker s).cfg = s.cfg ∧ (finishMove carried taker s).flc.link = s.flc.link ∧
      (finishMove carried taker s).env.own = s.env.own ∧ (finishMove carried taker s).su = s.su ∧
      (finishMove carried taker s).mu.moves = s.mu.moves ∧ (finishMove carried taker s).sp.front = s.sp.front ∧
      (finishMove carried taker s).lu.estop = s.lu.estop ∧
      (finishMove carried taker s).lu.loadAttached = s.lu.loadAttached ∧
      (finishMove carried taker s).freeCount = s.freeCount := by
  generalize h : finishMove carried taker s = t
  unfold finishMove at h
  try dsimp only at h
  (repeat' split at h) <;> (subst h; simp_all)

@[simp] theorem recordLeaves_frame (id : StockId) (carried : Bool) (taker : Option Nat) (s : State) :
    (recordLeaves id carried taker s).pending = s.pending ∧ (recordLeaves id carried taker s).time = s.time ∧
      (recordLeaves id carried taker s).cfg = s.cfg ∧ (recordLeaves id carried taker s).flc.link = s.flc.link ∧
      (recordLeaves id carried taker s).env.own = s.env.own ∧ (recordLeaves id carried taker s).su = s.su ∧
      (recordLeaves id carried taker s).mu.moves = s.mu.moves ∧
      (recordLeaves id carried taker s).sp.front = s.sp.front ∧
      (recordLeaves id carried taker s).lu.estop = s.lu.estop ∧
      (recordLeaves id carried taker s).lu.loadAttached = s.lu.loadAttached ∧
      (recordLeaves id carried taker s).freeCount = s.freeCount := by
  generalize h : recordLeaves id carried taker s = t
  unfold recordLeaves at h
  try dsimp only at h
  (repeat' split at h) <;> (subst h; simp_all)

@[simp] theorem returnMoves_frame (ms : List QueuedMove) (s : State) :
    (returnMoves ms s).pending = s.pending ∧ (returnMoves ms s).time = s.time ∧
      (returnMoves ms s).cfg = s.cfg ∧ (returnMoves ms s).flc.link = s.flc.link ∧
      (returnMoves ms s).pt = s.pt ∧ (returnMoves ms s).env = s.env ∧ (returnMoves ms s).sq = s.sq ∧
      (returnMoves ms s).rc = s.rc ∧ (returnMoves ms s).lc = s.lc ∧ (returnMoves ms s).st = s.st ∧
      (returnMoves ms s).su = s.su ∧ (returnMoves ms s).mu.moves = s.mu.moves ∧
      (returnMoves ms s).sp.mode = s.sp.mode ∧ (returnMoves ms s).sp.front = s.sp.front ∧
      (returnMoves ms s).lu = s.lu ∧ (returnMoves ms s).freeCount = s.freeCount := by
  induction ms generalizing s with
  | nil => simp [returnMoves]
  | cons a l ih => simp [returnMoves, ih]

@[simp] theorem craneLeaves_frame (s : State) :
    ((craneLeaves s).1).pending = s.pending ∧ ((craneLeaves s).1).time = s.time ∧
      ((craneLeaves s).1).cfg = s.cfg ∧ ((craneLeaves s).1).flc.link = s.flc.link ∧
      ((craneLeaves s).1).env.own = s.env.own ∧ ((craneLeaves s).1).su = s.su ∧
      ((craneLeaves s).1).mu.moves = s.mu.moves ∧ ((craneLeaves s).1).sp.front = s.sp.front ∧
      ((craneLeaves s).1).lu.estop = s.lu.estop ∧ ((craneLeaves s).1).lu.loadAttached = s.lu.loadAttached ∧
      ((craneLeaves s).1).freeCount = s.freeCount := by
  generalize h : (craneLeaves s).1 = t
  unfold craneLeaves at h
  try dsimp only at h
  (repeat' split at h) <;> (subst h; simp_all)

end Sys2Proof.Machine
end

