-- ==== Sys2Proof/Laws/Peers.lean ====
section
/-! SUPPORT. What the shared operations of the peer table leave unchanged. -/

namespace Sys2Proof.Machine

@[simp] theorem envPeer_frame (n : Nat) (roles : List Role) (s : State) :
    (envPeer n roles s).pending = s.pending ∧ (envPeer n roles s).time = s.time ∧
      (envPeer n roles s).cfg = s.cfg ∧ (envPeer n roles s).flc.link = s.flc.link ∧
      (envPeer n roles s).env.own = s.env.own ∧ (envPeer n roles s).su = s.su ∧
      (envPeer n roles s).mu.queue = s.mu.queue ∧ (envPeer n roles s).mu.moves = s.mu.moves ∧
      (envPeer n roles s).sp.front = s.sp.front ∧ (envPeer n roles s).lu.estop = s.lu.estop ∧
      (envPeer n roles s).lu.loadAttached = s.lu.loadAttached ∧ (envPeer n roles s).freeCount = s.freeCount := by
  generalize h : envPeer n roles s = t
  unfold envPeer at h
  try dsimp only at h
  (repeat' split at h) <;> (subst h; simp_all)

@[simp] theorem dropReservations_frame (station : Nat) (s : State) :
    (dropReservations station s).pending = s.pending ∧ (dropReservations station s).time = s.time ∧
      (dropReservations station s).cfg = s.cfg ∧ (dropReservations station s).flc = s.flc ∧
      (dropReservations station s).pt = s.pt ∧ (dropReservations station s).env = s.env ∧
      (dropReservations station s).sq = s.sq ∧ (dropReservations station s).rc = s.rc ∧
      (dropReservations station s).lc = s.lc ∧ (dropReservations station s).su = s.su ∧
      (dropReservations station s).mu = s.mu ∧ (dropReservations station s).sp.mode = s.sp.mode ∧
      (dropReservations station s).sp.front = s.sp.front ∧ (dropReservations station s).lu = s.lu ∧
      (dropReservations station s).freeCount = s.freeCount := by
  generalize h : dropReservations station s = t
  unfold dropReservations at h
  try dsimp only at h
  (repeat' split at h) <;> (subst h; simp_all)

@[simp] theorem stationLost_frame (station : Nat) (s : State) :
    (stationLost station s).pending = s.pending ∧ (stationLost station s).time = s.time ∧
      (stationLost station s).cfg = s.cfg ∧ (stationLost station s).flc.link = s.flc.link ∧
      (stationLost station s).pt = s.pt ∧ (stationLost station s).env = s.env ∧
      (stationLost station s).sq = s.sq ∧ (stationLost station s).rc = s.rc ∧
      (stationLost station s).lc = s.lc ∧ (stationLost station s).su = s.su ∧
      (stationLost station s).mu.queue = s.mu.queue ∧ (stationLost station s).sp.mode = s.sp.mode ∧
      (stationLost station s).sp.front = s.sp.front ∧ (stationLost station s).lu = s.lu := by
  unfold stationLost unordered
  (repeat' split) <;> simp

@[simp] theorem putPeer_frame (n : Nat) (e : Option PeerEntry) (s : State) :
    (putPeer n e s).pending = s.pending ∧ (putPeer n e s).time = s.time ∧ (putPeer n e s).cfg = s.cfg ∧
      (putPeer n e s).flc = s.flc ∧ (putPeer n e s).env = s.env ∧ (putPeer n e s).sq = s.sq ∧
      (putPeer n e s).rc = s.rc ∧ (putPeer n e s).lc = s.lc ∧ (putPeer n e s).st = s.st ∧
      (putPeer n e s).su = s.su ∧ (putPeer n e s).mu = s.mu ∧ (putPeer n e s).sp = s.sp ∧
      (putPeer n e s).lu = s.lu ∧ (putPeer n e s).freeCount = s.freeCount := by
  simp [putPeer]

@[simp] theorem removePeer_frame (n : Nat) (e : PeerEntry) (s : State) :
    (removePeer n e s).pending = s.pending ∧ (removePeer n e s).time = s.time ∧
      (removePeer n e s).cfg = s.cfg ∧ (removePeer n e s).flc.link = s.flc.link ∧
      (removePeer n e s).env.own = s.env.own ∧ (removePeer n e s).su = s.su ∧
      (removePeer n e s).mu.queue = s.mu.queue ∧ (removePeer n e s).sp.front = s.sp.front ∧
      (removePeer n e s).lu.estop = s.lu.estop ∧ (removePeer n e s).lu.loadAttached = s.lu.loadAttached := by
  simp [removePeer]

@[simp] theorem countPeer_frame (f : PeerTable → PeerTable) (s : State) :
    (countPeer f s).pending = s.pending ∧ (countPeer f s).time = s.time ∧ (countPeer f s).cfg = s.cfg ∧
      (countPeer f s).flc = s.flc ∧ (countPeer f s).env = s.env ∧ (countPeer f s).sq = s.sq ∧
      (countPeer f s).rc = s.rc ∧ (countPeer f s).lc = s.lc ∧ (countPeer f s).st = s.st ∧
      (countPeer f s).su = s.su ∧ (countPeer f s).mu = s.mu ∧ (countPeer f s).sp = s.sp ∧
      (countPeer f s).lu = s.lu ∧ (countPeer f s).freeCount = s.freeCount := by
  simp [countPeer]

@[simp] theorem storeBeacon_frame (n : Nat) (e : PeerEntry) (s : State) :
    (storeBeacon n e s).pending = s.pending ∧ (storeBeacon n e s).time = s.time ∧
      (storeBeacon n e s).cfg = s.cfg ∧ (storeBeacon n e s).flc.link = s.flc.link ∧
      (storeBeacon n e s).env.own = s.env.own ∧ (storeBeacon n e s).su = s.su ∧
      (storeBeacon n e s).mu.queue = s.mu.queue ∧ (storeBeacon n e s).mu.moves = s.mu.moves ∧
      (storeBeacon n e s).sp.front = s.sp.front ∧ (storeBeacon n e s).lu.estop = s.lu.estop ∧
      (storeBeacon n e s).lu.loadAttached = s.lu.loadAttached ∧ (storeBeacon n e s).freeCount = s.freeCount := by
  simp [storeBeacon]

@[simp] theorem createPeer_frame (e : PeerEntry) (s : State) :
    (createPeer e s).pending = s.pending ∧ (createPeer e s).time = s.time ∧ (createPeer e s).cfg = s.cfg ∧
      (createPeer e s).flc.link = s.flc.link ∧ (createPeer e s).env.own = s.env.own ∧
      (createPeer e s).su = s.su ∧ (createPeer e s).mu.queue = s.mu.queue ∧
      (createPeer e s).sp.front = s.sp.front ∧ (createPeer e s).lu.estop = s.lu.estop ∧
      (createPeer e s).lu.loadAttached = s.lu.loadAttached := by
  generalize h : createPeer e s = t
  unfold createPeer at h
  try dsimp only at h
  (repeat' split at h) <;> (subst h; simp_all)

@[simp] theorem changeRole_frame (n : Nat) (old e : PeerEntry) (s : State) :
    (changeRole n old e s).pending = s.pending ∧ (changeRole n old e s).time = s.time ∧
      (changeRole n old e s).cfg = s.cfg ∧ (changeRole n old e s).flc.link = s.flc.link ∧
      (changeRole n old e s).env.own = s.env.own ∧ (changeRole n old e s).su = s.su ∧
      (changeRole n old e s).mu.queue = s.mu.queue ∧ (changeRole n old e s).sp.front = s.sp.front ∧
      (changeRole n old e s).lu.estop = s.lu.estop ∧ (changeRole n old e s).lu.loadAttached = s.lu.loadAttached := by
  unfold changeRole unordered
  dsimp only
  split <;> simp

@[simp] theorem takeBeacon_frame (role : Role) (source : Nat) (seq : Byte) (bs : List Byte) (s : State) :
    (takeBeacon role source seq bs s).pending = s.pending ∧ (takeBeacon role source seq bs s).time = s.time ∧
      (takeBeacon role source seq bs s).cfg = s.cfg ∧ (takeBeacon role source seq bs s).flc.link = s.flc.link ∧
      (takeBeacon role source seq bs s).env.own = s.env.own ∧ (takeBeacon role source seq bs s).su = s.su ∧
      (takeBeacon role source seq bs s).mu.queue = s.mu.queue ∧
      (takeBeacon role source seq bs s).sp.front = s.sp.front ∧
      (takeBeacon role source seq bs s).lu.estop = s.lu.estop ∧
      (takeBeacon role source seq bs s).lu.loadAttached = s.lu.loadAttached := by
  generalize h : takeBeacon role source seq bs s = t
  unfold takeBeacon at h
  try dsimp only at h
  (repeat' split at h) <;> (subst h; simp_all)

@[simp] theorem ageToStale_frame (n : Nat) (s : State) :
    (ageToStale n s).pending = s.pending ∧ (ageToStale n s).time = s.time ∧ (ageToStale n s).cfg = s.cfg ∧
      (ageToStale n s).flc.link = s.flc.link ∧ (ageToStale n s).env.own = s.env.own ∧
      (ageToStale n s).su = s.su ∧ (ageToStale n s).mu.queue = s.mu.queue ∧
      (ageToStale n s).mu.moves = s.mu.moves ∧ (ageToStale n s).sp.front = s.sp.front ∧
      (ageToStale n s).lu.estop = s.lu.estop ∧ (ageToStale n s).lu.loadAttached = s.lu.loadAttached ∧
      (ageToStale n s).freeCount = s.freeCount := by
  generalize h : ageToStale n s = t
  unfold ageToStale at h
  try dsimp only at h
  (repeat' split at h) <;> (subst h; simp_all)

@[simp] theorem ageToLost_frame (n : Nat) (s : State) :
    (ageToLost n s).pending = s.pending ∧ (ageToLost n s).time = s.time ∧ (ageToLost n s).cfg = s.cfg ∧
      (ageToLost n s).flc.link = s.flc.link ∧ (ageToLost n s).env.own = s.env.own ∧ (ageToLost n s).su = s.su ∧
      (ageToLost n s).mu.queue = s.mu.queue ∧ (ageToLost n s).sp.front = s.sp.front ∧
      (ageToLost n s).lu.estop = s.lu.estop ∧ (ageToLost n s).lu.loadAttached = s.lu.loadAttached := by
  unfold ageToLost unordered
  (repeat' split) <;> simp

@[simp] theorem agePeer_frame (n : Nat) (s : State) :
    (agePeer s n).pending = s.pending ∧ (agePeer s n).time = s.time ∧ (agePeer s n).cfg = s.cfg ∧
      (agePeer s n).flc.link = s.flc.link ∧ (agePeer s n).env.own = s.env.own ∧ (agePeer s n).su = s.su ∧
      (agePeer s n).mu.queue = s.mu.queue ∧ (agePeer s n).sp.front = s.sp.front ∧
      (agePeer s n).lu.estop = s.lu.estop ∧ (agePeer s n).lu.loadAttached = s.lu.loadAttached := by
  simp [agePeer]

@[simp] theorem envStep_frame (s : State) :
    (envStep s).pending = s.pending ∧ (envStep s).time = s.time ∧ (envStep s).cfg = s.cfg ∧
      (envStep s).flc.link = s.flc.link ∧ (envStep s).env.own = s.env.own ∧ (envStep s).su = s.su ∧
      (envStep s).mu.queue = s.mu.queue ∧ (envStep s).mu.moves = s.mu.moves ∧
      (envStep s).sp.front = s.sp.front ∧ (envStep s).lu.estop = s.lu.estop ∧
      (envStep s).lu.loadAttached = s.lu.loadAttached ∧ (envStep s).freeCount = s.freeCount := by
  generalize h : envStep s = t
  unfold envStep at h
  try dsimp only at h
  (repeat' split at h) <;> (subst h; simp_all)

end Sys2Proof.Machine
end

