-- ==== Sys2Proof/Laws/Custody.lean ====
section
/-! SUPPORT. What the shared operations of the custody handover leave unchanged. -/

namespace Sys2Proof.Machine

@[simp] theorem countLink_frame (f : LinkCounts → LinkCounts) (s : State) :
    (countLink f s).pending = s.pending ∧ (countLink f s).time = s.time ∧ (countLink f s).cfg = s.cfg ∧
      (countLink f s).flc.link = s.flc.link ∧ (countLink f s).pt = s.pt ∧ (countLink f s).env = s.env ∧
      (countLink f s).sq = s.sq ∧ (countLink f s).rc = s.rc ∧ (countLink f s).lc = s.lc ∧
      (countLink f s).st = s.st ∧ (countLink f s).su = s.su ∧ (countLink f s).mu = s.mu ∧
      (countLink f s).sp = s.sp ∧ (countLink f s).lu = s.lu ∧ (countLink f s).freeCount = s.freeCount := by
  simp [countLink]

@[simp] theorem framingError_frame (s : State) :
    (framingError s).pending = s.pending ∧ (framingError s).time = s.time ∧ (framingError s).cfg = s.cfg ∧
      (framingError s).flc.link = s.flc.link ∧ (framingError s).pt = s.pt ∧ (framingError s).env = s.env ∧
      (framingError s).sq = s.sq ∧ (framingError s).rc = s.rc ∧ (framingError s).lc = s.lc ∧
      (framingError s).st = s.st ∧ (framingError s).su = s.su ∧ (framingError s).mu = s.mu ∧
      (framingError s).sp = s.sp ∧ (framingError s).lu = s.lu ∧ (framingError s).freeCount = s.freeCount := by
  simp [framingError]

@[simp] theorem withFlc_frame (f : Flc → Flc) (s : State) :
    (withFlc f s).pending = s.pending ∧ (withFlc f s).time = s.time ∧ (withFlc f s).cfg = s.cfg ∧
      (withFlc f s).pt = s.pt ∧ (withFlc f s).env = s.env ∧ (withFlc f s).sq = s.sq ∧ (withFlc f s).rc = s.rc ∧
      (withFlc f s).lc = s.lc ∧ (withFlc f s).st = s.st ∧ (withFlc f s).su = s.su ∧ (withFlc f s).mu = s.mu ∧
      (withFlc f s).sp = s.sp ∧ (withFlc f s).lu = s.lu ∧ (withFlc f s).freeCount = s.freeCount := by
  simp [withFlc]

@[simp] theorem endAttempt_frame (s : State) :
    (endAttempt s).pending = s.pending ∧ (endAttempt s).time = s.time ∧ (endAttempt s).cfg = s.cfg ∧
      (endAttempt s).flc.link = s.flc.link ∧ (endAttempt s).pt = s.pt ∧ (endAttempt s).env = s.env ∧
      (endAttempt s).sq = s.sq ∧ (endAttempt s).rc = s.rc ∧ (endAttempt s).lc = s.lc ∧
      (endAttempt s).st = s.st ∧ (endAttempt s).su = s.su ∧ (endAttempt s).mu = s.mu ∧
      (endAttempt s).sp = s.sp ∧ (endAttempt s).lu = s.lu ∧ (endAttempt s).freeCount = s.freeCount := by
  simp [endAttempt, withFlc]

@[simp] theorem countSent_frame (s : State) :
    (countSent s).pending = s.pending ∧ (countSent s).time = s.time ∧ (countSent s).cfg = s.cfg ∧
      (countSent s).flc.link = s.flc.link ∧ (countSent s).pt = s.pt ∧ (countSent s).env = s.env ∧
      (countSent s).sq = s.sq ∧ (countSent s).rc = s.rc ∧ (countSent s).lc = s.lc ∧ (countSent s).st = s.st ∧
      (countSent s).su = s.su ∧ (countSent s).mu = s.mu ∧ (countSent s).sp = s.sp ∧ (countSent s).lu = s.lu ∧
      (countSent s).freeCount = s.freeCount := by
  simp [countSent]

@[simp] theorem placeOffer_frame (n : Nat) (p : Piece) (giver : Nat) (s : State) :
    (placeOffer n p giver s).pending = s.pending ∧ (placeOffer n p giver s).time = s.time ∧
      (placeOffer n p giver s).cfg = s.cfg ∧ (placeOffer n p giver s).flc = s.flc ∧
      (placeOffer n p giver s).pt = s.pt ∧ (placeOffer n p giver s).env = s.env ∧
      (placeOffer n p giver s).sq = s.sq ∧ (placeOffer n p giver s).rc = s.rc ∧
      (placeOffer n p giver s).lc = s.lc ∧ (placeOffer n p giver s).su = s.su ∧
      (placeOffer n p giver s).mu = s.mu ∧ (placeOffer n p giver s).sp = s.sp ∧
      (placeOffer n p giver s).lu = s.lu ∧ (placeOffer n p giver s).freeCount = s.freeCount := by
  simp [placeOffer]

@[simp] theorem sendAccept_frame (giver : Nat) (i : StockId) (s : State) :
    (sendAccept giver i s).pending = s.pending ∧ (sendAccept giver i s).time = s.time ∧
      (sendAccept giver i s).cfg = s.cfg ∧ (sendAccept giver i s).flc.link = s.flc.link ∧
      (sendAccept giver i s).pt = s.pt ∧ (sendAccept giver i s).env = s.env ∧
      (sendAccept giver i s).sq = s.sq ∧ (sendAccept giver i s).rc = s.rc ∧ (sendAccept giver i s).lc = s.lc ∧
      (sendAccept giver i s).su = s.su ∧ (sendAccept giver i s).mu = s.mu ∧ (sendAccept giver i s).sp = s.sp ∧
      (sendAccept giver i s).lu = s.lu ∧ (sendAccept giver i s).freeCount = s.freeCount := by
  generalize h : sendAccept giver i s = t
  unfold sendAccept at h
  try dsimp only at h
  (repeat' split at h) <;> (subst h; simp_all)

@[simp] theorem acceptOffer_frame (n : Nat) (o : HeldOffer) (loc : Location) (s : State) :
    (acceptOffer n o loc s).pending = s.pending ∧ (acceptOffer n o loc s).time = s.time ∧
      (acceptOffer n o loc s).cfg = s.cfg ∧ (acceptOffer n o loc s).flc.link = s.flc.link ∧
      (acceptOffer n o loc s).pt = s.pt ∧ (acceptOffer n o loc s).env = s.env ∧
      (acceptOffer n o loc s).sq = s.sq ∧ (acceptOffer n o loc s).rc = s.rc ∧
      (acceptOffer n o loc s).lc = s.lc ∧ (acceptOffer n o loc s).su = s.su ∧
      (acceptOffer n o loc s).mu.moves = s.mu.moves ∧ (acceptOffer n o loc s).sp.mode = s.sp.mode ∧
      (acceptOffer n o loc s).sp.front = s.sp.front ∧ (acceptOffer n o loc s).lu = s.lu ∧
      (acceptOffer n o loc s).freeCount = s.freeCount := by
  generalize h : acceptOffer n o loc s = t
  unfold acceptOffer at h
  try dsimp only at h
  (repeat' split at h) <;> (subst h; simp_all)

@[simp] theorem confirmOffer_frame (n : Nat) (o : HeldOffer) (loc : Location) (s : State) :
    ((confirmOffer n o loc s).1).pending = s.pending ∧ ((confirmOffer n o loc s).1).time = s.time ∧
      ((confirmOffer n o loc s).1).cfg = s.cfg ∧ ((confirmOffer n o loc s).1).flc.link = s.flc.link ∧
      ((confirmOffer n o loc s).1).pt = s.pt ∧ ((confirmOffer n o loc s).1).env = s.env ∧
      ((confirmOffer n o loc s).1).sq = s.sq ∧ ((confirmOffer n o loc s).1).rc = s.rc ∧
      ((confirmOffer n o loc s).1).lc = s.lc ∧ ((confirmOffer n o loc s).1).su = s.su ∧
      ((confirmOffer n o loc s).1).mu.moves = s.mu.moves ∧ ((confirmOffer n o loc s).1).sp.mode = s.sp.mode ∧
      ((confirmOffer n o loc s).1).sp.front = s.sp.front ∧ ((confirmOffer n o loc s).1).lu = s.lu ∧
      ((confirmOffer n o loc s).1).freeCount = s.freeCount := by
  generalize h : (confirmOffer n o loc s).1 = t
  unfold confirmOffer at h
  try dsimp only at h
  (repeat' split at h) <;> (subst h; simp_all)

@[simp] theorem confirmSlot_frame (n : Nat) (s : State) :
    (confirmSlot n s).pending = s.pending ∧ (confirmSlot n s).time = s.time ∧ (confirmSlot n s).cfg = s.cfg ∧
      (confirmSlot n s).flc.link = s.flc.link ∧ (confirmSlot n s).pt = s.pt ∧ (confirmSlot n s).env = s.env ∧
      (confirmSlot n s).sq = s.sq ∧ (confirmSlot n s).rc = s.rc ∧ (confirmSlot n s).lc = s.lc ∧
      (confirmSlot n s).su = s.su ∧ (confirmSlot n s).mu.moves = s.mu.moves ∧
      (confirmSlot n s).sp.mode = s.sp.mode ∧ (confirmSlot n s).sp.front = s.sp.front ∧
      (confirmSlot n s).lu = s.lu ∧ (confirmSlot n s).freeCount = s.freeCount := by
  generalize h : confirmSlot n s = t
  unfold confirmSlot at h
  try dsimp only at h
  (repeat' split at h) <;> (subst h; simp_all)

@[simp] theorem confirmHeld_frame (s : State) :
    (confirmHeld s).pending = s.pending ∧ (confirmHeld s).time = s.time ∧ (confirmHeld s).cfg = s.cfg ∧
      (confirmHeld s).flc.link = s.flc.link ∧ (confirmHeld s).pt = s.pt ∧ (confirmHeld s).env = s.env ∧
      (confirmHeld s).sq = s.sq ∧ (confirmHeld s).rc = s.rc ∧ (confirmHeld s).lc = s.lc ∧
      (confirmHeld s).su = s.su ∧ (confirmHeld s).mu.moves = s.mu.moves ∧ (confirmHeld s).sp.mode = s.sp.mode ∧
      (confirmHeld s).sp.front = s.sp.front ∧ (confirmHeld s).lu = s.lu ∧
      (confirmHeld s).freeCount = s.freeCount := by
  generalize h : confirmHeld s = t
  unfold confirmHeld at h
  try dsimp only at h
  (repeat' split at h) <;> (subst h; simp_all)

@[simp] theorem holdOffer_frame (p : Piece) (giver : Nat) (s : State) :
    (holdOffer p giver s).pending = s.pending ∧ (holdOffer p giver s).time = s.time ∧
      (holdOffer p giver s).cfg = s.cfg ∧ (holdOffer p giver s).flc.link = s.flc.link ∧
      (holdOffer p giver s).pt = s.pt ∧ (holdOffer p giver s).env = s.env ∧ (holdOffer p giver s).sq = s.sq ∧
      (holdOffer p giver s).rc = s.rc ∧ (holdOffer p giver s).lc = s.lc ∧ (holdOffer p giver s).su = s.su ∧
      (holdOffer p giver s).mu.moves = s.mu.moves ∧ (holdOffer p giver s).sp.mode = s.sp.mode ∧
      (holdOffer p giver s).sp.front = s.sp.front ∧ (holdOffer p giver s).lu = s.lu ∧
      (holdOffer p giver s).freeCount = s.freeCount := by
  generalize h : holdOffer p giver s = t
  unfold holdOffer at h
  try dsimp only at h
  (repeat' split at h) <;> (subst h; simp_all)

@[simp] theorem takeOffer_frame (p : Piece) (giver : Nat) (s : State) :
    (takeOffer p giver s).pending = s.pending ∧ (takeOffer p giver s).time = s.time ∧
      (takeOffer p giver s).cfg = s.cfg ∧ (takeOffer p giver s).flc.link = s.flc.link ∧
      (takeOffer p giver s).pt = s.pt ∧ (takeOffer p giver s).env = s.env ∧ (takeOffer p giver s).sq = s.sq ∧
      (takeOffer p giver s).rc = s.rc ∧ (takeOffer p giver s).lc = s.lc ∧ (takeOffer p giver s).su = s.su ∧
      (takeOffer p giver s).mu.moves = s.mu.moves ∧ (takeOffer p giver s).sp.mode = s.sp.mode ∧
      (takeOffer p giver s).sp.front = s.sp.front ∧ (takeOffer p giver s).lu = s.lu ∧
      (takeOffer p giver s).freeCount = s.freeCount := by
  generalize h : takeOffer p giver s = t
  unfold takeOffer at h
  try dsimp only at h
  (repeat' split at h) <;> (subst h; simp_all)

@[simp] theorem sendRelease_frame (taker : Nat) (i : StockId) (s : State) :
    (sendRelease taker i s).pending = s.pending ∧ (sendRelease taker i s).time = s.time ∧
      (sendRelease taker i s).cfg = s.cfg ∧ (sendRelease taker i s).flc.link = s.flc.link ∧
      (sendRelease taker i s).pt = s.pt ∧ (sendRelease taker i s).env = s.env ∧
      (sendRelease taker i s).sq = s.sq ∧ (sendRelease taker i s).rc = s.rc ∧
      (sendRelease taker i s).lc = s.lc ∧ (sendRelease taker i s).su = s.su ∧
      (sendRelease taker i s).mu = s.mu ∧ (sendRelease taker i s).sp = s.sp ∧
      (sendRelease taker i s).lu = s.lu ∧ (sendRelease taker i s).freeCount = s.freeCount := by
  generalize h : sendRelease taker i s = t
  unfold sendRelease at h
  try dsimp only at h
  (repeat' split at h) <;> (subst h; simp_all)

@[simp] theorem releaseRecord_frame (n taker : Nat) (i : StockId) (s : State) :
    (releaseRecord n taker i s).pending = s.pending ∧ (releaseRecord n taker i s).time = s.time ∧
      (releaseRecord n taker i s).cfg = s.cfg ∧ (releaseRecord n taker i s).flc.link = s.flc.link ∧
      (releaseRecord n taker i s).env.own = s.env.own ∧ (releaseRecord n taker i s).su = s.su ∧
      (releaseRecord n taker i s).mu.moves = s.mu.moves ∧ (releaseRecord n taker i s).sp.front = s.sp.front ∧
      (releaseRecord n taker i s).lu.estop = s.lu.estop ∧
      (releaseRecord n taker i s).lu.loadAttached = s.lu.loadAttached ∧
      (releaseRecord n taker i s).freeCount = s.freeCount := by
  generalize h : releaseRecord n taker i s = t
  unfold releaseRecord at h
  try dsimp only at h
  (repeat' split at h) <;> (subst h; simp_all)

@[simp] theorem takeAccept_frame (i : StockId) (source : Nat) (s : State) :
    (takeAccept i source s).pending = s.pending ∧ (takeAccept i source s).time = s.time ∧
      (takeAccept i source s).cfg = s.cfg ∧ (takeAccept i source s).flc.link = s.flc.link ∧
      (takeAccept i source s).env.own = s.env.own ∧ (takeAccept i source s).su = s.su ∧
      (takeAccept i source s).mu.moves = s.mu.moves ∧ (takeAccept i source s).sp.front = s.sp.front ∧
      (takeAccept i source s).lu.estop = s.lu.estop ∧
      (takeAccept i source s).lu.loadAttached = s.lu.loadAttached ∧
      (takeAccept i source s).freeCount = s.freeCount := by
  generalize h : takeAccept i source s = t
  unfold takeAccept at h
  try dsimp only at h
  (repeat' split at h) <;> (subst h; simp_all)

@[simp] theorem failOffer_frame (n : Nat) (r : StockRecord) (reason : HandoverReason) (s : State) :
    (failOffer n r reason s).pending = s.pending ∧ (failOffer n r reason s).time = s.time ∧
      (failOffer n r reason s).cfg = s.cfg ∧ (failOffer n r reason s).flc = s.flc ∧
      (failOffer n r reason s).pt = s.pt ∧ (failOffer n r reason s).env = s.env ∧
      (failOffer n r reason s).sq = s.sq ∧ (failOffer n r reason s).rc = s.rc ∧
      (failOffer n r reason s).lc = s.lc ∧ (failOffer n r reason s).su = s.su ∧
      (failOffer n r reason s).mu = s.mu ∧ (failOffer n r reason s).sp.mode = s.sp.mode ∧
      (failOffer n r reason s).sp.front = s.sp.front ∧ (failOffer n r reason s).lu = s.lu ∧
      (failOffer n r reason s).freeCount = s.freeCount := by
  simp [failOffer]

@[simp] theorem takeRelease_frame (i : StockId) (source : Nat) (s : State) :
    (takeRelease i source s).pending = s.pending ∧ (takeRelease i source s).time = s.time ∧
      (takeRelease i source s).cfg = s.cfg ∧ (takeRelease i source s).flc = s.flc ∧
      (takeRelease i source s).pt = s.pt ∧ (takeRelease i source s).env = s.env ∧
      (takeRelease i source s).sq = s.sq ∧ (takeRelease i source s).rc = s.rc ∧
      (takeRelease i source s).lc = s.lc ∧ (takeRelease i source s).su = s.su ∧
      (takeRelease i source s).mu = s.mu ∧ (takeRelease i source s).sp.mode = s.sp.mode ∧
      (takeRelease i source s).sp.front = s.sp.front ∧ (takeRelease i source s).lu = s.lu ∧
      (takeRelease i source s).freeCount = s.freeCount := by
  generalize h : takeRelease i source s = t
  unfold takeRelease at h
  try dsimp only at h
  (repeat' split at h) <;> (subst h; simp_all)

@[simp] theorem rejectRecord_frame (n giver : Nat) (i : StockId) (reason : CustodyRefusal) (s : State) :
    (rejectRecord n giver i reason s).pending = s.pending ∧ (rejectRecord n giver i reason s).time = s.time ∧
      (rejectRecord n giver i reason s).cfg = s.cfg ∧ (rejectRecord n giver i reason s).flc.link = s.flc.link ∧
      (rejectRecord n giver i reason s).env.own = s.env.own ∧ (rejectRecord n giver i reason s).su = s.su ∧
      (rejectRecord n giver i reason s).mu.moves = s.mu.moves ∧
      (rejectRecord n giver i reason s).sp.front = s.sp.front ∧
      (rejectRecord n giver i reason s).lu.estop = s.lu.estop ∧
      (rejectRecord n giver i reason s).lu.loadAttached = s.lu.loadAttached ∧
      (rejectRecord n giver i reason s).freeCount = s.freeCount := by
  generalize h : rejectRecord n giver i reason s = t
  unfold rejectRecord at h
  try dsimp only at h
  (repeat' split at h) <;> (subst h; simp_all)

@[simp] theorem takeRefusal_frame (i : StockId) (reason : CustodyRefusal) (source : Nat) (s : State) :
    (takeRefusal i reason source s).pending = s.pending ∧ (takeRefusal i reason source s).time = s.time ∧
      (takeRefusal i reason source s).cfg = s.cfg ∧ (takeRefusal i reason source s).flc.link = s.flc.link ∧
      (takeRefusal i reason source s).env.own = s.env.own ∧ (takeRefusal i reason source s).su = s.su ∧
      (takeRefusal i reason source s).mu.moves = s.mu.moves ∧
      (takeRefusal i reason source s).sp.front = s.sp.front ∧
      (takeRefusal i reason source s).lu.estop = s.lu.estop ∧
      (takeRefusal i reason source s).lu.loadAttached = s.lu.loadAttached ∧
      (takeRefusal i reason source s).freeCount = s.freeCount := by
  generalize h : takeRefusal i reason source s = t
  unfold takeRefusal at h
  try dsimp only at h
  (repeat' split at h) <;> (subst h; simp_all)

end Sys2Proof.Machine
end

