-- ==== Sys2Proof/Laws/Search.lean ====
section
/-! SUPPORT. What the shared operations of the stock search leave unchanged. -/

namespace Sys2Proof.Machine

@[simp] theorem countSearch_frame (f : SearchCounts → SearchCounts) (s : State) :
    (countSearch f s).pending = s.pending ∧ (countSearch f s).time = s.time ∧ (countSearch f s).cfg = s.cfg ∧
      (countSearch f s).flc = s.flc ∧ (countSearch f s).pt = s.pt ∧ (countSearch f s).env = s.env ∧
      (countSearch f s).sq = s.sq ∧ (countSearch f s).rc = s.rc ∧ (countSearch f s).lc = s.lc ∧
      (countSearch f s).su = s.su ∧ (countSearch f s).mu = s.mu ∧ (countSearch f s).sp = s.sp ∧
      (countSearch f s).lu = s.lu ∧ (countSearch f s).freeCount = s.freeCount := by
  simp [countSearch]

@[simp] theorem ignoreSearch_frame (s : State) :
    (ignoreSearch s).pending = s.pending ∧ (ignoreSearch s).time = s.time ∧ (ignoreSearch s).cfg = s.cfg ∧
      (ignoreSearch s).flc = s.flc ∧ (ignoreSearch s).pt = s.pt ∧ (ignoreSearch s).env = s.env ∧
      (ignoreSearch s).sq = s.sq ∧ (ignoreSearch s).rc = s.rc ∧ (ignoreSearch s).lc = s.lc ∧
      (ignoreSearch s).su = s.su ∧ (ignoreSearch s).mu = s.mu ∧ (ignoreSearch s).sp = s.sp ∧
      (ignoreSearch s).lu = s.lu ∧ (ignoreSearch s).freeCount = s.freeCount := by
  simp [ignoreSearch]

@[simp] theorem takeQuery_frame (number : Byte) (q : QueryFields) (source : Nat) (s : State) :
    (takeQuery number q source s).pending = s.pending ∧ (takeQuery number q source s).time = s.time ∧
      (takeQuery number q source s).cfg = s.cfg ∧ (takeQuery number q source s).flc.link = s.flc.link ∧
      (takeQuery number q source s).pt = s.pt ∧ (takeQuery number q source s).env = s.env ∧
      (takeQuery number q source s).sq = s.sq ∧ (takeQuery number q source s).rc = s.rc ∧
      (takeQuery number q source s).lc = s.lc ∧ (takeQuery number q source s).su = s.su ∧
      (takeQuery number q source s).mu = s.mu ∧ (takeQuery number q source s).sp = s.sp ∧
      (takeQuery number q source s).lu = s.lu ∧ (takeQuery number q source s).freeCount = s.freeCount := by
  generalize h : takeQuery number q source s = t
  unfold takeQuery at h
  try dsimp only at h
  (repeat' split at h) <;> (subst h; simp_all)

@[simp] theorem takeReserve_frame (number : Byte) (i : StockId) (source : Nat) (s : State) :
    (takeReserve number i source s).pending = s.pending ∧ (takeReserve number i source s).time = s.time ∧
      (takeReserve number i source s).cfg = s.cfg ∧ (takeReserve number i source s).flc.link = s.flc.link ∧
      (takeReserve number i source s).pt = s.pt ∧ (takeReserve number i source s).env = s.env ∧
      (takeReserve number i source s).sq = s.sq ∧ (takeReserve number i source s).rc = s.rc ∧
      (takeReserve number i source s).lc = s.lc ∧ (takeReserve number i source s).su = s.su ∧
      (takeReserve number i source s).mu = s.mu ∧ (takeReserve number i source s).sp = s.sp ∧
      (takeReserve number i source s).lu = s.lu ∧ (takeReserve number i source s).freeCount = s.freeCount := by
  generalize h : takeReserve number i source s = t
  unfold takeReserve at h
  try dsimp only at h
  (repeat' split at h) <;> (subst h; simp_all)

@[simp] theorem takeUnreserve_frame (i : StockId) (source : Nat) (s : State) :
    (takeUnreserve i source s).pending = s.pending ∧ (takeUnreserve i source s).time = s.time ∧
      (takeUnreserve i source s).cfg = s.cfg ∧ (takeUnreserve i source s).flc.link = s.flc.link ∧
      (takeUnreserve i source s).pt = s.pt ∧ (takeUnreserve i source s).env = s.env ∧
      (takeUnreserve i source s).sq = s.sq ∧ (takeUnreserve i source s).rc = s.rc ∧
      (takeUnreserve i source s).lc = s.lc ∧ (takeUnreserve i source s).su = s.su ∧
      (takeUnreserve i source s).mu = s.mu ∧ (takeUnreserve i source s).sp = s.sp ∧
      (takeUnreserve i source s).lu = s.lu ∧ (takeUnreserve i source s).freeCount = s.freeCount := by
  generalize h : takeUnreserve i source s = t
  unfold takeUnreserve at h
  try dsimp only at h
  (repeat' split at h) <;> (subst h; simp_all)

@[simp] theorem withSearch_frame (f : Search → Search) (s : State) :
    (withSearch f s).pending = s.pending ∧ (withSearch f s).time = s.time ∧ (withSearch f s).cfg = s.cfg ∧
      (withSearch f s).flc = s.flc ∧ (withSearch f s).pt = s.pt ∧ (withSearch f s).env = s.env ∧
      (withSearch f s).sq = s.sq ∧ (withSearch f s).rc = s.rc ∧ (withSearch f s).lc = s.lc ∧
      (withSearch f s).st = s.st ∧ (withSearch f s).mu = s.mu ∧ (withSearch f s).sp = s.sp ∧
      (withSearch f s).lu = s.lu ∧ (withSearch f s).freeCount = s.freeCount := by
  simp [withSearch]

@[simp] theorem ignoreCandidate_frame (s : State) :
    (ignoreCandidate s).pending = s.pending ∧ (ignoreCandidate s).time = s.time ∧
      (ignoreCandidate s).cfg = s.cfg ∧ (ignoreCandidate s).flc = s.flc ∧ (ignoreCandidate s).pt = s.pt ∧
      (ignoreCandidate s).env = s.env ∧ (ignoreCandidate s).sq = s.sq ∧ (ignoreCandidate s).rc = s.rc ∧
      (ignoreCandidate s).lc = s.lc ∧ (ignoreCandidate s).st = s.st ∧ (ignoreCandidate s).mu = s.mu ∧
      (ignoreCandidate s).sp = s.sp ∧ (ignoreCandidate s).lu = s.lu ∧
      (ignoreCandidate s).freeCount = s.freeCount := by
  simp [ignoreCandidate]

@[simp] theorem takeCandidate_frame (number : Byte) (c : Candidate) (s : State) :
    (takeCandidate number c s).pending = s.pending ∧ (takeCandidate number c s).time = s.time ∧
      (takeCandidate number c s).cfg = s.cfg ∧ (takeCandidate number c s).flc = s.flc ∧
      (takeCandidate number c s).pt = s.pt ∧ (takeCandidate number c s).env = s.env ∧
      (takeCandidate number c s).sq = s.sq ∧ (takeCandidate number c s).rc = s.rc ∧
      (takeCandidate number c s).lc = s.lc ∧ (takeCandidate number c s).st = s.st ∧
      (takeCandidate number c s).mu = s.mu ∧ (takeCandidate number c s).sp = s.sp ∧
      (takeCandidate number c s).lu = s.lu ∧ (takeCandidate number c s).freeCount = s.freeCount := by
  generalize h : takeCandidate number c s = t
  unfold takeCandidate at h
  try dsimp only at h
  (repeat' split at h) <;> (subst h; simp_all)

@[simp] theorem countSearchRefusal_frame (s : State) :
    (countSearchRefusal s).pending = s.pending ∧ (countSearchRefusal s).time = s.time ∧
      (countSearchRefusal s).cfg = s.cfg ∧ (countSearchRefusal s).flc = s.flc ∧
      (countSearchRefusal s).pt = s.pt ∧ (countSearchRefusal s).env = s.env ∧
      (countSearchRefusal s).sq = s.sq ∧ (countSearchRefusal s).rc = s.rc ∧ (countSearchRefusal s).lc = s.lc ∧
      (countSearchRefusal s).st = s.st ∧ (countSearchRefusal s).mu = s.mu ∧ (countSearchRefusal s).sp = s.sp ∧
      (countSearchRefusal s).lu = s.lu ∧ (countSearchRefusal s).freeCount = s.freeCount := by
  simp [countSearchRefusal]

@[simp] theorem tryReserve_frame (cs : List Candidate) (s : State) :
    (tryReserve cs s).pending = s.pending ∧ (tryReserve cs s).time = s.time ∧ (tryReserve cs s).cfg = s.cfg ∧
      (tryReserve cs s).flc.link = s.flc.link ∧ (tryReserve cs s).pt = s.pt ∧ (tryReserve cs s).env = s.env ∧
      (tryReserve cs s).sq = s.sq ∧ (tryReserve cs s).rc = s.rc ∧ (tryReserve cs s).lc = s.lc ∧
      (tryReserve cs s).st = s.st ∧ (tryReserve cs s).mu = s.mu ∧ (tryReserve cs s).sp.mode = s.sp.mode ∧
      (tryReserve cs s).sp.front = s.sp.front ∧ (tryReserve cs s).lu = s.lu ∧
      (tryReserve cs s).freeCount = s.freeCount := by
  induction cs generalizing s with
  | nil => simp [tryReserve]
  | cons c l ih =>
    have j := offer_frame c.rack (.reserve s.su.number c.id s.cfg.params.station) s
    unfold tryReserve
    generalize offer c.rack (.reserve s.su.number c.id s.cfg.params.station) s = p at *
    dsimp only
    split <;> simp_all

@[simp] theorem sendUnreserve_frame (rack : Nat) (i : StockId) (s : State) :
    (sendUnreserve rack i s).pending = s.pending ∧ (sendUnreserve rack i s).time = s.time ∧
      (sendUnreserve rack i s).cfg = s.cfg ∧ (sendUnreserve rack i s).flc.link = s.flc.link ∧
      (sendUnreserve rack i s).pt = s.pt ∧ (sendUnreserve rack i s).env = s.env ∧
      (sendUnreserve rack i s).sq = s.sq ∧ (sendUnreserve rack i s).rc = s.rc ∧
      (sendUnreserve rack i s).lc = s.lc ∧ (sendUnreserve rack i s).st = s.st ∧
      (sendUnreserve rack i s).mu = s.mu ∧ (sendUnreserve rack i s).sp = s.sp ∧
      (sendUnreserve rack i s).lu = s.lu ∧ (sendUnreserve rack i s).freeCount = s.freeCount := by
  generalize h : sendUnreserve rack i s = t
  unfold sendUnreserve at h
  try dsimp only at h
  (repeat' split at h) <;> (subst h; simp_all)

@[simp] theorem winReservation_frame (s : State) :
    (winReservation s).pending = s.pending ∧ (winReservation s).time = s.time ∧
      (winReservation s).cfg = s.cfg ∧ (winReservation s).flc = s.flc ∧ (winReservation s).pt = s.pt ∧
      (winReservation s).env = s.env ∧ (winReservation s).sq = s.sq ∧ (winReservation s).rc = s.rc ∧
      (winReservation s).lc = s.lc ∧ (winReservation s).st = s.st ∧ (winReservation s).mu = s.mu ∧
      (winReservation s).sp.mode = s.sp.mode ∧ (winReservation s).sp.front = s.sp.front ∧
      (winReservation s).lu = s.lu ∧ (winReservation s).freeCount = s.freeCount := by
  generalize h : winReservation s = t
  unfold winReservation at h
  try dsimp only at h
  (repeat' split at h) <;> (subst h; simp_all)

@[simp] theorem takeReserveReply_frame (number : Byte) (i : StockId) (r : ReserveResult) (source : Nat) (s : State) :
    (takeReserveReply number i r source s).pending = s.pending ∧
      (takeReserveReply number i r source s).time = s.time ∧
      (takeReserveReply number i r source s).cfg = s.cfg ∧
      (takeReserveReply number i r source s).flc.link = s.flc.link ∧
      (takeReserveReply number i r source s).pt = s.pt ∧ (takeReserveReply number i r source s).env = s.env ∧
      (takeReserveReply number i r source s).sq = s.sq ∧ (takeReserveReply number i r source s).rc = s.rc ∧
      (takeReserveReply number i r source s).lc = s.lc ∧ (takeReserveReply number i r source s).st = s.st ∧
      (takeReserveReply number i r source s).mu = s.mu ∧
      (takeReserveReply number i r source s).sp.mode = s.sp.mode ∧
      (takeReserveReply number i r source s).sp.front = s.sp.front ∧
      (takeReserveReply number i r source s).lu = s.lu ∧
      (takeReserveReply number i r source s).freeCount = s.freeCount := by
  generalize h : takeReserveReply number i r source s = t
  unfold takeReserveReply at h
  try dsimp only at h
  (repeat' split at h) <;> (subst h; simp_all)

end Sys2Proof.Machine
end

