-- ==== Sys2Proof/Laws/Events.lean ====
section
/-! SUPPORT. What move telegrams and line changes leave unchanged. -/

namespace Sys2Proof.Machine

@[simp] theorem takeCall_frame (tag : Byte) (call : Nat) (m : MoveInfo) (source : Nat) (s : State) :
    (takeCall tag call m source s).pending = s.pending ∧ (takeCall tag call m source s).time = s.time ∧
      (takeCall tag call m source s).cfg = s.cfg ∧ (takeCall tag call m source s).flc.link = s.flc.link ∧
      (takeCall tag call m source s).pt = s.pt ∧ (takeCall tag call m source s).env = s.env ∧
      (takeCall tag call m source s).sq = s.sq ∧ (takeCall tag call m source s).rc = s.rc ∧
      (takeCall tag call m source s).lc = s.lc ∧ (takeCall tag call m source s).st = s.st ∧
      (takeCall tag call m source s).su = s.su ∧ (takeCall tag call m source s).mu.queue = s.mu.queue ∧
      (takeCall tag call m source s).mu.moves = s.mu.moves ∧ (takeCall tag call m source s).sp = s.sp ∧
      (takeCall tag call m source s).lu = s.lu ∧ (takeCall tag call m source s).freeCount = s.freeCount := by
  generalize h : takeCall tag call m source s = t
  unfold takeCall at h
  try dsimp only at h
  (repeat' split at h) <;> (subst h; simp_all)

@[simp] theorem joinQueue_frame (tag : Byte) (m : MoveInfo) (source : Nat) (s : State) :
    (joinQueue tag m source s).pending = s.pending ∧ (joinQueue tag m source s).time = s.time ∧
      (joinQueue tag m source s).cfg = s.cfg ∧ (joinQueue tag m source s).flc = s.flc ∧
      (joinQueue tag m source s).pt = s.pt ∧ (joinQueue tag m source s).env = s.env ∧
      (joinQueue tag m source s).sq = s.sq ∧ (joinQueue tag m source s).rc = s.rc ∧
      (joinQueue tag m source s).lc = s.lc ∧ (joinQueue tag m source s).st = s.st ∧
      (joinQueue tag m source s).su = s.su ∧ (joinQueue tag m source s).mu.moves = s.mu.moves ∧
      (joinQueue tag m source s).sp.mode = s.sp.mode ∧ (joinQueue tag m source s).sp.front = s.sp.front ∧
      (joinQueue tag m source s).lu = s.lu ∧ (joinQueue tag m source s).freeCount = s.freeCount := by
  simp [joinQueue]

@[simp] theorem takeAward_frame (tag : Byte) (m : MoveInfo) (source : Nat) (s : State) :
    (takeAward tag m source s).pending = s.pending ∧ (takeAward tag m source s).time = s.time ∧
      (takeAward tag m source s).cfg = s.cfg ∧ (takeAward tag m source s).flc.link = s.flc.link ∧
      (takeAward tag m source s).pt = s.pt ∧ (takeAward tag m source s).env = s.env ∧
      (takeAward tag m source s).sq = s.sq ∧ (takeAward tag m source s).rc = s.rc ∧
      (takeAward tag m source s).lc = s.lc ∧ (takeAward tag m source s).st = s.st ∧
      (takeAward tag m source s).su = s.su ∧ (takeAward tag m source s).mu.moves = s.mu.moves ∧
      (takeAward tag m source s).sp.mode = s.sp.mode ∧ (takeAward tag m source s).sp.front = s.sp.front ∧
      (takeAward tag m source s).lu = s.lu ∧ (takeAward tag m source s).freeCount = s.freeCount := by
  generalize h : takeAward tag m source s = t
  unfold takeAward at h
  try dsimp only at h
  (repeat' split at h) <;> (subst h; simp_all)

@[simp] theorem takeRevoke_frame (tag : Byte) (source : Nat) (s : State) :
    (takeRevoke tag source s).pending = s.pending ∧ (takeRevoke tag source s).time = s.time ∧
      (takeRevoke tag source s).cfg = s.cfg ∧ (takeRevoke tag source s).flc.link = s.flc.link ∧
      (takeRevoke tag source s).pt = s.pt ∧ (takeRevoke tag source s).env = s.env ∧
      (takeRevoke tag source s).sq = s.sq ∧ (takeRevoke tag source s).rc = s.rc ∧
      (takeRevoke tag source s).lc = s.lc ∧ (takeRevoke tag source s).st = s.st ∧
      (takeRevoke tag source s).su = s.su ∧ (takeRevoke tag source s).mu.moves = s.mu.moves ∧
      (takeRevoke tag source s).sp.mode = s.sp.mode ∧ (takeRevoke tag source s).sp.front = s.sp.front ∧
      (takeRevoke tag source s).lu = s.lu ∧ (takeRevoke tag source s).freeCount = s.freeCount := by
  generalize h : takeRevoke tag source s = t
  unfold takeRevoke at h
  try dsimp only at h
  (repeat' split at h) <;> (subst h; simp_all)

@[simp] theorem ignoreBid_frame (s : State) :
    (ignoreBid s).pending = s.pending ∧ (ignoreBid s).time = s.time ∧ (ignoreBid s).cfg = s.cfg ∧
      (ignoreBid s).flc = s.flc ∧ (ignoreBid s).pt = s.pt ∧ (ignoreBid s).env = s.env ∧
      (ignoreBid s).sq = s.sq ∧ (ignoreBid s).rc = s.rc ∧ (ignoreBid s).lc = s.lc ∧ (ignoreBid s).st = s.st ∧
      (ignoreBid s).su = s.su ∧ (ignoreBid s).mu.queue = s.mu.queue ∧ (ignoreBid s).mu.moves = s.mu.moves ∧
      (ignoreBid s).sp = s.sp ∧ (ignoreBid s).lu = s.lu ∧ (ignoreBid s).freeCount = s.freeCount := by
  simp [ignoreBid]

@[simp] theorem takeMoveBid_frame (tag : Byte) (call bid source : Nat) (s : State) :
    (takeMoveBid tag call bid source s).pending = s.pending ∧
      (takeMoveBid tag call bid source s).time = s.time ∧ (takeMoveBid tag call bid source s).cfg = s.cfg ∧
      (takeMoveBid tag call bid source s).flc = s.flc ∧ (takeMoveBid tag call bid source s).pt = s.pt ∧
      (takeMoveBid tag call bid source s).env = s.env ∧ (takeMoveBid tag call bid source s).sq = s.sq ∧
      (takeMoveBid tag call bid source s).rc = s.rc ∧ (takeMoveBid tag call bid source s).lc = s.lc ∧
      (takeMoveBid tag call bid source s).st = s.st ∧ (takeMoveBid tag call bid source s).su = s.su ∧
      (takeMoveBid tag call bid source s).mu.queue = s.mu.queue ∧
      (takeMoveBid tag call bid source s).sp = s.sp ∧ (takeMoveBid tag call bid source s).lu = s.lu ∧
      (takeMoveBid tag call bid source s).freeCount = s.freeCount := by
  generalize h : takeMoveBid tag call bid source s = t
  unfold takeMoveBid at h
  try dsimp only at h
  (repeat' split at h) <;> (subst h; simp_all)

@[simp] theorem awardTaken_frame (n : Nat) (e : MoveEntry) (crane : Nat) (s : State) :
    (awardTaken n e crane s).pending = s.pending ∧ (awardTaken n e crane s).time = s.time ∧
      (awardTaken n e crane s).cfg = s.cfg ∧ (awardTaken n e crane s).flc = s.flc ∧
      (awardTaken n e crane s).pt = s.pt ∧ (awardTaken n e crane s).env = s.env ∧
      (awardTaken n e crane s).sq = s.sq ∧ (awardTaken n e crane s).rc = s.rc ∧
      (awardTaken n e crane s).lc = s.lc ∧ (awardTaken n e crane s).st = s.st ∧
      (awardTaken n e crane s).su = s.su ∧ (awardTaken n e crane s).mu.queue = s.mu.queue ∧
      (awardTaken n e crane s).sp.mode = s.sp.mode ∧ (awardTaken n e crane s).sp.front = s.sp.front ∧
      (awardTaken n e crane s).lu = s.lu ∧ (awardTaken n e crane s).freeCount = s.freeCount := by
  simp [awardTaken]

@[simp] theorem takeAwardReply_frame (tag : Byte) (taken : Bool) (source : Nat) (s : State) :
    (takeAwardReply tag taken source s).pending = s.pending ∧
      (takeAwardReply tag taken source s).time = s.time ∧ (takeAwardReply tag taken source s).cfg = s.cfg ∧
      (takeAwardReply tag taken source s).flc.link = s.flc.link ∧
      (takeAwardReply tag taken source s).pt = s.pt ∧ (takeAwardReply tag taken source s).env = s.env ∧
      (takeAwardReply tag taken source s).sq = s.sq ∧ (takeAwardReply tag taken source s).rc = s.rc ∧
      (takeAwardReply tag taken source s).lc = s.lc ∧ (takeAwardReply tag taken source s).st = s.st ∧
      (takeAwardReply tag taken source s).su = s.su ∧
      (takeAwardReply tag taken source s).mu.queue = s.mu.queue ∧
      (takeAwardReply tag taken source s).sp.mode = s.sp.mode ∧
      (takeAwardReply tag taken source s).sp.front = s.sp.front ∧
      (takeAwardReply tag taken source s).lu = s.lu ∧
      (takeAwardReply tag taken source s).freeCount = s.freeCount := by
  generalize h : takeAwardReply tag taken source s = t
  unfold takeAwardReply at h
  try dsimp only at h
  (repeat' split at h) <;> (subst h; simp_all)

@[simp] theorem takeStarted_frame (tag : Byte) (source : Nat) (s : State) :
    (takeStarted tag source s).pending = s.pending ∧ (takeStarted tag source s).time = s.time ∧
      (takeStarted tag source s).cfg = s.cfg ∧ (takeStarted tag source s).flc.link = s.flc.link ∧
      (takeStarted tag source s).pt = s.pt ∧ (takeStarted tag source s).env = s.env ∧
      (takeStarted tag source s).sq = s.sq ∧ (takeStarted tag source s).rc = s.rc ∧
      (takeStarted tag source s).lc = s.lc ∧ (takeStarted tag source s).st = s.st ∧
      (takeStarted tag source s).su = s.su ∧ (takeStarted tag source s).mu.queue = s.mu.queue ∧
      (takeStarted tag source s).sp.mode = s.sp.mode ∧ (takeStarted tag source s).sp.front = s.sp.front ∧
      (takeStarted tag source s).lu = s.lu ∧ (takeStarted tag source s).freeCount = s.freeCount := by
  generalize h : takeStarted tag source s = t
  unfold takeStarted at h
  try dsimp only at h
  (repeat' split at h) <;> (subst h; simp_all)

@[simp] theorem takeDone_frame (tag : Byte) (carried : Bool) (taker : Option Nat) (source : Nat) (s : State) :
    (takeDone tag carried taker source s).pending = s.pending ∧
      (takeDone tag carried taker source s).time = s.time ∧ (takeDone tag carried taker source s).cfg = s.cfg ∧
      (takeDone tag carried taker source s).flc.link = s.flc.link ∧
      (takeDone tag carried taker source s).pt = s.pt ∧ (takeDone tag carried taker source s).env = s.env ∧
      (takeDone tag carried taker source s).sq = s.sq ∧ (takeDone tag carried taker source s).rc = s.rc ∧
      (takeDone tag carried taker source s).lc = s.lc ∧ (takeDone tag carried taker source s).st = s.st ∧
      (takeDone tag carried taker source s).su = s.su ∧
      (takeDone tag carried taker source s).mu.queue = s.mu.queue ∧
      (takeDone tag carried taker source s).sp.mode = s.sp.mode ∧
      (takeDone tag carried taker source s).sp.front = s.sp.front ∧
      (takeDone tag carried taker source s).lu = s.lu ∧
      (takeDone tag carried taker source s).freeCount = s.freeCount := by
  generalize h : takeDone tag carried taker source s = t
  unfold takeDone at h
  try dsimp only at h
  (repeat' split at h) <;> (subst h; simp_all)

@[simp] theorem takeReturn_frame (tag : Byte) (source : Nat) (s : State) :
    (takeReturn tag source s).pending = s.pending ∧ (takeReturn tag source s).time = s.time ∧
      (takeReturn tag source s).cfg = s.cfg ∧ (takeReturn tag source s).flc.link = s.flc.link ∧
      (takeReturn tag source s).pt = s.pt ∧ (takeReturn tag source s).env = s.env ∧
      (takeReturn tag source s).sq = s.sq ∧ (takeReturn tag source s).rc = s.rc ∧
      (takeReturn tag source s).lc = s.lc ∧ (takeReturn tag source s).st = s.st ∧
      (takeReturn tag source s).su = s.su ∧ (takeReturn tag source s).mu.queue = s.mu.queue ∧
      (takeReturn tag source s).sp.mode = s.sp.mode ∧ (takeReturn tag source s).sp.front = s.sp.front ∧
      (takeReturn tag source s).lu = s.lu ∧ (takeReturn tag source s).freeCount = s.freeCount := by
  generalize h : takeReturn tag source s = t
  unfold takeReturn at h
  try dsimp only at h
  (repeat' split at h) <;> (subst h; simp_all)

@[simp] theorem takeRevokeReply_frame (tag : Byte) (late : Bool) (source : Nat) (s : State) :
    (takeRevokeReply tag late source s).pending = s.pending ∧
      (takeRevokeReply tag late source s).time = s.time ∧ (takeRevokeReply tag late source s).cfg = s.cfg ∧
      (takeRevokeReply tag late source s).flc.link = s.flc.link ∧
      (takeRevokeReply tag late source s).pt = s.pt ∧ (takeRevokeReply tag late source s).env = s.env ∧
      (takeRevokeReply tag late source s).sq = s.sq ∧ (takeRevokeReply tag late source s).rc = s.rc ∧
      (takeRevokeReply tag late source s).lc = s.lc ∧ (takeRevokeReply tag late source s).st = s.st ∧
      (takeRevokeReply tag late source s).su = s.su ∧
      (takeRevokeReply tag late source s).mu.queue = s.mu.queue ∧
      (takeRevokeReply tag late source s).sp.mode = s.sp.mode ∧
      (takeRevokeReply tag late source s).sp.front = s.sp.front ∧
      (takeRevokeReply tag late source s).lu = s.lu ∧
      (takeRevokeReply tag late source s).freeCount = s.freeCount := by
  generalize h : takeRevokeReply tag late source s = t
  unfold takeRevokeReply at h
  try dsimp only at h
  (repeat' split at h) <;> (subst h; simp_all)

@[simp] theorem estopOn_frame (s : State) :
    (estopOn s).pending = s.pending ∧ (estopOn s).time = s.time ∧ (estopOn s).cfg = s.cfg ∧
      (estopOn s).flc.link = s.flc.link ∧ (estopOn s).env.own = s.env.own ∧ (estopOn s).su = s.su ∧
      (estopOn s).mu.queue = s.mu.queue ∧ (estopOn s).mu.moves = s.mu.moves ∧
      (estopOn s).sp.front = s.sp.front ∧ (estopOn s).lu.estop = s.lu.estop ∧
      (estopOn s).lu.loadAttached = s.lu.loadAttached ∧ (estopOn s).freeCount = s.freeCount := by
  generalize h : estopOn s = t
  unfold estopOn at h
  try dsimp only at h
  (repeat' split at h) <;> (subst h; simp_all)

@[simp] theorem estopOff_frame (s : State) :
    (estopOff s).pending = s.pending ∧ (estopOff s).time = s.time ∧ (estopOff s).cfg = s.cfg ∧
      (estopOff s).flc.link = s.flc.link ∧ (estopOff s).env.own = s.env.own ∧ (estopOff s).su = s.su ∧
      (estopOff s).mu.queue = s.mu.queue ∧ (estopOff s).mu.moves = s.mu.moves ∧
      (estopOff s).sp.front = s.sp.front ∧ (estopOff s).lu.estop = s.lu.estop ∧
      (estopOff s).lu.loadAttached = s.lu.loadAttached ∧ (estopOff s).freeCount = s.freeCount := by
  generalize h : estopOff s = t
  unfold estopOff at h
  try dsimp only at h
  (repeat' split at h) <;> (subst h; simp_all)

@[simp] theorem loadRises_frame (s : State) :
    (loadRises s).pending = s.pending ∧ (loadRises s).time = s.time ∧ (loadRises s).cfg = s.cfg ∧
      (loadRises s).flc.link = s.flc.link ∧ (loadRises s).pt = s.pt ∧ (loadRises s).env = s.env ∧
      (loadRises s).sq = s.sq ∧ (loadRises s).rc = s.rc ∧ (loadRises s).lc = s.lc ∧ (loadRises s).su = s.su ∧
      (loadRises s).mu.moves = s.mu.moves ∧ (loadRises s).sp.mode = s.sp.mode ∧
      (loadRises s).sp.front = s.sp.front ∧ (loadRises s).lu = s.lu := by
  unfold loadRises unordered
  dsimp only
  (repeat' split) <;> simp

@[simp] theorem offerFromHook_frame (n : Nat) (r : StockRecord) (dest : Nat) (s : State) :
    (offerFromHook n r dest s).pending = s.pending ∧ (offerFromHook n r dest s).time = s.time ∧
      (offerFromHook n r dest s).cfg = s.cfg ∧ (offerFromHook n r dest s).flc.link = s.flc.link ∧
      (offerFromHook n r dest s).pt = s.pt ∧ (offerFromHook n r dest s).env = s.env ∧
      (offerFromHook n r dest s).sq = s.sq ∧ (offerFromHook n r dest s).rc = s.rc ∧
      (offerFromHook n r dest s).lc = s.lc ∧ (offerFromHook n r dest s).su = s.su ∧
      (offerFromHook n r dest s).mu = s.mu ∧ (offerFromHook n r dest s).sp.mode = s.sp.mode ∧
      (offerFromHook n r dest s).sp.front = s.sp.front ∧ (offerFromHook n r dest s).lu = s.lu ∧
      (offerFromHook n r dest s).freeCount = s.freeCount := by
  generalize h : offerFromHook n r dest s = t
  unfold offerFromHook at h
  try dsimp only at h
  (repeat' split at h) <;> (subst h; simp_all)

@[simp] theorem loadFalls_frame (s : State) :
    (loadFalls s).pending = s.pending ∧ (loadFalls s).time = s.time ∧ (loadFalls s).cfg = s.cfg ∧
      (loadFalls s).flc.link = s.flc.link ∧ (loadFalls s).pt = s.pt ∧ (loadFalls s).env = s.env ∧
      (loadFalls s).sq = s.sq ∧ (loadFalls s).rc = s.rc ∧ (loadFalls s).lc = s.lc ∧ (loadFalls s).su = s.su ∧
      (loadFalls s).mu = s.mu ∧ (loadFalls s).sp.mode = s.sp.mode ∧ (loadFalls s).sp.front = s.sp.front ∧
      (loadFalls s).lu = s.lu ∧ (loadFalls s).freeCount = s.freeCount := by
  generalize h : loadFalls s = t
  unfold loadFalls at h
  try dsimp only at h
  (repeat' split at h) <;> (subst h; simp_all)

end Sys2Proof.Machine
end

