-- ==== Sys2Proof/Laws/Requests.lean ====
section
/-! SUPPORT. What the owners of the requests leave unchanged, and when an operand of a MOVE_REQUEST is present and a request is read whole. -/

namespace Sys2Proof.Machine

@[simp] theorem refuse_frame (r : ResultCode) (s : State) :
    ((refuse r s).1).pending = s.pending ∧ ((refuse r s).1).time = s.time ∧ ((refuse r s).1).cfg = s.cfg ∧
      ((refuse r s).1).flc = s.flc ∧ ((refuse r s).1).pt = s.pt ∧ ((refuse r s).1).env = s.env ∧
      ((refuse r s).1).sq = s.sq ∧ ((refuse r s).1).rc = s.rc ∧ ((refuse r s).1).lc = s.lc ∧
      ((refuse r s).1).st = s.st ∧ ((refuse r s).1).su = s.su ∧ ((refuse r s).1).mu = s.mu ∧
      ((refuse r s).1).sp = s.sp ∧ ((refuse r s).1).lu = s.lu ∧ ((refuse r s).1).freeCount = s.freeCount := by
  simp [refuse]

@[simp] theorem answerOk_frame (s : State) :
    ((answerOk s).1).pending = s.pending ∧ ((answerOk s).1).time = s.time ∧ ((answerOk s).1).cfg = s.cfg ∧
      ((answerOk s).1).flc = s.flc ∧ ((answerOk s).1).pt = s.pt ∧ ((answerOk s).1).env = s.env ∧
      ((answerOk s).1).sq = s.sq ∧ ((answerOk s).1).rc = s.rc ∧ ((answerOk s).1).lc = s.lc ∧
      ((answerOk s).1).st = s.st ∧ ((answerOk s).1).su = s.su ∧ ((answerOk s).1).mu = s.mu ∧
      ((answerOk s).1).sp = s.sp ∧ ((answerOk s).1).lu = s.lu ∧ ((answerOk s).1).freeCount = s.freeCount := by
  simp [answerOk]

@[simp] theorem acceptRecord_frame (r : SegRecord) (s : State) :
    ((acceptRecord r s).1).pending = s.pending ∧ ((acceptRecord r s).1).time = s.time ∧
      ((acceptRecord r s).1).cfg = s.cfg ∧ ((acceptRecord r s).1).flc.link = s.flc.link ∧
      ((acceptRecord r s).1).env.own = s.env.own ∧ ((acceptRecord r s).1).su = s.su ∧
      ((acceptRecord r s).1).mu.queue = s.mu.queue ∧ ((acceptRecord r s).1).mu.moves = s.mu.moves ∧
      ((acceptRecord r s).1).sp.front = s.sp.front ∧ ((acceptRecord r s).1).lu.estop = s.lu.estop ∧
      ((acceptRecord r s).1).lu.loadAttached = s.lu.loadAttached ∧
      ((acceptRecord r s).1).freeCount = s.freeCount := by
  simp [acceptRecord]

@[simp] theorem lockStream_frame (reason : LockReason) (h : SegHeader) (s : State) :
    ((lockStream reason h s).1).pending = s.pending ∧ ((lockStream reason h s).1).time = s.time ∧
      ((lockStream reason h s).1).cfg = s.cfg ∧ ((lockStream reason h s).1).flc = s.flc ∧
      ((lockStream reason h s).1).pt = s.pt ∧ ((lockStream reason h s).1).env = s.env ∧
      ((lockStream reason h s).1).rc = s.rc ∧ ((lockStream reason h s).1).lc = s.lc ∧
      ((lockStream reason h s).1).st = s.st ∧ ((lockStream reason h s).1).su = s.su ∧
      ((lockStream reason h s).1).mu = s.mu ∧ ((lockStream reason h s).1).sp.mode = s.sp.mode ∧
      ((lockStream reason h s).1).sp.front = s.sp.front ∧ ((lockStream reason h s).1).lu = s.lu ∧
      ((lockStream reason h s).1).freeCount = s.freeCount := by
  simp [lockStream]

@[simp] theorem seekDiscard_frame (s : State) :
    ((seekDiscard s).1).pending = s.pending ∧ ((seekDiscard s).1).time = s.time ∧
      ((seekDiscard s).1).cfg = s.cfg ∧ ((seekDiscard s).1).flc = s.flc ∧ ((seekDiscard s).1).pt = s.pt ∧
      ((seekDiscard s).1).env = s.env ∧ ((seekDiscard s).1).rc = s.rc ∧ ((seekDiscard s).1).lc = s.lc ∧
      ((seekDiscard s).1).st = s.st ∧ ((seekDiscard s).1).su = s.su ∧ ((seekDiscard s).1).mu = s.mu ∧
      ((seekDiscard s).1).sp = s.sp ∧ ((seekDiscard s).1).lu = s.lu ∧
      ((seekDiscard s).1).freeCount = s.freeCount := by
  simp [seekDiscard]

@[simp] theorem admitRecord_frame (h : SegHeader) (bs : List Byte) (s : State) :
    ((admitRecord h bs s).1).pending = s.pending ∧ ((admitRecord h bs s).1).time = s.time ∧
      ((admitRecord h bs s).1).cfg = s.cfg ∧ ((admitRecord h bs s).1).flc.link = s.flc.link ∧
      ((admitRecord h bs s).1).env.own = s.env.own ∧ ((admitRecord h bs s).1).su = s.su ∧
      ((admitRecord h bs s).1).mu.queue = s.mu.queue ∧ ((admitRecord h bs s).1).mu.moves = s.mu.moves ∧
      ((admitRecord h bs s).1).sp.front = s.sp.front ∧ ((admitRecord h bs s).1).lu.estop = s.lu.estop ∧
      ((admitRecord h bs s).1).lu.loadAttached = s.lu.loadAttached ∧
      ((admitRecord h bs s).1).freeCount = s.freeCount := by
  generalize h : (admitRecord h bs s).1 = t
  unfold admitRecord at h
  try dsimp only at h
  (repeat' split at h) <;> (subst h; simp_all)

@[simp] theorem useHeader_frame (bs : List Byte) (s : State) :
    (useHeader bs s).pending = s.pending ∧ (useHeader bs s).time = s.time ∧ (useHeader bs s).cfg = s.cfg ∧
      (useHeader bs s).flc = s.flc ∧ (useHeader bs s).pt = s.pt ∧ (useHeader bs s).env = s.env ∧
      (useHeader bs s).sq = s.sq ∧ (useHeader bs s).rc = s.rc ∧ (useHeader bs s).lc = s.lc ∧
      (useHeader bs s).st = s.st ∧ (useHeader bs s).su = s.su ∧ (useHeader bs s).mu = s.mu ∧
      (useHeader bs s).sp = s.sp ∧ (useHeader bs s).lu = s.lu := by
  generalize h : useHeader bs s = t
  unfold useHeader at h
  try dsimp only at h
  (repeat' split at h) <;> (subst h; simp_all)

@[simp] theorem takeSegment_frame (bs : List Byte) (s : State) :
    ((takeSegment bs s).1).pending = s.pending ∧ ((takeSegment bs s).1).time = s.time ∧
      ((takeSegment bs s).1).cfg = s.cfg ∧ ((takeSegment bs s).1).flc.link = s.flc.link ∧
      ((takeSegment bs s).1).env.own = s.env.own ∧ ((takeSegment bs s).1).su = s.su ∧
      ((takeSegment bs s).1).mu.queue = s.mu.queue ∧ ((takeSegment bs s).1).mu.moves = s.mu.moves ∧
      ((takeSegment bs s).1).sp.front = s.sp.front ∧ ((takeSegment bs s).1).lu.estop = s.lu.estop ∧
      ((takeSegment bs s).1).lu.loadAttached = s.lu.loadAttached := by
  generalize h : (takeSegment bs s).1 = t
  unfold takeSegment at h
  try dsimp only at h
  (repeat' split at h) <;> (subst h; simp_all)

@[simp] theorem takeFlush_frame (s : State) :
    (takeFlush s).pending = s.pending ∧ (takeFlush s).time = s.time ∧ (takeFlush s).cfg = s.cfg ∧
      (takeFlush s).flc.link = s.flc.link ∧ (takeFlush s).env.own = s.env.own ∧ (takeFlush s).su = s.su ∧
      (takeFlush s).mu.queue = s.mu.queue ∧ (takeFlush s).mu.moves = s.mu.moves ∧
      (takeFlush s).sp.front = s.sp.front ∧ (takeFlush s).lu.estop = s.lu.estop ∧
      (takeFlush s).lu.loadAttached = s.lu.loadAttached ∧ (takeFlush s).freeCount = s.freeCount := by
  generalize h : takeFlush s = t
  unfold takeFlush at h
  try dsimp only at h
  (repeat' split at h) <;> (subst h; simp_all)

@[simp] theorem flushQueue_frame (after : SegQueue → SegQueue) (s : State) :
    ((flushQueue after s).1).pending = s.pending ∧ ((flushQueue after s).1).time = s.time ∧
      ((flushQueue after s).1).cfg = s.cfg ∧ ((flushQueue after s).1).flc.link = s.flc.link ∧
      ((flushQueue after s).1).env.own = s.env.own ∧ ((flushQueue after s).1).su = s.su ∧
      ((flushQueue after s).1).mu.queue = s.mu.queue ∧ ((flushQueue after s).1).mu.moves = s.mu.moves ∧
      ((flushQueue after s).1).sp.front = s.sp.front ∧ ((flushQueue after s).1).lu.estop = s.lu.estop ∧
      ((flushQueue after s).1).lu.loadAttached = s.lu.loadAttached ∧
      ((flushQueue after s).1).freeCount = s.freeCount := by
  simp [flushQueue]

@[simp] theorem takeDoneReport_frame (seq : Seq) (k ms : Nat) (s : State) :
    ((takeDoneReport seq k ms s).1).pending = s.pending ∧ ((takeDoneReport seq k ms s).1).time = s.time ∧
      ((takeDoneReport seq k ms s).1).cfg = s.cfg ∧ ((takeDoneReport seq k ms s).1).flc.link = s.flc.link ∧
      ((takeDoneReport seq k ms s).1).env.own = s.env.own ∧ ((takeDoneReport seq k ms s).1).su = s.su ∧
      ((takeDoneReport seq k ms s).1).mu.queue = s.mu.queue ∧
      ((takeDoneReport seq k ms s).1).mu.moves = s.mu.moves ∧
      ((takeDoneReport seq k ms s).1).sp.front = s.sp.front ∧
      ((takeDoneReport seq k ms s).1).lu.estop = s.lu.estop ∧
      ((takeDoneReport seq k ms s).1).lu.loadAttached = s.lu.loadAttached ∧
      ((takeDoneReport seq k ms s).1).freeCount = s.freeCount := by
  unfold takeDoneReport
  split <;> simp [answerOk, refuse]

@[simp] theorem takeAbort_frame (seq : Seq) (k ms : Nat) (s : State) :
    ((takeAbort seq k ms s).1).pending = s.pending ∧ ((takeAbort seq k ms s).1).time = s.time ∧
      ((takeAbort seq k ms s).1).cfg = s.cfg ∧ ((takeAbort seq k ms s).1).flc.link = s.flc.link ∧
      ((takeAbort seq k ms s).1).env.own = s.env.own ∧ ((takeAbort seq k ms s).1).su = s.su ∧
      ((takeAbort seq k ms s).1).mu.queue = s.mu.queue ∧ ((takeAbort seq k ms s).1).mu.moves = s.mu.moves ∧
      ((takeAbort seq k ms s).1).sp.front = s.sp.front ∧ ((takeAbort seq k ms s).1).lu.estop = s.lu.estop ∧
      ((takeAbort seq k ms s).1).lu.loadAttached = s.lu.loadAttached ∧
      ((takeAbort seq k ms s).1).freeCount = s.freeCount := by
  unfold takeAbort
  (repeat' split) <;> simp [answerOk, refuse]

@[simp] theorem haltCurrent_frame (c : Current) (ms : Nat) (s : State) :
    (haltCurrent c ms s).pending = s.pending ∧ (haltCurrent c ms s).time = s.time ∧
      (haltCurrent c ms s).cfg = s.cfg ∧ (haltCurrent c ms s).flc.link = s.flc.link ∧
      (haltCurrent c ms s).env.own = s.env.own ∧ (haltCurrent c ms s).su = s.su ∧
      (haltCurrent c ms s).mu.queue = s.mu.queue ∧ (haltCurrent c ms s).mu.moves = s.mu.moves ∧
      (haltCurrent c ms s).sp.front = s.sp.front ∧ (haltCurrent c ms s).lu.estop = s.lu.estop ∧
      (haltCurrent c ms s).lu.loadAttached = s.lu.loadAttached ∧ (haltCurrent c ms s).freeCount = s.freeCount := by
  generalize h : haltCurrent c ms s = t
  unfold haltCurrent at h
  try dsimp only at h
  (repeat' split at h) <;> (subst h; simp_all)

@[simp] theorem takeHalt_frame (seq : Seq) (k ms : Nat) (s : State) :
    ((takeHalt seq k ms s).1).pending = s.pending ∧ ((takeHalt seq k ms s).1).time = s.time ∧
      ((takeHalt seq k ms s).1).cfg = s.cfg ∧ ((takeHalt seq k ms s).1).flc.link = s.flc.link ∧
      ((takeHalt seq k ms s).1).env.own = s.env.own ∧ ((takeHalt seq k ms s).1).su = s.su ∧
      ((takeHalt seq k ms s).1).mu.queue = s.mu.queue ∧ ((takeHalt seq k ms s).1).mu.moves = s.mu.moves ∧
      ((takeHalt seq k ms s).1).sp.front = s.sp.front ∧ ((takeHalt seq k ms s).1).lu.estop = s.lu.estop ∧
      ((takeHalt seq k ms s).1).lu.loadAttached = s.lu.loadAttached ∧
      ((takeHalt seq k ms s).1).freeCount = s.freeCount := by
  unfold takeHalt
  split <;> simp [answerOk, refuse]

@[simp] theorem discardFaulted_frame (s : State) :
    (discardFaulted s).pending = s.pending ∧ (discardFaulted s).time = s.time ∧
      (discardFaulted s).cfg = s.cfg ∧ (discardFaulted s).flc.link = s.flc.link ∧
      (discardFaulted s).env.own = s.env.own ∧ (discardFaulted s).su = s.su ∧
      (discardFaulted s).mu.queue = s.mu.queue ∧ (discardFaulted s).mu.moves = s.mu.moves ∧
      (discardFaulted s).sp.front = s.sp.front ∧ (discardFaulted s).lu.estop = s.lu.estop ∧
      (discardFaulted s).lu.loadAttached = s.lu.loadAttached ∧ (discardFaulted s).freeCount = s.freeCount := by
  generalize h : discardFaulted s = t
  unfold discardFaulted at h
  try dsimp only at h
  (repeat' split at h) <;> (subst h; simp_all)

@[simp] theorem takeContinue_frame (s : State) :
    ((takeContinue s).1).pending = s.pending ∧ ((takeContinue s).1).time = s.time ∧
      ((takeContinue s).1).cfg = s.cfg ∧ ((takeContinue s).1).flc.link = s.flc.link ∧
      ((takeContinue s).1).env.own = s.env.own ∧ ((takeContinue s).1).su = s.su ∧
      ((takeContinue s).1).mu.queue = s.mu.queue ∧ ((takeContinue s).1).mu.moves = s.mu.moves ∧
      ((takeContinue s).1).sp.front = s.sp.front ∧ ((takeContinue s).1).lu.estop = s.lu.estop ∧
      ((takeContinue s).1).lu.loadAttached = s.lu.loadAttached ∧ ((takeContinue s).1).freeCount = s.freeCount := by
  unfold takeContinue
  split <;> simp [answerOk, refuse]

@[simp] theorem restoreWear_frame (p ms : Nat) (s : State) :
    (restoreWear p ms s).pending = s.pending ∧ (restoreWear p ms s).time = s.time ∧
      (restoreWear p ms s).cfg = s.cfg ∧ (restoreWear p ms s).flc.link = s.flc.link ∧
      (restoreWear p ms s).env.own = s.env.own ∧ (restoreWear p ms s).su = s.su ∧
      (restoreWear p ms s).mu.queue = s.mu.queue ∧ (restoreWear p ms s).mu.moves = s.mu.moves ∧
      (restoreWear p ms s).sp.front = s.sp.front ∧ (restoreWear p ms s).lu.estop = s.lu.estop ∧
      (restoreWear p ms s).lu.loadAttached = s.lu.loadAttached ∧ (restoreWear p ms s).freeCount = s.freeCount := by
  generalize h : restoreWear p ms s = t
  unfold restoreWear at h
  try dsimp only at h
  (repeat' split at h) <;> (subst h; simp_all)

@[simp] theorem takeWearRestore_frame (p ms : Nat) (s : State) :
    ((takeWearRestore p ms s).1).pending = s.pending ∧ ((takeWearRestore p ms s).1).time = s.time ∧
      ((takeWearRestore p ms s).1).cfg = s.cfg ∧ ((takeWearRestore p ms s).1).flc.link = s.flc.link ∧
      ((takeWearRestore p ms s).1).env.own = s.env.own ∧ ((takeWearRestore p ms s).1).su = s.su ∧
      ((takeWearRestore p ms s).1).mu.queue = s.mu.queue ∧ ((takeWearRestore p ms s).1).mu.moves = s.mu.moves ∧
      ((takeWearRestore p ms s).1).sp.front = s.sp.front ∧ ((takeWearRestore p ms s).1).lu.estop = s.lu.estop ∧
      ((takeWearRestore p ms s).1).lu.loadAttached = s.lu.loadAttached ∧
      ((takeWearRestore p ms s).1).freeCount = s.freeCount := by
  unfold takeWearRestore
  split <;> simp [answerOk, refuse]

@[simp] theorem takeConsumable_frame (s : State) :
    ((takeConsumable s).1).pending = s.pending ∧ ((takeConsumable s).1).time = s.time ∧
      ((takeConsumable s).1).cfg = s.cfg ∧ ((takeConsumable s).1).flc.link = s.flc.link ∧
      ((takeConsumable s).1).env.own = s.env.own ∧ ((takeConsumable s).1).su = s.su ∧
      ((takeConsumable s).1).mu.queue = s.mu.queue ∧ ((takeConsumable s).1).mu.moves = s.mu.moves ∧
      ((takeConsumable s).1).sp.front = s.sp.front ∧ ((takeConsumable s).1).lu.estop = s.lu.estop ∧
      ((takeConsumable s).1).lu.loadAttached = s.lu.loadAttached ∧
      ((takeConsumable s).1).freeCount = s.freeCount := by
  unfold takeConsumable
  split <;> simp [answerOk, refuse]

@[simp] theorem takeDeclare_frame (suits : Bool) (record : List Byte) (location : Option LocationKind) (slot : Nat) (s : State) :
    ((takeDeclare suits record location slot s).1).pending = s.pending ∧
      ((takeDeclare suits record location slot s).1).time = s.time ∧
      ((takeDeclare suits record location slot s).1).cfg = s.cfg ∧
      ((takeDeclare suits record location slot s).1).flc = s.flc ∧
      ((takeDeclare suits record location slot s).1).pt = s.pt ∧
      ((takeDeclare suits record location slot s).1).env = s.env ∧
      ((takeDeclare suits record location slot s).1).sq = s.sq ∧
      ((takeDeclare suits record location slot s).1).rc = s.rc ∧
      ((takeDeclare suits record location slot s).1).lc = s.lc ∧
      ((takeDeclare suits record location slot s).1).su = s.su ∧
      ((takeDeclare suits record location slot s).1).mu = s.mu ∧
      ((takeDeclare suits record location slot s).1).sp = s.sp ∧
      ((takeDeclare suits record location slot s).1).lu = s.lu ∧
      ((takeDeclare suits record location slot s).1).freeCount = s.freeCount := by
  unfold takeDeclare judge
  (repeat' split) <;> simp [answerOk, refuse, enterDeclared]

@[simp] theorem takeHandOff_frame (suits : Bool) (i : StockId) (taker : Nat) (s : State) :
    ((takeHandOff suits i taker s).1).pending = s.pending ∧ ((takeHandOff suits i taker s).1).time = s.time ∧
      ((takeHandOff suits i taker s).1).cfg = s.cfg ∧ ((takeHandOff suits i taker s).1).flc.link = s.flc.link ∧
      ((takeHandOff suits i taker s).1).pt = s.pt ∧ ((takeHandOff suits i taker s).1).env = s.env ∧
      ((takeHandOff suits i taker s).1).sq = s.sq ∧ ((takeHandOff suits i taker s).1).rc = s.rc ∧
      ((takeHandOff suits i taker s).1).lc = s.lc ∧ ((takeHandOff suits i taker s).1).su = s.su ∧
      ((takeHandOff suits i taker s).1).mu = s.mu ∧ ((takeHandOff suits i taker s).1).sp = s.sp ∧
      ((takeHandOff suits i taker s).1).lu = s.lu ∧ ((takeHandOff suits i taker s).1).freeCount = s.freeCount := by
  unfold takeHandOff
  dsimp only
  (repeat' split) <;> simp [answerOk, refuse]

@[simp] theorem takeConfirm_frame (suits : Bool) (i : StockId) (s : State) :
    ((takeConfirm suits i s).1).pending = s.pending ∧ ((takeConfirm suits i s).1).time = s.time ∧
      ((takeConfirm suits i s).1).cfg = s.cfg ∧ ((takeConfirm suits i s).1).flc = s.flc ∧
      ((takeConfirm suits i s).1).pt = s.pt ∧ ((takeConfirm suits i s).1).env = s.env ∧
      ((takeConfirm suits i s).1).sq = s.sq ∧ ((takeConfirm suits i s).1).rc = s.rc ∧
      ((takeConfirm suits i s).1).lc = s.lc ∧ ((takeConfirm suits i s).1).su = s.su ∧
      ((takeConfirm suits i s).1).mu = s.mu ∧ ((takeConfirm suits i s).1).sp = s.sp ∧
      ((takeConfirm suits i s).1).lu = s.lu ∧ ((takeConfirm suits i s).1).freeCount = s.freeCount := by
  unfold takeConfirm
  (repeat' split) <;> simp [answerOk, refuse]

@[simp] theorem confirmRequest_frame (n : Nat) (o : HeldOffer) (loc : Location) (s : State) :
    ((confirmRequest n o loc s).1).pending = s.pending ∧ ((confirmRequest n o loc s).1).time = s.time ∧
      ((confirmRequest n o loc s).1).cfg = s.cfg ∧ ((confirmRequest n o loc s).1).flc.link = s.flc.link ∧
      ((confirmRequest n o loc s).1).pt = s.pt ∧ ((confirmRequest n o loc s).1).env = s.env ∧
      ((confirmRequest n o loc s).1).sq = s.sq ∧ ((confirmRequest n o loc s).1).rc = s.rc ∧
      ((confirmRequest n o loc s).1).lc = s.lc ∧ ((confirmRequest n o loc s).1).su = s.su ∧
      ((confirmRequest n o loc s).1).mu.moves = s.mu.moves ∧
      ((confirmRequest n o loc s).1).sp.mode = s.sp.mode ∧
      ((confirmRequest n o loc s).1).sp.front = s.sp.front ∧ ((confirmRequest n o loc s).1).lu = s.lu ∧
      ((confirmRequest n o loc s).1).freeCount = s.freeCount := by
  have j := confirmOffer_frame n o loc s
  unfold confirmRequest
  split <;> simp_all [answerOk, refuse]

@[simp] theorem takeBedLoaded_frame (i : StockId) (s : State) :
    ((takeBedLoaded i s).1).pending = s.pending ∧ ((takeBedLoaded i s).1).time = s.time ∧
      ((takeBedLoaded i s).1).cfg = s.cfg ∧ ((takeBedLoaded i s).1).flc.link = s.flc.link ∧
      ((takeBedLoaded i s).1).pt = s.pt ∧ ((takeBedLoaded i s).1).env = s.env ∧
      ((takeBedLoaded i s).1).sq = s.sq ∧ ((takeBedLoaded i s).1).rc = s.rc ∧
      ((takeBedLoaded i s).1).lc = s.lc ∧ ((takeBedLoaded i s).1).su = s.su ∧
      ((takeBedLoaded i s).1).mu.moves = s.mu.moves ∧ ((takeBedLoaded i s).1).sp.mode = s.sp.mode ∧
      ((takeBedLoaded i s).1).sp.front = s.sp.front ∧ ((takeBedLoaded i s).1).lu = s.lu ∧
      ((takeBedLoaded i s).1).freeCount = s.freeCount := by
  unfold takeBedLoaded
  (repeat' split) <;> simp [refuse]

@[simp] theorem takePlaced_frame (i : StockId) (slot : Nat) (s : State) :
    ((takePlaced i slot s).1).pending = s.pending ∧ ((takePlaced i slot s).1).time = s.time ∧
      ((takePlaced i slot s).1).cfg = s.cfg ∧ ((takePlaced i slot s).1).flc.link = s.flc.link ∧
      ((takePlaced i slot s).1).pt = s.pt ∧ ((takePlaced i slot s).1).env = s.env ∧
      ((takePlaced i slot s).1).sq = s.sq ∧ ((takePlaced i slot s).1).rc = s.rc ∧
      ((takePlaced i slot s).1).lc = s.lc ∧ ((takePlaced i slot s).1).su = s.su ∧
      ((takePlaced i slot s).1).mu.moves = s.mu.moves ∧ ((takePlaced i slot s).1).sp.mode = s.sp.mode ∧
      ((takePlaced i slot s).1).sp.front = s.sp.front ∧ ((takePlaced i slot s).1).lu = s.lu ∧
      ((takePlaced i slot s).1).freeCount = s.freeCount := by
  unfold takePlaced
  (repeat' split) <;> simp [refuse]

@[simp] theorem takeLock_frame (n : Nat) (s : State) :
    ((takeLock n s).1).pending = s.pending ∧ ((takeLock n s).1).time = s.time ∧
      ((takeLock n s).1).cfg = s.cfg ∧ ((takeLock n s).1).flc = s.flc ∧ ((takeLock n s).1).pt = s.pt ∧
      ((takeLock n s).1).env = s.env ∧ ((takeLock n s).1).sq = s.sq ∧ ((takeLock n s).1).rc = s.rc ∧
      ((takeLock n s).1).lc = s.lc ∧ ((takeLock n s).1).su = s.su ∧ ((takeLock n s).1).mu = s.mu ∧
      ((takeLock n s).1).sp = s.sp ∧ ((takeLock n s).1).lu = s.lu ∧ ((takeLock n s).1).freeCount = s.freeCount := by
  unfold takeLock
  (repeat' split) <;> simp [answerOk, refuse]

@[simp] theorem takeUnlock_frame (n : Nat) (s : State) :
    ((takeUnlock n s).1).pending = s.pending ∧ ((takeUnlock n s).1).time = s.time ∧
      ((takeUnlock n s).1).cfg = s.cfg ∧ ((takeUnlock n s).1).flc = s.flc ∧ ((takeUnlock n s).1).pt = s.pt ∧
      ((takeUnlock n s).1).env = s.env ∧ ((takeUnlock n s).1).sq = s.sq ∧ ((takeUnlock n s).1).rc = s.rc ∧
      ((takeUnlock n s).1).lc = s.lc ∧ ((takeUnlock n s).1).su = s.su ∧ ((takeUnlock n s).1).mu = s.mu ∧
      ((takeUnlock n s).1).sp = s.sp ∧ ((takeUnlock n s).1).lu = s.lu ∧
      ((takeUnlock n s).1).freeCount = s.freeCount := by
  unfold takeUnlock
  (repeat' split) <;> simp [answerOk, refuse]

@[simp] theorem sendQuery_frame (q : QueryFields) (s : State) :
    ((sendQuery q s).1).pending = s.pending ∧ ((sendQuery q s).1).time = s.time ∧
      ((sendQuery q s).1).cfg = s.cfg ∧ ((sendQuery q s).1).flc.link = s.flc.link ∧
      ((sendQuery q s).1).pt = s.pt ∧ ((sendQuery q s).1).env = s.env ∧ ((sendQuery q s).1).sq = s.sq ∧
      ((sendQuery q s).1).rc = s.rc ∧ ((sendQuery q s).1).lc = s.lc ∧ ((sendQuery q s).1).st = s.st ∧
      ((sendQuery q s).1).mu = s.mu ∧ ((sendQuery q s).1).sp = s.sp ∧ ((sendQuery q s).1).lu = s.lu ∧
      ((sendQuery q s).1).freeCount = s.freeCount := by
  generalize h : (sendQuery q s).1 = t
  unfold sendQuery at h
  try dsimp only at h
  (repeat' split at h) <;> (subst h; simp_all)

@[simp] theorem takeQueryStock_frame (suits : Bool) (q : QueryFields) (s : State) :
    ((takeQueryStock suits q s).1).pending = s.pending ∧ ((takeQueryStock suits q s).1).time = s.time ∧
      ((takeQueryStock suits q s).1).cfg = s.cfg ∧ ((takeQueryStock suits q s).1).flc.link = s.flc.link ∧
      ((takeQueryStock suits q s).1).pt = s.pt ∧ ((takeQueryStock suits q s).1).env = s.env ∧
      ((takeQueryStock suits q s).1).sq = s.sq ∧ ((takeQueryStock suits q s).1).rc = s.rc ∧
      ((takeQueryStock suits q s).1).lc = s.lc ∧ ((takeQueryStock suits q s).1).st = s.st ∧
      ((takeQueryStock suits q s).1).mu = s.mu ∧ ((takeQueryStock suits q s).1).sp = s.sp ∧
      ((takeQueryStock suits q s).1).lu = s.lu ∧ ((takeQueryStock suits q s).1).freeCount = s.freeCount := by
  unfold takeQueryStock
  (repeat' split) <;> simp [refuse]

@[simp] theorem cancelReserving_frame (s : State) :
    (cancelReserving s).pending = s.pending ∧ (cancelReserving s).time = s.time ∧
      (cancelReserving s).cfg = s.cfg ∧ (cancelReserving s).flc.link = s.flc.link ∧
      (cancelReserving s).pt = s.pt ∧ (cancelReserving s).env = s.env ∧ (cancelReserving s).sq = s.sq ∧
      (cancelReserving s).rc = s.rc ∧ (cancelReserving s).lc = s.lc ∧ (cancelReserving s).st = s.st ∧
      (cancelReserving s).mu = s.mu ∧ (cancelReserving s).sp = s.sp ∧ (cancelReserving s).lu = s.lu ∧
      (cancelReserving s).freeCount = s.freeCount := by
  generalize h : cancelReserving s = t
  unfold cancelReserving at h
  try dsimp only at h
  (repeat' split at h) <;> (subst h; simp_all)

@[simp] theorem takeCancelQuery_frame (s : State) :
    ((takeCancelQuery s).1).pending = s.pending ∧ ((takeCancelQuery s).1).time = s.time ∧
      ((takeCancelQuery s).1).cfg = s.cfg ∧ ((takeCancelQuery s).1).flc.link = s.flc.link ∧
      ((takeCancelQuery s).1).pt = s.pt ∧ ((takeCancelQuery s).1).env = s.env ∧
      ((takeCancelQuery s).1).sq = s.sq ∧ ((takeCancelQuery s).1).rc = s.rc ∧
      ((takeCancelQuery s).1).lc = s.lc ∧ ((takeCancelQuery s).1).st = s.st ∧
      ((takeCancelQuery s).1).mu = s.mu ∧ ((takeCancelQuery s).1).sp = s.sp ∧
      ((takeCancelQuery s).1).lu = s.lu ∧ ((takeCancelQuery s).1).freeCount = s.freeCount := by
  unfold takeCancelQuery
  (repeat' split) <;> simp [answerOk, refuse]

@[simp] theorem openMove_frame (info : MoveInfo) (s : State) :
    ((openMove info s).1).pending = s.pending ∧ ((openMove info s).1).time = s.time ∧
      ((openMove info s).1).cfg = s.cfg ∧ ((openMove info s).1).flc.link = s.flc.link ∧
      ((openMove info s).1).pt = s.pt ∧ ((openMove info s).1).env = s.env ∧ ((openMove info s).1).sq = s.sq ∧
      ((openMove info s).1).rc = s.rc ∧ ((openMove info s).1).lc = s.lc ∧ ((openMove info s).1).st = s.st ∧
      ((openMove info s).1).su = s.su ∧ ((openMove info s).1).mu.queue = s.mu.queue ∧
      ((openMove info s).1).sp.mode = s.sp.mode ∧ ((openMove info s).1).sp.front = s.sp.front ∧
      ((openMove info s).1).lu = s.lu ∧ ((openMove info s).1).freeCount = s.freeCount := by
  generalize h : (openMove info s).1 = t
  unfold openMove at h
  try dsimp only at h
  (repeat' split at h) <;> (subst h; simp_all)

@[simp] theorem takeMoveRequest_frame (suits : Bool) (m : MoveFields) (s : State) :
    ((takeMoveRequest suits m s).1).pending = s.pending ∧ ((takeMoveRequest suits m s).1).time = s.time ∧
      ((takeMoveRequest suits m s).1).cfg = s.cfg ∧ ((takeMoveRequest suits m s).1).flc.link = s.flc.link ∧
      ((takeMoveRequest suits m s).1).pt = s.pt ∧ ((takeMoveRequest suits m s).1).env = s.env ∧
      ((takeMoveRequest suits m s).1).sq = s.sq ∧ ((takeMoveRequest suits m s).1).rc = s.rc ∧
      ((takeMoveRequest suits m s).1).lc = s.lc ∧ ((takeMoveRequest suits m s).1).st = s.st ∧
      ((takeMoveRequest suits m s).1).su = s.su ∧ ((takeMoveRequest suits m s).1).mu.queue = s.mu.queue ∧
      ((takeMoveRequest suits m s).1).sp.mode = s.sp.mode ∧
      ((takeMoveRequest suits m s).1).sp.front = s.sp.front ∧ ((takeMoveRequest suits m s).1).lu = s.lu ∧
      ((takeMoveRequest suits m s).1).freeCount = s.freeCount := by
  unfold takeMoveRequest judge
  (repeat' split) <;> simp [refuse]

@[simp] theorem cancelUnanswered_frame (n : Nat) (e : MoveEntry) (s : State) :
    (cancelUnanswered n e s).pending = s.pending ∧ (cancelUnanswered n e s).time = s.time ∧
      (cancelUnanswered n e s).cfg = s.cfg ∧ (cancelUnanswered n e s).flc = s.flc ∧
      (cancelUnanswered n e s).pt = s.pt ∧ (cancelUnanswered n e s).env = s.env ∧
      (cancelUnanswered n e s).sq = s.sq ∧ (cancelUnanswered n e s).rc = s.rc ∧
      (cancelUnanswered n e s).lc = s.lc ∧ (cancelUnanswered n e s).st = s.st ∧
      (cancelUnanswered n e s).su = s.su ∧ (cancelUnanswered n e s).mu.queue = s.mu.queue ∧
      (cancelUnanswered n e s).sp.mode = s.sp.mode ∧ (cancelUnanswered n e s).sp.front = s.sp.front ∧
      (cancelUnanswered n e s).lu = s.lu ∧ (cancelUnanswered n e s).freeCount = s.freeCount := by
  simp [cancelUnanswered]

@[simp] theorem cancelAwarded_frame (n : Nat) (e : MoveEntry) (crane : Nat) (s : State) :
    (cancelAwarded n e crane s).pending = s.pending ∧ (cancelAwarded n e crane s).time = s.time ∧
      (cancelAwarded n e crane s).cfg = s.cfg ∧ (cancelAwarded n e crane s).flc.link = s.flc.link ∧
      (cancelAwarded n e crane s).pt = s.pt ∧ (cancelAwarded n e crane s).env = s.env ∧
      (cancelAwarded n e crane s).sq = s.sq ∧ (cancelAwarded n e crane s).rc = s.rc ∧
      (cancelAwarded n e crane s).lc = s.lc ∧ (cancelAwarded n e crane s).st = s.st ∧
      (cancelAwarded n e crane s).su = s.su ∧ (cancelAwarded n e crane s).mu.queue = s.mu.queue ∧
      (cancelAwarded n e crane s).sp.mode = s.sp.mode ∧ (cancelAwarded n e crane s).sp.front = s.sp.front ∧
      (cancelAwarded n e crane s).lu = s.lu ∧ (cancelAwarded n e crane s).freeCount = s.freeCount := by
  generalize h : cancelAwarded n e crane s = t
  unfold cancelAwarded at h
  try dsimp only at h
  (repeat' split at h) <;> (subst h; simp_all)

@[simp] theorem cancelLive_frame (n : Nat) (e : MoveEntry) (s : State) :
    (cancelLive n e s).pending = s.pending ∧ (cancelLive n e s).time = s.time ∧
      (cancelLive n e s).cfg = s.cfg ∧ (cancelLive n e s).flc.link = s.flc.link ∧
      (cancelLive n e s).pt = s.pt ∧ (cancelLive n e s).env = s.env ∧ (cancelLive n e s).sq = s.sq ∧
      (cancelLive n e s).rc = s.rc ∧ (cancelLive n e s).lc = s.lc ∧ (cancelLive n e s).st = s.st ∧
      (cancelLive n e s).su = s.su ∧ (cancelLive n e s).mu.queue = s.mu.queue ∧
      (cancelLive n e s).sp.mode = s.sp.mode ∧ (cancelLive n e s).sp.front = s.sp.front ∧
      (cancelLive n e s).lu = s.lu ∧ (cancelLive n e s).freeCount = s.freeCount := by
  generalize h : cancelLive n e s = t
  unfold cancelLive at h
  try dsimp only at h
  (repeat' split at h) <;> (subst h; simp_all)

@[simp] theorem takeCancelMove_frame (tag : Byte) (s : State) :
    ((takeCancelMove tag s).1).pending = s.pending ∧ ((takeCancelMove tag s).1).time = s.time ∧
      ((takeCancelMove tag s).1).cfg = s.cfg ∧ ((takeCancelMove tag s).1).flc.link = s.flc.link ∧
      ((takeCancelMove tag s).1).pt = s.pt ∧ ((takeCancelMove tag s).1).env = s.env ∧
      ((takeCancelMove tag s).1).sq = s.sq ∧ ((takeCancelMove tag s).1).rc = s.rc ∧
      ((takeCancelMove tag s).1).lc = s.lc ∧ ((takeCancelMove tag s).1).st = s.st ∧
      ((takeCancelMove tag s).1).su = s.su ∧ ((takeCancelMove tag s).1).mu.queue = s.mu.queue ∧
      ((takeCancelMove tag s).1).sp.mode = s.sp.mode ∧ ((takeCancelMove tag s).1).sp.front = s.sp.front ∧
      ((takeCancelMove tag s).1).lu = s.lu ∧ ((takeCancelMove tag s).1).freeCount = s.freeCount := by
  unfold takeCancelMove
  (repeat' split) <;> simp [answerOk, refuse]

@[simp] theorem takeMoveFinish_frame (s : State) :
    ((takeMoveFinish s).1).pending = s.pending ∧ ((takeMoveFinish s).1).time = s.time ∧
      ((takeMoveFinish s).1).cfg = s.cfg ∧ ((takeMoveFinish s).1).flc.link = s.flc.link ∧
      ((takeMoveFinish s).1).env.own = s.env.own ∧ ((takeMoveFinish s).1).su = s.su ∧
      ((takeMoveFinish s).1).mu.moves = s.mu.moves ∧ ((takeMoveFinish s).1).sp.front = s.sp.front ∧
      ((takeMoveFinish s).1).lu.estop = s.lu.estop ∧
      ((takeMoveFinish s).1).lu.loadAttached = s.lu.loadAttached ∧
      ((takeMoveFinish s).1).freeCount = s.freeCount := by
  unfold takeMoveFinish
  (repeat' split) <;> simp [answerOk, refuse]

@[simp] theorem takePosition_frame (v : PositionFields) (s : State) :
    ((takePosition v s).1).pending = s.pending ∧ ((takePosition v s).1).time = s.time ∧
      ((takePosition v s).1).cfg = s.cfg ∧ ((takePosition v s).1).flc.link = s.flc.link ∧
      ((takePosition v s).1).pt = s.pt ∧ ((takePosition v s).1).sq = s.sq ∧ ((takePosition v s).1).rc = s.rc ∧
      ((takePosition v s).1).lc = s.lc ∧ ((takePosition v s).1).st = s.st ∧ ((takePosition v s).1).su = s.su ∧
      ((takePosition v s).1).mu.queue = s.mu.queue ∧ ((takePosition v s).1).mu.moves = s.mu.moves ∧
      ((takePosition v s).1).sp = s.sp ∧ ((takePosition v s).1).lu.estop = s.lu.estop ∧
      ((takePosition v s).1).lu.loadAttached = s.lu.loadAttached ∧
      ((takePosition v s).1).freeCount = s.freeCount := by
  unfold takePosition answerOk
  dsimp only
  split <;> simp

@[simp] theorem leaveRun_frame (s : State) :
    ((leaveRun s).1).pending = s.pending ∧ ((leaveRun s).1).time = s.time ∧ ((leaveRun s).1).cfg = s.cfg ∧
      ((leaveRun s).1).flc.link = s.flc.link ∧ ((leaveRun s).1).env.own = s.env.own ∧
      ((leaveRun s).1).su = s.su ∧ ((leaveRun s).1).mu.moves = s.mu.moves ∧
      ((leaveRun s).1).sp.front = s.sp.front ∧ ((leaveRun s).1).lu.estop = s.lu.estop ∧
      ((leaveRun s).1).lu.loadAttached = s.lu.loadAttached ∧ ((leaveRun s).1).freeCount = s.freeCount := by
  generalize h : (leaveRun s).1 = t
  unfold leaveRun at h
  try dsimp only at h
  (repeat' split at h) <;> (subst h; simp_all)

@[simp] theorem takeSetMode_frame (target : Mode) (s : State) :
    ((takeSetMode target s).1).pending = s.pending ∧ ((takeSetMode target s).1).time = s.time ∧
      ((takeSetMode target s).1).cfg = s.cfg ∧ ((takeSetMode target s).1).flc.link = s.flc.link ∧
      ((takeSetMode target s).1).env.own = s.env.own ∧ ((takeSetMode target s).1).su = s.su ∧
      ((takeSetMode target s).1).mu.moves = s.mu.moves ∧ ((takeSetMode target s).1).sp.front = s.sp.front ∧
      ((takeSetMode target s).1).lu.estop = s.lu.estop ∧
      ((takeSetMode target s).1).lu.loadAttached = s.lu.loadAttached ∧
      ((takeSetMode target s).1).freeCount = s.freeCount := by
  unfold takeSetMode
  dsimp only
  (repeat' split) <;> simp [modeDone, refuse]

@[simp] theorem judgeSetMode_frame (suits : Bool) (target : Option Mode) (s : State) :
    ((judgeSetMode suits target s).1).pending = s.pending ∧ ((judgeSetMode suits target s).1).time = s.time ∧
      ((judgeSetMode suits target s).1).cfg = s.cfg ∧ ((judgeSetMode suits target s).1).flc.link = s.flc.link ∧
      ((judgeSetMode suits target s).1).env.own = s.env.own ∧ ((judgeSetMode suits target s).1).su = s.su ∧
      ((judgeSetMode suits target s).1).mu.moves = s.mu.moves ∧
      ((judgeSetMode suits target s).1).sp.front = s.sp.front ∧
      ((judgeSetMode suits target s).1).lu.estop = s.lu.estop ∧
      ((judgeSetMode suits target s).1).lu.loadAttached = s.lu.loadAttached ∧
      ((judgeSetMode suits target s).1).freeCount = s.freeCount := by
  unfold judgeSetMode
  (repeat' split) <;> simp [refuse]

@[simp] theorem takeStatus_frame (suits : Bool) (s : State) :
    ((takeStatus suits s).1).pending = s.pending ∧ ((takeStatus suits s).1).time = s.time ∧
      ((takeStatus suits s).1).cfg = s.cfg ∧ ((takeStatus suits s).1).flc = s.flc ∧
      ((takeStatus suits s).1).pt = s.pt ∧ ((takeStatus suits s).1).env = s.env ∧
      ((takeStatus suits s).1).sq = s.sq ∧ ((takeStatus suits s).1).rc = s.rc ∧
      ((takeStatus suits s).1).lc = s.lc ∧ ((takeStatus suits s).1).st = s.st ∧
      ((takeStatus suits s).1).su = s.su ∧ ((takeStatus suits s).1).mu = s.mu ∧
      ((takeStatus suits s).1).sp = s.sp ∧ ((takeStatus suits s).1).lu = s.lu ∧
      ((takeStatus suits s).1).freeCount = s.freeCount := by
  unfold takeStatus
  split <;> simp [refuse]

@[simp] theorem takeReadTable_frame (suits : Bool) (t : Option TableName) (i : Nat) (s : State) :
    ((takeReadTable suits t i s).1).pending = s.pending ∧ ((takeReadTable suits t i s).1).time = s.time ∧
      ((takeReadTable suits t i s).1).cfg = s.cfg ∧ ((takeReadTable suits t i s).1).flc = s.flc ∧
      ((takeReadTable suits t i s).1).pt = s.pt ∧ ((takeReadTable suits t i s).1).env = s.env ∧
      ((takeReadTable suits t i s).1).sq = s.sq ∧ ((takeReadTable suits t i s).1).rc = s.rc ∧
      ((takeReadTable suits t i s).1).lc = s.lc ∧ ((takeReadTable suits t i s).1).st = s.st ∧
      ((takeReadTable suits t i s).1).su = s.su ∧ ((takeReadTable suits t i s).1).mu = s.mu ∧
      ((takeReadTable suits t i s).1).sp = s.sp ∧ ((takeReadTable suits t i s).1).lu = s.lu ∧
      ((takeReadTable suits t i s).1).freeCount = s.freeCount := by
  unfold takeReadTable
  (repeat' split) <;> simp [refuse]

/-! ### Frames (R183) and absent fields (R181) -/

@[simp] theorem lengthFrame_length (body : List Byte) : (lengthFrame body).length = body.length + 1 := rfl

/-- The length byte counts the bytes after itself. -/
@[simp] theorem lengthFrame_count (body : List Byte) : fieldNat (lengthFrame body) 0 1 = body.length % 256 := by
  simp [fieldNat, lengthFrame, leNat]

@[simp] theorem readWhole_iff (a : PortAnswer) (n : Nat) :
    a.readWhole n = true ↔ 1 + fieldNat a.frame 0 1 ≤ n := by simp [PortAnswer.readWhole]

@[simp] theorem presentFields_kind (m : MoveFields) : (presentFields m).kind = m.kind := rfl
@[simp] theorem presentFields_fromStation (m : MoveFields) : (presentFields m).fromStation = m.fromStation := rfl
@[simp] theorem presentFields_toStation (m : MoveFields) : (presentFields m).toStation = m.toStation := rfl
@[simp] theorem presentFields_priority (m : MoveFields) : (presentFields m).priority = m.priority := rfl

/-- A request that writes no present field as 0 is taken as it stands. -/
theorem presentFields_of_present (m : MoveFields) (hs : m.stock ≠ some ⟨0, 0⟩) (hf : m.fromX ≠ some 0)
    (ht : m.toX ≠ some 0) : presentFields m = m := by
  obtain ⟨kind, stock, fromStation, fromX, toStation, toX, priority⟩ := m
  cases stock <;> cases fromX <;> cases toX <;> simp_all [presentFields, Option.filter]

/-! ### The operation byte -/

/-- An operation is read back from its byte (R183). -/
@[simp] theorem readOperation_code (o : Operation) : readOperation o.code = some o := by
  cases o <;> decide

/-- Every byte but the three of R183 makes a transaction void (R168). -/
theorem readOperation_eq_none (b : Byte) : readOperation b = none ↔ ∀ o : Operation, b ≠ o.code := by
  unfold readOperation
  rw [List.find?_eq_none]
  constructor
  · intro h o e
    have hm : o ∈ [Operation.writeRequest, .readReply, .readNotice] := by cases o <;> decide
    exact h o hm (decide_eq_true e.symm)
  · intro h o _ e
    exact h o (of_decide_eq_true e).symm

end Sys2Proof.Machine
end

