-- ==== Sys2Proof/Laws/State.lean ====
section
/-! SUPPORT. What each named update of the state writes, true by `rfl`, and the bounds of the held counts. What the
updates leave unchanged stands in the frame lemmas of the other files of this folder. -/

namespace Sys2Proof.Machine

/-! ### Held counts, ages and tables -/

theorem bump_le (n : Nat) : bump n ≤ 65535 := Nat.min_le_right _ _

theorem bumpBy_le (k n : Nat) : bumpBy k n ≤ 65535 := Nat.min_le_right _ _

theorem ageOf_le (now since : Count) : ageOf now since ≤ 65535 := Nat.min_le_right _ _

theorem bump_eq {n : Nat} (h : n < 65535) : bump n = n + 1 := Nat.min_eq_left h

@[simp] theorem elapsed_self (now : Count) : elapsed now now = 0 := by simp [elapsed]

@[simp] theorem modifyAt_length {α : Type} (l : List (Option α)) (n : Nat) (f : α → α) :
    (modifyAt l n f).length = l.length := List.length_modify ..

/-- Changing the entry of a position that holds one writes the changed entry there. -/
theorem modifyAt_eq {α : Type} {l : List (Option α)} {n : Nat} {r : α} (h : entryAt l n = some r) (f : α → α) :
    modifyAt l n f = l.set n (some (f r)) := by
  unfold entryAt at h
  have hl : l[n]? = some (some r) := by cases h' : l[n]? <;> simp_all
  apply List.ext_getElem?
  intro k
  by_cases hk : n = k
  · subst hk
    obtain ⟨hn, hv⟩ := List.getElem?_eq_some_iff.1 hl
    simp [modifyAt, hn, hv]
  · simp [modifyAt, hk]

/-- A stock ID is found at a position whose record bears it (R117). -/
theorem find_id {t : Stock} {i : StockId} {n : Nat} {r : StockRecord} (h : t.find i = some n)
    (hr : entryAt t.records n = some r) : r.piece.id = i := by
  unfold Stock.find findPos at h
  rw [List.findIdx?_eq_some_iff_getElem] at h
  obtain ⟨hn, h1, _⟩ := h
  unfold entryAt at hr
  rw [List.getElem?_eq_getElem hn] at hr
  cases h' : t.records[n] <;> simp_all

/-! ### What the named updates write -/

@[simp] theorem withFlc_flc (f : Flc → Flc) (s : State) : (withFlc f s).flc = f s.flc := rfl

@[simp] theorem withSearch_su (f : Search → Search) (s : State) : (withSearch f s).su = f s.su := rfl

@[simp] theorem countPeer_pt (f : PeerTable → PeerTable) (s : State) : (countPeer f s).pt = f s.pt := rfl

@[simp] theorem countLink_counts (f : LinkCounts → LinkCounts) (s : State) :
    (countLink f s).flc.counts = f s.flc.counts := rfl

@[simp] theorem countMove_counts (f : MoveCounts → MoveCounts) (s : State) :
    (countMove f s).mu.counts = f s.mu.counts := rfl

@[simp] theorem countSearch_search (f : SearchCounts → SearchCounts) (s : State) :
    (countSearch f s).st.search = f s.st.search := rfl

@[simp] theorem ignoreCustody_ignored (s : State) : (ignoreCustody s).st.ignored = bump s.st.ignored := rfl

@[simp] theorem putPeer_entries (n : Nat) (e : Option PeerEntry) (s : State) :
    (putPeer n e s).pt.entries = s.pt.entries.set n e := rfl

@[simp] theorem putMove_moves (n : Nat) (e : MoveEntry) (s : State) :
    (putMove n e s).mu.moves = s.mu.moves.set n (some e) := rfl

@[simp] theorem shiftOut_output (b : Byte) (a : PortAnswer) (s : State) : (shiftOut b a s).sp.output = ⟨b, a⟩ := rfl

@[simp] theorem shiftOut_buffer (b : Byte) (a : PortAnswer) (s : State) : (shiftOut b a s).sp.buffer = s.sp.buffer :=
  rfl

@[simp] theorem begun_number (s : State) : s.begun.sp.number = s.sp.number + 1 := rfl

@[simp] theorem begun_taken (s : State) : s.begun.sp.taken = bump s.sp.taken := rfl

@[simp] theorem begun_buffer (s : State) : s.begun.sp.buffer = s.sp.buffer := rfl

@[simp] theorem begun_notices (s : State) : s.begun.sp.notices = s.sp.notices := rfl

@[simp] theorem begun_mode (s : State) : s.begun.sp.mode = s.sp.mode := rfl

@[simp] theorem replied_buffer (s : State) (code : RequestCode) (r : ResultCode) (d : ReplyData) (t : State) :
    (s.replied code r d t).sp.buffer = t.sp.buffer ++ [⟨s.sp.number, code, r, d⟩] := rfl

@[simp] theorem replied_output (s : State) (code : RequestCode) (r : ResultCode) (d : ReplyData) (t : State) :
    (s.replied code r d t).sp.output = ⟨s.statusByte, .take .taken s.sp.number⟩ := rfl

@[simp] theorem replied_mode (s : State) (code : RequestCode) (r : ResultCode) (d : ReplyData) (t : State) :
    (s.replied code r d t).sp.mode = t.sp.mode := rfl

@[simp] theorem heard_received (s : State) : s.heard.flc.counts.received = bump s.flc.counts.received := rfl

@[simp] theorem heard_link (s : State) : s.heard.flc.link = s.flc.link := rfl

@[simp] theorem setQueue_queueOf (f : Flc) (c : TxClass) (q : List Queued) : (f.setQueue c q).queueOf c = q := by
  cases c <;> rfl

theorem setQueue_queueOf_other (f : Flc) {c d : TxClass} (q : List Queued) (h : d ≠ c) :
    (f.setQueue c q).queueOf d = f.queueOf d := by
  cases c <;> cases d <;> first | rfl | exact absurd rfl h

/-! ### All that the shared operations can do -/

/-- Offering a message: isolated, it is discarded and counted; with a bad destination it is refused; with its class
full it is refused and counted; otherwise it joins the end of its class (R42). The Bool says that it was refused. -/
theorem offer_cases (d : Nat) (m : Message) (s : State) :
    ((∃ c, s.flc.link = .isolated c) ∧ offer d m s = (countLink (fun c =>
        { c with isolationDiscards := bump c.isolationDiscards }) s, false))
      ∨ (s.flc.link = .normal ∧ goodDestination s.cfg.params.station d m = false ∧ offer d m s = (s, true))
      ∨ (s.flc.link = .normal ∧ 8 ≤ (s.flc.queueOf m.txClass).length
          ∧ offer d m s = (countLink (fun c => { c with refused := bump c.refused }) s, true))
      ∨ (s.linkTakes d m ∧ offer d m s = ({ s with flc := s.flc.sending d m }, false)) := by
  unfold offer State.linkTakes
  dsimp only
  split
  · exact .inl ⟨⟨_, ‹_›⟩, rfl⟩
  · split
    · exact .inr (.inl ⟨‹_›, by simp_all, rfl⟩)
    · split
      · exact .inr (.inr (.inl ⟨‹_›, ‹_›, rfl⟩))
      · exact .inr (.inr (.inr ⟨⟨‹_›, by simp_all, by omega⟩, rfl⟩))

/-- A notice joins the queue, or is counted as lost (R170). -/
theorem raise_cases (d : NoticeData) (s : State) :
    (s.sp.notices.length < 32 ∧ raise d s = { s with sp := { s.sp with notices := s.sp.notices ++ [⟨s.time, d⟩] } })
      ∨ (32 ≤ s.sp.notices.length ∧ raise d s = { s with sp := { s.sp with lost := min (s.sp.lost + 1) 255 } }) := by
  unfold raise
  split
  · exact .inl ⟨‹_›, rfl⟩
  · exact .inr ⟨by omega, rfl⟩

/-- A message that the link takes joins the end of its class, and nothing else changes (R42). -/
theorem offer_taken {s : State} {d : Nat} {m : Message} (h : s.linkTakes d m) :
    offer d m s = ({ s with flc := s.flc.sending d m }, false) := by
  obtain ⟨h1, h2, h3⟩ := h
  simp [offer, h1, h2, Flc.sending, Nat.not_le.2 h3]

/-- Hearing a telegram does not change what the link takes. -/
theorem heard_linkTakes {s : State} {d : Nat} {m : Message} : s.heard.linkTakes d m = s.linkTakes d m := by
  unfold State.linkTakes State.heard
  cases h : m.txClass <;> simp [Flc.queueOf]

/-- A telegram that passes the checks of R40 is counted and delivered. -/
theorem receiveKind_delivers {s : State} {k : TelegramKind} {t : Telegram} (h : s.delivers k t)
    (act : State → State) : receiveKind k act t s = act s.heard := by
  obtain ⟨h1, h2, h3, h4, h5, h6, h7⟩ := h
  have h4' : ¬ (60 < t.payload.length) := by omega
  simp [receiveKind, receive, h1, h2, h3, h5, h6, h7, countLink, State.heard]
  simp only [← h3]
  simp [h4']

/-- A message that is heard is acted on (R41, R182). -/
theorem receiveKind_hears {s : State} {t : Telegram} {m : Message} (h : s.hearsMessage t m) (ignore : State → State)
    (act : Message → State → State) :
    receiveKind m.kind (takeMessage m.kind t ignore act) t s = act m s.heard := by
  rw [receiveKind_delivers h.1, takeMessage, h.2]

/-- A custody message sent to this station is acted on; sent to a group it is counted and ignored. -/
theorem receiveKind_custody {s : State} {t : Telegram} {m : Message} (h : s.hearsMessage t m)
    (act : Message → State → State) :
    receiveKind m.kind (takeCustody m.kind t act) t s =
      if t.dest.toNat = s.cfg.params.station then act m s.heard else ignoreCustody s.heard := by
  rw [receiveKind_delivers h.1, takeCustody]
  have hs : s.heard.cfg.params.station = s.cfg.params.station := rfl
  rw [hs, takeMessage, h.2]

/-- A request is a frame error, is turned away with one count, or is taken (R168, R169; logs 22 and 23). -/
theorem request_cases (length : Byte) (cut inFault : Bool) (code : RequestCode) (act : State → State × Answer)
    (s : State) :
    (frameBad length cut = true ∧ request length cut inFault code act s = frameError s)
      ∨ (4 ≤ s.sp.buffer.length ∧ request length cut inFault code act s =
          turnAway .bufferFull { s with sp := { s.sp with bufferFull := bump s.sp.bufferFull } })
      ∨ (s.isLoaded = false ∧ request length cut inFault code act s =
          turnAway .notLoaded { s with sp := { s.sp with notLoaded := bump s.sp.notLoaded } })
      ∨ (frameBad length cut = false ∧ s.sp.buffer.length < 4
          ∧ (s.isLoaded = true ∨ (inFault = true ∧ s.cfg.load = .configFault))
          ∧ request length cut inFault code act s = takenRequest code act s) := by
  unfold request
  split
  · exact .inl ⟨‹_›, rfl⟩
  · split
    · exact .inr (.inl ⟨‹_›, rfl⟩)
    · split
      · exact .inr (.inr (.inr ⟨by simp_all, by omega, by simpa using ‹_›, rfl⟩))
      · rename_i h
        refine .inr (.inr (.inl ⟨?_, rfl⟩))
        cases hl : s.isLoaded <;> simp_all

end Sys2Proof.Machine
end

