-- ==== Sys2Proof/WellFormed.lean ====
section
/-! DEFINITION. Which commands can come from outside: their operands fit the fields the manual gives them. The meanings
do not assume it. -/

namespace Sys2Proof

open Sys2Proof.Machine

/-- A complete telegram carries at most 60 payload characters (R38). -/
def Telegram.wellFormed (t : Telegram) : Bool := decide (t.payload.length ≤ 60)

/-- A stock ID fits its 3 bytes (R181). -/
def StockId.wellFormed (i : StockId) : Bool := decide (i.origin < 256) && decide (i.serial < 65536)

/-- No more bytes are clocked in than the length byte says (R168). -/
def RawWrite.wellFormed (w : RawWrite) : Bool := decide (w.bytes.length ≤ w.length.toNat)

/-- The fields of a query fit their bytes (R182). -/
def QueryFields.wellFormed (q : QueryFields) : Bool :=
  decide (q.grade < 256) && decide (q.mask < 256) && decide (q.thickness < 65536) && decide (q.minLength < 65536)
    && decide (q.minWidth < 65536)

/-- The fields of a move fit their bytes, and an absent one is none: its bytes are 0 (R181, R182). -/
def MoveFields.wellFormed (m : MoveFields) : Bool :=
  m.stock.all (fun i => i.wellFormed && decide (i ≠ ⟨0, 0⟩)) && decide (m.fromStation < 256)
    && m.fromX.all (inRange 1 16777215) && decide (m.toStation < 256) && m.toX.all (inRange 1 16777215)
    && decide (m.priority < 256)

/-- A sequence, copy index and arc time fit their fields (R59, R87). -/
def reportFits (copy arcMs : Nat) : Bool := decide (copy < 256) && decide (arcMs < 4294967296)

/-- A command whose operands fit their fields. -/
def Instr.wellFormed : Instr → Bool
  | .powerOn => true
  | .timeBaseTick => true
  | .i2cTransferDone _ _ => true
  | .agingStep => true
  | .beaconTimerExpiry => true
  | .urgentSpacingExpiry => true
  | .attemptStart => true
  | .attemptClean => true
  | .attemptCollided => true
  | .backoffEnd => true
  | .jabberLimit => true
  | .probeTimerExpiry => true
  | .probeStart => true
  | .telegramFramingError => true
  | .beaconCutter t => t.wellFormed
  | .beaconCrane t => t.wellFormed
  | .beaconRack t => t.wellFormed
  | .custodyOffer t => t.wellFormed
  | .custodyAccept t => t.wellFormed
  | .custodyRelease t => t.wellFormed
  | .custodyRefuse t => t.wellFormed
  | .stockQuery t => t.wellFormed
  | .stockCandidate t => t.wellFormed
  | .reserve t => t.wellFormed
  | .reserveReply t => t.wellFormed
  | .unreserve t => t.wellFormed
  | .moveCall t => t.wellFormed
  | .moveBid t => t.wellFormed
  | .moveAward t => t.wellFormed
  | .awardReply t => t.wellFormed
  | .moveRevoke t => t.wellFormed
  | .revokeReply t => t.wellFormed
  | .moveStarted t => t.wellFormed
  | .moveReturn t => t.wellFormed
  | .moveDone t => t.wellFormed
  | .estopAsserted => true
  | .estopReleased => true
  | .loadAttachedRises => true
  | .loadAttachedFalls => true
  | .inFlightTimeout => true
  | .haltTimeout => true
  | .resumeTimerExpiry => true
  | .offerTimeout n => decide (n < 96)
  | .heldOfferExpiry n => decide (n < 2)
  | .pendingTimeout n => decide (n < 96)
  | .queryWindowExpiry => true
  | .reserveTimerExpiry => true
  | .bidWindowExpiry n => decide (n < 8)
  | .awardReplyTimeout n => decide (n < 8)
  | .cancelReplyTimeout n => decide (n < 8)
  | .segment w => w.wellFormed
  | .flush _ => true
  | .resync _ _ => true
  | .segmentDone _ _ copy arcMs => reportFits copy arcMs
  | .segmentAborted _ _ copy arcMs => reportFits copy arcMs
  | .segmentHalted _ _ copy arcMs => reportFits copy arcMs
  | .continueRequest _ => true
  | .wearRestore _ pierces arcMs => decide (pierces < 65536) && decide (arcMs < 4294967296)
  | .consumableChanged _ => true
  | .declareStock _ record _ slot => decide (record.length = 32) && decide (slot < 256)
  | .handOff _ i taker => i.wellFormed && decide (taker < 256)
  | .confirmCustody _ i => i.wellFormed
  | .bedLoaded _ i => i.wellFormed
  | .placed _ i slot => i.wellFormed && decide (slot < 256)
  | .lockSlot _ slot => decide (slot < 256)
  | .unlockSlot _ slot => decide (slot < 256)
  | .queryStock _ q => q.wellFormed
  | .cancelQuery _ => true
  | .moveRequest _ m => m.wellFormed
  | .cancelMove _ _ => true
  | .moveFinish _ => true
  | .position _ _ => true
  | .setMode _ _ => true
  | .status _ => true
  | .readTable _ _ index => decide (index < 256)
  | .restart _ => true
  | .unknownRequest _ _ => true
  | .readReply _ => true
  | .readNotice _ => true
  | .voidTransaction operation => (readOperation operation).isNone
  | .telegramOfUnknownKind kind t => t.wellFormed && !knownKinds.contains kind

end Sys2Proof
end

