-- ==== Sys2Proof/Tests/Slice0.lean ====
section
/-! SUPPORT. Tests: ill-formed commands that WellFormed refuses, worked values of the manual, and for each statement
with hypotheses a concrete case that meets them, clause by clause, at the bounds of their ranges. -/

namespace Sys2Proof.Tests

open Sys2Proof Sys2Proof.Machine

-- One theorem at a time: each kernel decision waits for the theorems before it.
set_option Elab.async false

/-! ### Small states -/

/-- A loaded part of a role and mode: station 5, every other parameter at its default. -/
def part (role : Role) (mode : Mode) : State :=
  { State.reset with
    cfg := { Cfg.reset with load := .loaded, params := { Params.default with role := role, station := 5 } }
    sp := { Port.reset with mode := mode } }

/-- A WRITE_REQUEST envelope of the largest length, whole and suitable. -/
def frame : WriteFrame := ⟨34, false, true⟩

/-- A telegram to station 5 with a good CRC. -/
def telegram (k : TelegramKind) (source : Nat) (payload : List Byte) : Telegram :=
  let crc := crcBytes (crc16 ([5, BitVec.ofNat 8 source, k.code, 0, BitVec.ofNat 8 payload.length] ++ payload))
  ⟨5, BitVec.ofNat 8 source, 0, payload, crc.getD 0 0, crc.getD 1 0⟩

/-- A telegram from station 7 that carries a message. -/
def from7 (m : Message) : Telegram := telegram m.kind 7 m.payload

/-- A plate of station 7. -/
def piece : Piece := ⟨⟨7, 1⟩, .plate, 17, 100, 2000, 1000, none, [0x41], none, false, none⟩

/-- A record of the plate. -/
def stocked (location : Location) (custody : Custody) (partner : Option Nat) : StockRecord :=
  ⟨piece, location, custody, partner, 0, some ⟨0, 0⟩⟩

/-- The part with one stock record, at position 0. -/
def holding (s : State) (r : StockRecord) : State :=
  { s with st := { s.st with
    records := s.st.records.set 0 (some r), bed := if r.location = .bed then some 0 else none } }

/-- A CUT record of 16 by 10 mm, and copy 0 of it. -/
def cut : SegContent := .cut 20 true ⟨0, 16, 0, 10⟩ 1 none
def copy : Copy := ⟨1, cut, 0, 1, some ⟨0, 16, 0, 10⟩⟩

/-- A copy that is current. -/
def current : Current := ⟨copy, none, false, false, false, none⟩

/-- The part with a release state and the copies it holds. -/
def releasing (s : State) (r : Release) (head : Option Copy) (c : Option Current) : State :=
  { s with rc := { s.rc with release := r, head := head, current := c } }

/-- A move and its entry. -/
def info : MoveInfo := ⟨.deliver, some ⟨7, 1⟩, 5, 0, 7, 0, 4⟩
def entry (st : MoveStanding) (crane : Option Nat) : MoveEntry :=
  ⟨1, info, st, crane, 1, [], none, none, false, none, 0⟩

/-- The part with one move, at position 0. -/
def moving (s : State) (e : MoveEntry) : State := { s with mu := { s.mu with moves := s.mu.moves.set 0 (some e) } }

/-- The part with a crane's move queue. -/
def queueing (s : State) (q : List QueuedMove) : State :=
  { s with mu := { s.mu with queue := q, awardOrder := 8 } }

/-- A move of station 7 in a crane's queue. -/
def queued (tag : Byte) (started : Bool) : QueuedMove := ⟨7, tag, info, 0, started⟩

/-- A peer entry of a crane at station 7. -/
def crane7 (state : PeerState) : PeerEntry :=
  ⟨7, .crane ⟨0, 0, 0, 0, 0, 0, .plate, .low, ⟨0, 499999⟩⟩, state, false, true, 0, false, 0, 0, 0, 0, none⟩

/-- The part with one peer entry, at position 0. -/
def peering (s : State) (e : PeerEntry) : State :=
  { s with pt := { s.pt with entries := s.pt.entries.set 0 (some e), agingTimer := some ⟨0, 0⟩ } }

/-- What a command leaves. -/
def after (c : Instr) (s : State) : State :=
  match exec c s with
  | .next t => t
  | .fault f => nomatch f
  | .refused _ => s

/-- An image with a header, an identity block of role and station, and its CRC: 14 bytes. -/
def image (role : Nat) (validity : Byte) : List Byte :=
  let body : List Byte := [0x21, 0x4E, 14, 0, validity, 0, 4, 0, 5, BitVec.ofNat 8 role, 0, 0]
  body ++ crcBytes (crc16 body)

/-- Reset with some transfers refused. -/
def refusedTimes (n : Nat) : State := { State.reset with cfg := { Cfg.reset with refusals := n } }

def cutterRun : State := part .cutter .run
def cutterReady : State := part .cutter .ready
def craneRun : State := part .crane .run
def rackRun : State := part .rack .run

/-- A burning cutter: an arc copy in flight under ARC_PERMIT. -/
def burning : State :=
  let s := releasing cutterRun .inFlight none (some current)
  { s with
    lu := { s.lu with arcPermit := true }
    rc := { s.rc with flightTimer := some ⟨0, 0⟩ } }

/-- A crane whose lines carry five GRANTED results. -/
def granted : State :=
  { craneRun with
    env := { craneRun.env with permits := ⟨true, true, true, true, true⟩ }
    mu := { craneRun.mu with live := true }
    lu := { craneRun.lu with travelXP := true, travelXN := true, travelYP := true, travelYN := true, lower := true } }

/-- A cutter with a waiting copy, all of whose release conditions hold, and its resume timer at its end. -/
def waiting : State :=
  let s := releasing cutterRun .waiting (some copy) none
  { s with rc := { s.rc with wearKnown := true, resumeTimer := some ⟨0, 0⟩ } }

/-- A cutter with a broken copy. -/
def broken (halted : Bool) : State :=
  let s := releasing cutterRun .broken none
    (some { current with cause := some .hold, brokenBefore := true, halted := halted })
  { s with rc := { s.rc with wearKnown := true, resumeTimer := some ⟨0, 0⟩, haltTimer := some ⟨0, 0⟩ } }

/-- The part with a number of records held behind a cursor. -/
def filled (s : State) (n : Nat) : State :=
  { s with sq := { s.sq with held := List.replicate n ⟨1, cut⟩, cursor := some ⟨⟨1, cut⟩, 1, 0, 0, 0⟩ } }

/-- A TRAVEL record's bytes: kind, sequence and budget. -/
def travelBytes : List Byte := [2, 7, 0, 1, 0, 0]
def travelWrite : RawWrite := ⟨6, travelBytes⟩

/-- A held offer of the plate by station 7. -/
def offer7 : HeldOffer := ⟨piece, 7, 0, some ⟨0, 0⟩⟩
def offering (s : State) (a b : Option HeldOffer) : State := { s with st := { s.st with slot0 := a, slot1 := b } }

/-- A stock query, and a search unit in a phase. -/
def wanted : QueryFields := ⟨17, 63, 100, 100, 100, false⟩
def candidate (rack : Nat) : Candidate := ⟨rack, ⟨7, 1⟩, 1, 17, 100, 2000, 1000, none, [0x41], 2000000⟩
def searching (phase : Phase) (l : List Candidate) : State :=
  { cutterRun with su := { cutterRun.su with
    phase := phase
    number := 1
    candidates := l
    awaited := if phase = .reserving then l.head? else none
    windowTimer := some ⟨0, 0⟩
    reserveTimer := some ⟨0, 0⟩ } }

/-- The part with its link in a state. -/
def linked (s : State) (l : Link) : State := { s with flc := { s.flc with link := l } }

/-- The part with a telegram of class 1 queued, tried before, and perhaps on the line. -/
def outgoing : Queued := ⟨7, .message (.custodyAccept ⟨7, 1⟩), 14, none⟩
def sending (s : State) (q : Queued) (run : Nat) : State :=
  { s with flc := { s.flc with class1 := [q], attempt := some ⟨.queue .custody, []⟩, collisionRun := run } }

/-- A full table of peer entries of stations 1 to 4 and 6 to 49, pinned or not. -/
def fullTable (s : State) (pinned : Bool) : State :=
  let e (n : Nat) : PeerEntry := { crane7 .fresh with station := if n < 4 then n + 1 else n + 2, pinned := pinned }
  { s with pt := { s.pt with entries := (List.range 48).map (fun n => some (e n)) } }

/-- A rack's beacon, from a station. -/
def rackBeacon (source : Nat) : Telegram := telegram .beaconRack source [0, 0, 0, 0, 0, 0, 0, 1]

/-- A crane's beacon, from station 7. -/
def craneBeacon : Telegram := telegram .beaconCrane 7 (List.replicate 17 0)

/-- The entry of a rack at station 7. -/
def rack7 (state : PeerState) : PeerEntry := { crane7 state with data := .rack 0 }

/-- The crane's own position has just been reported. -/
def reported (s : State) : State :=
  { s with env := { s.env with own := { s.env.own with received := true, load := .empty, hook := .high } } }

/-- The part with its beacon and probe timers at their end, and a probe that waits. -/
def ticking (s : State) : State :=
  { s with flc := { s.flc with
    beaconTimer := some ⟨0, 0⟩, spacingTimer := some ⟨0, 0⟩, probeTimer := some ⟨0, 0⟩, probePending := true } }

/-- The part with one beacon in class 3, perhaps on the line. -/
def announcing (s : State) (onLine : Bool) : State :=
  { s with flc := { s.flc with
    class3 := [⟨0, .beacon, 3, none⟩]
    attempt := if onLine then some ⟨.queue .periodic, []⟩ else none } }

/-- The part with a probe on the line. -/
def probing (s : State) : State := { s with flc := { s.flc with attempt := some ⟨.probe, []⟩ } }

/-- The part with a telegram of class 1 queued and nothing on the line. -/
def idleLine (s : State) (q : Queued) : State := { s with flc := { s.flc with class1 := [q] } }

/-- A telegram with other bytes than its CRC covers. -/
def spoilt : Telegram := { rackBeacon 7 with seq := 1 }

/-- The part with its segment stream in a state. -/
def streaming (s : State) (t : Stream) : State := { s with sq := { s.sq with stream := t } }

/-- A CUT's bytes with a window of inverted X bounds. -/
def invertedBytes : List Byte :=
  [1, 7, 0, 20, 0, 0, 9, 0, 8, 0, 0, 0, 5, 0, 1, 0, 0] ++ List.replicate 13 0
def invertedWrite : RawWrite := ⟨30, invertedBytes⟩

/-- A faulted cutter. -/
def faulted (recordAtHead : Bool) : State :=
  let s := releasing cutterReady .faulted none none
  { s with rc := { s.rc with fault := some ⟨.controllerAbort, 1, 0, false, recordAtHead⟩ } }

/-- A NEST_START of the plate as the waiting copy. -/
def nestCopy : Copy := ⟨1, .nestStart ⟨7, 1⟩, 0, 1, none⟩

/-- The part with the plate's ID retired. -/
def retired (s : State) : State := { s with st := { s.st with retired := [⟨7, 1⟩] } }

/-- A crane whose load is attached. -/
def loaded (s : State) : State := { s with lu := { s.lu with loadAttached := true } }

/-- A rack record at slot 1, and one reserved by a station. -/
def shelved : StockRecord := stocked (.slot 1) .held none
def reservedFor (n : Nat) : StockRecord := { shelved with piece := { piece with reservation := some n } }

/-- A rack with sixteen reserved records behind a free one. -/
def crowded : State :=
  let r (n : Nat) : StockRecord := { reservedFor 9 with piece := { (reservedFor 9).piece with id := ⟨8, n⟩ } }
  { rackRun with st := { rackRun.st with
    records := some shelved :: (List.range 16).map (fun n => some (r n)) ++ List.replicate 79 none } }

/-- A free bid window and an awaited award. -/
def bidding (calls : Nat) (bids : List Bid) : MoveEntry :=
  { entry .opened none with callNumber := calls, bids := bids, windowTimer := some ⟨0, 0⟩ }
def awaited (calls : Nat) (bids : List Bid) : MoveEntry :=
  { entry .opened (some 7) with callNumber := calls, bids := bids, replyTimer := some ⟨0, 0⟩ }
def cancelling : MoveEntry := { entry .awarded (some 7) with cancelPending := true, replyTimer := some ⟨0, 0⟩ }

/-- What a MOVE_REQUEST asks for. -/
def asked : MoveFields := ⟨some .deliver, some ⟨7, 1⟩, 7, some 1, 5, some 9, 3⟩

/-- The same request with the X of this station's own anchor left out, and a CLEAR without a stock ID. -/
def askedAtAnchor : MoveFields := { asked with toX := some 0 }
def askedClear : MoveFields := { askedAtAnchor with kind := some .clear, stock := some ⟨0, 0⟩ }

/-- The part at a count of the time base. -/
def at_ (n : Count) (s : State) : State := { s with time := n }

/-- The part with a command waiting. -/
def commanded : State := { cutterRun with pending := [.powerOn] }

/-- A crane's reports: standing at the origin, and moving at the velocity cap. -/
def standing (load : LoadState) (hook : HookClass) : CraneData := ⟨0, 0, 0, 0, 0, 0, load, hook, ⟨0, 499999⟩⟩
def moving5000 : CraneData := { standing .plate .low with vx := 5000, vy := -5000 }
def atCorner : CraneData := { standing .plate .low with x := 499999, y := 99999 }

/-- The own record of a crane, received at count 0. -/
def own (load : LoadState) (hook : HookClass) : OwnPosition :=
  { OwnPosition.reset with received := true, load := load, hook := hook }

/-- A POSITION outside every range. -/
def farOut : PositionFields := ⟨-1, 100000, -5001, 5001, 12001, 0, 0, 0⟩

/-- The entry of the first station of the full table, and that of a cutter. -/
def first : PeerEntry := { crane7 .fresh with station := 1 }
def cutter7 : PeerEntry := { crane7 .fresh with data := .cutter ⟨⟨0, 9, 0, 9⟩, none, .none, false, .idle⟩ }

/-- A crane at the far ends of its ranges. -/
def farCrane : State :=
  { at_ 255 craneRun with
    env := { craneRun.env with own := ⟨499999, 99999, -5000, 5000, 12000, 12000, .remnant, .transit, 0, true⟩ } }

/-- The part as another station. -/
def station6 : State :=
  { rackRun with cfg := { rackRun.cfg with params := { rackRun.cfg.params with station := 6 } } }

/-- The part with an urgent beacon called for. -/
def urgent (s : State) : State := { s with flc := { s.flc with urgentPending := true } }

/-- The part with ESTOP asserted, and with a stop pending. -/
def stopped (s : State) : State := { s with lu := { s.lu with estop := true } }
def stopping (s : State) : State := { s with rc := { s.rc with stopPending := true } }

/-- The part with an expected sequence, and with a REPEAT whose target is to come. -/
def expecting (n : Seq) : State := { cutterReady with sq := { cutterReady.sq with expected := some n } }
def repeating : State := { cutterReady with sq := { cutterReady.sq with repeatPending := true } }

/-- A CUT's bytes with X bounds 9 and n. -/
def cutBytes (lo hi : Byte) : List Byte :=
  [1, 7, 0, 20, 0, 0, 9, 0, lo, hi, 0, 0, 5, 0, 1, 0, 0] ++ List.replicate 13 0
def cutTo (n : Int) : SegContent := .cut 20 false ⟨9, n, 0, 5⟩ 1 none

/-- A cutter with the plate on its bed. -/
def bedded : State := holding cutterRun (stocked .bed .held none)

/-- A REMNANT copy, and a bed whose remnant ID is retired. -/
def remnantCopy (n : Nat) : Copy := { nestCopy with content := .remnant n 200 200 none }
def bedRetired : State := { bedded with st := { bedded.st with retired := [⟨5, 1⟩] } }

/-- A cutter whose waiting copy is the NEST_START. -/
def nestWaiting : State := { waiting with rc := { waiting.rc with head := some nestCopy } }

/-- The cursor of the only record, and one with a second copy at the bed's edge. -/
def cursor : Cursor := ⟨⟨1, cut⟩, 1, 0, 0, 0⟩
def cursor2 : Cursor := ⟨⟨1, cut⟩, 2, 0, 23984, 0⟩
def burning1 : State := filled burning 1
def burning2 : State := { burning1 with sq := { burning1.sq with cursor := some cursor2 } }
def brokenCopy (halted : Bool) : Current :=
  { current with cause := some .hold, brokenBefore := true, halted := halted }
def intruded (s : State) : State := { s with env := { s.env with station := .hold } }
def fault (b : Bool) : ReleaseFault := ⟨.controllerAbort, 1, 0, false, b⟩

/-- A crane that has started a move and holds another, a crane away from its runway, a remnant on a hook, and a piece at
the ends of its ranges. -/
def craneQueue : State := queueing craneRun [queued 1 true, queued 2 false]
def offRunway : CraneData := { standing .plate .low with x := 100, span := ⟨0, 9⟩ }
def onHook : StockRecord := { stocked .hook .held none with piece := { piece with kind := .remnant, id := ⟨5, 1⟩ } }
def largest : Piece :=
  { piece with grade := 63, thickness := 1500, id := ⟨62, 65535⟩, length := 24000, width := 24000 }

/-- A rack in READY, with slot 1 locked and with slot 16 locked by its configuration. -/
def rackReady : State := part .rack .ready
def lockedSlot : State :=
  let s := holding rackReady shelved
  { s with st := { s.st with runtimeLocks := [1] } }
def configLocked : State :=
  { rackReady with cfg := { rackReady.cfg with params := { rackReady.cfg.params with configLocks := [16] } } }

/-- An unmarked remnant of this station where marking comes before storing. -/
def remnant5 : StockRecord :=
  { stocked .table .held none with piece := { piece with kind := .remnant, id := ⟨5, 1⟩ } }
def unmarkedFirst : State :=
  let s := holding cutterReady remnant5
  { s with cfg := { s.cfg with params := { s.cfg.params with markBeforeStore := true } } }
def bedInWork : State := filled (holding burning (stocked .bed .held none)) 1

/-- A CUSTODY_OFFER of the plate, a full table, and offers of another giver and of another plate. -/
def offerTelegram : Telegram := from7 (.custodyOffer piece)
def fullRack : State :=
  { rackRun with st := { rackRun.st with
    records := List.replicate 96 (some { shelved with piece := { piece with id := ⟨8, 1⟩ } }) } }
def offer8 : HeldOffer := { offer7 with giver := 8 }
def otherOffer : HeldOffer := { offer7 with piece := { piece with id := ⟨8, 1⟩ } }

/-- A reserved record that is PENDING from station 7. -/
def reservedPending : StockRecord :=
  { stocked (.slot 1) .pending (some 7) with piece := { piece with reservation := some 9 } }

/-- A CLEAR move in a crane's queue, and a crane whose hook holds the plate of its started move. -/
def clearMove (started : Bool) : QueuedMove :=
  { queued 1 started with info := { info with kind := .clear, stock := none } }
def hooked (c : Custody) : State := loaded (queueing (holding craneRun (stocked .hook c none)) [queued 1 true])

/-- Search and reservation telegrams, a rack that hears station 7, and a found reservation. -/
def queryTelegram : Telegram := from7 (.stockQuery 1 wanted)
def reserveTelegram : Telegram := from7 (.reserve 1 ⟨7, 1⟩ 7)
def unreserveTelegram : Telegram := from7 (.unreserve ⟨7, 1⟩)
def candidateTelegram : Telegram := from7 (.stockCandidate 1 (candidate 7))
def replyTelegram (r : ReserveResult) : Telegram := from7 (.reserveReply 1 ⟨7, 1⟩ r)
def hearing (r : StockRecord) : State := peering (holding rackRun r) (crane7 .stale)
def found : State := { cutterRun with su := { cutterRun.su with found := some (62, ⟨7, 1⟩) } }

/-- Eight candidates, and eight bids. -/
def eight : Search := { Search.reset with candidates := (List.range 8).map (fun n => candidate (n + 1)) }
def bid (n : Nat) : Bid := ⟨n, 0⟩
def eightBids : List Bid := (List.range 8).map (fun n => bid (n + 1))

/-- Eight live moves, and an award that another crane is to answer. -/
def fullMoves : State :=
  { cutterReady with mu := { cutterReady.mu with moves := List.replicate 8 (some (entry .opened none)) } }
def awaited8 : MoveEntry := { awaited 1 [] with crane := some 8 }

/-- Move telegrams of tag 1 to a requester, and of tag 9 to a crane. -/
def startedTelegram : Telegram := from7 (.moveStarted 1)
def callTelegram : Telegram := from7 (.moveCall 9 1 info)
def awardTelegram : Telegram := from7 (.moveAward 9 info)
def revokeTelegram : Telegram := from7 (.moveRevoke 9)
def lowPriority : QueuedMove := { queued 3 false with info := { info with priority := 5 } }

/-- The part with a number of unread replies, and a part whose load has failed. -/
def unread (n : Nat) : State :=
  { cutterRun with sp := { cutterRun.sp with buffer := List.replicate n ⟨0, .flush, .ok, .none⟩ } }
def unloaded : State := { State.reset with cfg := { Cfg.reset with load := .configFault } }

/-- The part with its resume timer at its end. -/
def ticked (s : State) : State := { s with rc := { s.rc with resumeTimer := some ⟨0, 0⟩ } }

/-- A burning cutter that announces its live window. -/
def announced : State := { burning with rc := { burning.rc with live := burning.formLive } }

/-- A MARK of the remnant that the table holds; its copy with the legend; and a cutter where it burns, or waits over a
bed record. -/
def mark : SegContent := .mark (.arc 20) ⟨0, 16, 0, 10⟩ 80 0 (.remnant 1) none
def markPart : SegContent := .mark .ink ⟨0, 16, 0, 10⟩ 80 0 .part none
def marking : Current := { current with copy := { copy with content := mark }, legend := some ⟨[0x41], 1⟩ }
def burningMark : State :=
  let s := holding burning1 remnant5
  { s with rc := { s.rc with current := some marking } }
def markWaiting : State :=
  let s := holding waiting (stocked .bed .held none)
  { s with rc := { s.rc with head := some { copy with content := markPart } } }
def markLegend : Option Legend :=
  match releaseCheck { copy with content := markPart } markWaiting with
  | .ok l => l
  | .error _ => none

/-- A TRAVEL copy that waits, and a NEST_END that is the only record. -/
def travelCopy : Copy := ⟨1, .travel 80, 0, 1, none⟩
def travelWaiting : State := { waiting with rc := { waiting.rc with head := some travelCopy } }
def nestEndCopy : Copy := { nestCopy with content := .nestEnd }
def nestEnding : State :=
  let s := filled nestWaiting 1
  { s with rc := { s.rc with head := some nestEndCopy } }

/-- A second copy that passes the bed by one, and a copy that a FLUSH has reached, with a copy formed since. -/
def cursor3 : Cursor := ⟨⟨1, cut⟩, 2, 0, 23985, 0⟩
def burning3 : State := { burning1 with sq := { burning1.sq with cursor := some cursor3 } }
def flushed : Current := { current with flushed := true }
def flushedWith (head : Option Copy) : State :=
  { burning1 with rc := { burning1.rc with current := some flushed, head := head } }

/-- A REPEAT that waits for its target, and its bytes. -/
def repeatWrite : RawWrite := ⟨8, [4, 7, 0, 3, 5, 0, 6, 0]⟩
def repeatHeld : State :=
  { cutterRun with sq := { cutterRun.sq with held := [⟨6, .repeats 255 5 6⟩], repeatPending := true } }
def cutWrite : RawWrite := ⟨30, cutBytes 9 0⟩

/-- A cutter that has lost the crane of its move, and a table in which nothing is due. -/
def losing (e : MoveEntry) : State := moving (peering (at_ 5000 cutterRun) (crane7 .stale)) e
def steadyBurning (age : Count) : State := peering (at_ age burning) (crane7 .fresh)

/-- A cutter's beacon, from station 7, and a full table at a crane. -/
def cutterBeacon : Telegram := telegram .beaconCutter 7 (List.replicate 29 0)

/-- A crane whose offer at the hook is that of its second queued move. -/
def otherMove : QueuedMove := { queued 5 false with info := { info with stock := some ⟨8, 1⟩ } }
def liftingFor (q : List QueuedMove) : State := queueing (offering craneRun (some offer7) none) q

/-- A crane whose hook holds the record of its started move, in a handover with station 7, perhaps leaving RUN. -/
def handing (c : Custody) (leaving : Bool) : State :=
  let s := queueing (holding craneRun (stocked .hook c (some 7))) [queued 1 true, queued 2 false]
  { s with mu := { s.mu with leavePending := leaving } }
def clearing (leaving : Bool) : State :=
  let s := queueing craneRun [clearMove true, queued 2 false]
  { s with mu := { s.mu with leavePending := leaving } }

/-- A cutter with the plate on its table and a link state and custody queue. -/
def tabled (l : Link) (q : List Queued) : State :=
  let s := holding cutterReady (stocked .table .held none)
  { s with flc := { s.flc with link := l, class1 := q } }

/-! ### Ill-formed commands (WellFormed) -/

theorem test_long_telegram_is_ill_formed :
    (Instr.beaconRack (telegram .beaconRack 7 (List.replicate 61 0))).wellFormed = false := by decide +kernel
theorem test_wide_stock_id_is_ill_formed :
    (Instr.confirmCustody frame ⟨256, 1⟩).wellFormed = false
      ∧ (Instr.confirmCustody frame ⟨1, 65536⟩).wellFormed = false := by decide
theorem test_extra_bytes_are_ill_formed : (Instr.segment ⟨0, [1]⟩).wellFormed = false := by decide
theorem test_wide_query_is_ill_formed :
    (Instr.queryStock frame { wanted with grade := 256 }).wellFormed = false := by decide
theorem test_wide_move_is_ill_formed :
    (Instr.moveRequest frame { asked with fromX := some 16777216 }).wellFormed = false := by decide
theorem test_zero_is_no_present_field :
    (Instr.moveRequest frame { asked with fromX := some 0 }).wellFormed = false
      ∧ (Instr.moveRequest frame { asked with toX := some 0 }).wellFormed = false
      ∧ (Instr.moveRequest frame { asked with stock := some ⟨0, 0⟩ }).wellFormed = false
      ∧ (Instr.moveRequest frame asked).wellFormed = true := by decide
theorem test_wide_copy_index_is_ill_formed : (Instr.segmentDone frame 0 256 0).wellFormed = false := by decide
theorem test_wide_arc_time_is_ill_formed : (Instr.segmentAborted frame 0 0 4294967296).wellFormed = false := by decide
theorem test_positions_are_bounded :
    (Instr.offerTimeout 96).wellFormed = false ∧ (Instr.heldOfferExpiry 2).wellFormed = false
      ∧ (Instr.pendingTimeout 96).wellFormed = false ∧ (Instr.bidWindowExpiry 8).wellFormed = false
      ∧ (Instr.awardReplyTimeout 8).wellFormed = false ∧ (Instr.cancelReplyTimeout 8).wellFormed = false := by decide
theorem test_wide_wear_is_ill_formed : (Instr.wearRestore frame 65536 0).wellFormed = false := by decide
theorem test_short_declaration_is_ill_formed : (Instr.declareStock frame [] none 0).wellFormed = false := by decide
theorem test_wide_station_is_ill_formed : (Instr.handOff frame ⟨7, 1⟩ 256).wellFormed = false := by decide
theorem test_wide_slot_is_ill_formed :
    (Instr.placed frame ⟨7, 1⟩ 256).wellFormed = false ∧ (Instr.lockSlot frame 256).wellFormed = false
      ∧ (Instr.unlockSlot frame 256).wellFormed = false := by decide
theorem test_wide_index_is_ill_formed : (Instr.readTable frame none 256).wellFormed = false := by decide
theorem test_operations_are_no_void_transactions :
    (Instr.voidTransaction 1).wellFormed = false ∧ (Instr.voidTransaction 2).wellFormed = false
      ∧ (Instr.voidTransaction 3).wellFormed = false ∧ (Instr.voidTransaction 0).wellFormed = true
      ∧ (Instr.voidTransaction 4).wellFormed = true := by decide
theorem test_known_kinds_are_not_unknown :
    (Instr.telegramOfUnknownKind 0x20 (rackBeacon 7)).wellFormed = false := by decide

/-! ### Worked values of the manual -/

/-- The hall and margins of the worked cases of chapter 1. -/
def hall : Params := { Params.default with xmax := 240000, ymax := 40000 }

/-- Station 31 of the worked case after R14. -/
def crane31 (now : Count) (state : PeerState) : PeerEntry :=
  { crane7 state with
    station := 31
    data := .crane ⟨120000, 18000, -2000, 0, 6000, 1500, .plate, .transit, ⟨0, 240000⟩⟩
    reportAge := 40
    received := now }
def closing (now : Count) (state : PeerState) : Intrusion :=
  craneResult hall now (crane31 0 state) ⟨120000, 18000, -2000, 0, 6000, 1500, .plate, .transit, ⟨0, 240000⟩⟩
    ⟨104000, 109000, 21000, 23000⟩ .cutHigh

/-- Worked case "a crane closing on a burn" (chapter 1). -/
theorem test_closing_crane :
    closing 160 .fresh = .hold ∧ closing 560 .fresh = .hold ∧ closing 659 .fresh = .hold
      ∧ closing 660 .fresh = .cutoff ∧ closing 1000 .stale = .cutoff := by decide
theorem test_stale_envelope :
    staleEnvelope hall ⟨120000, 18000, -2000, 0, 6000, 1500, .plate, .transit, ⟨0, 240000⟩⟩ 1040 2000
      = ⟨102800, 137200, 5300, 30700⟩ := by decide

/-- Worked case "a loaded crane beside a cutting window" (chapter 1). -/
def beside (x : Nat) : Permits :=
  cranePermits hall 0 { own .plate .transit with x := x, y := 30000, hx := 4000, hy := 1500 }
    [(⟨95000, 99000, 29000, 33000⟩, .cutLow)]
theorem test_beside_window :
    beside 90000 = ⟨false, true, false, true, false⟩ ∧ beside 84000 = ⟨true, true, true, true, true⟩ := by decide

/-- R86: 12,000 with a pierce gives 15,500 ms. -/
theorem test_flight_time :
    flightTime Params.default (.cut 200 true ⟨0, 1, 0, 1⟩ 12000 none) false = 15500 := by decide

/-- The characters of a text. -/
def text (s : String) : Text := s.toList.map (fun c => BitVec.ofNat 8 c.toNat)

/-- Worked sequence 6.9: the plate and template 3. -/
def plate312 : Piece :=
  { piece with id := ⟨7, 312⟩, grade := 17, thickness := 125, length := 12000, width := 3000, heat := text "A4471923" }
def template3 : List TemplateItem :=
  [.literal (text "PART "), .field .part, .literal (text " HEAT "), .field .heat, .literal (text " "),
   .field .grade, .literal (text " T"), .field .thick, .literal (text " FROM "), .field .stockId]
def legend (part : Option Text) (seq : Seq) : Option Legend :=
  fitLegend 10 0 (template3.map (renderItem Params.default plate312 part seq))
theorem test_legend_with_part :
    legend (some (text "B12-0047-S")) 240
      = some ⟨text "PART B12-0047-SA4471923G1712.507-00312", 4⟩ := by decide +kernel
theorem test_legend_without_part :
    legend none 241 = some ⟨text "PART P00241 HEAT A4471923G1712.507-00312", 3⟩ := by decide +kernel

/-- Worked case 8.6. -/
def remnant290 : Piece := { piece with length := 3200, width := 1800, notch := some ⟨1000, 700, .lowerLeft⟩ }
def asks (l w : Nat) (turn : Bool) : QueryFields := ⟨17, 63, 100, l, w, turn⟩
theorem test_fit_and_score :
    pieceScore remnant290 = 5060000 ∧ pieceFits (asks 2500 1000 false) remnant290 = true
      ∧ pieceFits (asks 1700 2000 false) remnant290 = false ∧ pieceFits (asks 1700 2000 true) remnant290 = true
      ∧ pieceFits (asks 3300 500 true) remnant290 = false := by decide

/-- R140: grade 17 under mask 60 accepts 16 to 19. -/
theorem test_grade_mask :
    (List.range 64).filter (gradeMatches { wanted with grade := 17, mask := 60 }) = [16, 17, 18, 19] := by
  decide +kernel

/-- Worked sequence 9.12: the bids of cranes 31 and 33. -/
def bidOf (x queue : Nat) : Nat :=
  State.bidFor { queueing craneRun (List.replicate queue (queued 1 false)) with
    env := { craneRun.env with own := { craneRun.env.own with x := x } } }
    { info with fromX := 108000, toX := 150000 }
theorem test_bids : bidOf 120000 2 = 94000 ∧ bidOf 60000 0 = 90000 := by decide

/-- The count wraps from 2^32 - 1 to 0 (R176). -/
theorem test_count_wraps : (after .timeBaseTick (at_ 0xFFFFFFFF cutterRun)).time = 0 := by decide

/-- R176: a power-on sets the count to 0. -/
theorem test_power_on : after .powerOn (at_ 7 State.reset) = State.reset := by decide +kernel

/-- R79: with a stop pending, the copy formed at a completion is evaluated before it is dropped. -/
theorem test_stop_evaluates_the_formed_copy :
    (after (.segmentDone frame 1 0 5) (peering (stopping burning2) { crane7 .fresh with
      data := .crane { standing .plate .low with x := 24000 } })).rc.lastNonclear = some 0 := by decide +kernel

/-- R83: an accepted record that forms no head copy is no event that releases the waiting one. -/
theorem test_segment_releases_no_waiting_copy :
    (after (.segment travelWrite) (filled waiting 1)).rc.release = .waiting := by decide +kernel

/-- R183: DECLARE_STOCK carries 34 bytes. -/
theorem test_short_declaration_is_out_of_range :
    ((after (.declareStock ⟨33, false, true⟩ (pieceBytes piece) (some .table) 0) cutterReady).sp.buffer.map
      (fun r => r.result)) = [.fieldRange] := by decide +kernel

/-- R153 and R181: an X of 0 is absent, and the centre of the bed stands for it. -/
theorem test_zero_x_is_the_anchor :
    ((entriesOf (after (.moveRequest frame askedAtAnchor) cutterReady).mu.moves).map (fun e => e.info.toX))
      = [12000] := by decide +kernel

/-- R107 and R108: the manual's own renderings, "30 gives 3.0 and 1,500 gives 150.0", "3,200 by 1,800 gives 3200X1800"
and "a MARK record with sequence 240 and the prefix P renders P00240". -/
theorem test_fields_are_rendered_as_the_manual_says :
    thickText 30 = [0x33, 0x2E, 0x30] ∧ thickText 1500 = [0x31, 0x35, 0x30, 0x2E, 0x30]
      ∧ renderField Params.default { piece with length := 3200, width := 1800 } none 240 .dims
        = [0x33, 0x32, 0x30, 0x30, 0x58, 0x31, 0x38, 0x30, 0x30]
      ∧ renderField Params.default piece none 240 .part = [0x50, 0x30, 0x30, 0x32, 0x34, 0x30] := by decide +kernel

/-- R165: at an entry into ISOLATED a crane keeps its started move alone, and reports how many it has dropped. -/
theorem test_isolation_drops_the_unstarted_moves :
    (after .jabberLimit (sending craneQueue outgoing 0)).mu.queue = [queued 1 true]
      ∧ (after .jabberLimit (sending craneQueue outgoing 0)).sp.notices.map (fun n => n.data)
        = [.linkIsolated .jabber, .movesDropped 1] := by decide +kernel

/-! ### Cases that meet the statements' hypotheses -/

theorem full_table_pinned :
    ∀ k e, entryAt (fullTable rackRun true).pt.entries k = some e → e.pinned = true := by
  intro k e hk
  simp only [entryAt, fullTable, List.getElem?_map] at hk
  cases hh : (List.range 48)[k]? <;> simp [hh] at hk
  rw [← hk]

theorem first_is_oldest :
    ∀ m e, entryAt (fullTable rackRun false).pt.entries m = some e → e.pinned = false → m ≠ 0 →
      e.receiptAge (fullTable rackRun false).time < first.receiptAge (fullTable rackRun false).time
      ∨ (e.receiptAge (fullTable rackRun false).time = first.receiptAge (fullTable rackRun false).time
        ∧ first.station < e.station) := by
  intro m e hm _ h0
  right
  simp only [entryAt, fullTable, List.getElem?_map] at hm
  cases hh : (List.range 48)[m]? <;> simp [hh] at hm
  rename_i v
  have hv : m = v := by
    obtain ⟨_, h2⟩ := List.getElem?_eq_some_iff.1 hh
    simpa using h2
  subst hv
  subst hm
  refine ⟨rfl, ?_⟩
  simp only [first]
  split <;> omega

theorem single_entry {α : Type} {k m : Nat} {r x : α}
    (h : entryAt ((List.replicate k none).set 0 (some r)) m = some x) : m = 0 ∧ x = r := by
  unfold entryAt at h
  rw [List.getElem?_set] at h
  split at h
  · split at h
    · exact ⟨by omega, (Option.some.inj h).symm⟩
    · cases h
  · rw [List.getElem?_replicate] at h
    split at h <;> cases h

theorem no_moves : ∀ n, entryAt (fullTable cutterRun false).mu.moves n = none := by
  intro n
  change ((List.replicate 8 none)[n]?).join = none
  rw [List.getElem?_replicate]
  split <;> rfl

theorem no_reservations : ∀ n r, entryAt (peering (at_ 5000 rackRun) (crane7 .stale)).st.records n = some r →
    r.piece.reservation ≠ some (crane7 .stale).station := by
  intro n r h
  change ((List.replicate 96 none)[n]?).join = some r at h
  rw [List.getElem?_replicate] at h
  split at h <;> cases h

/-- The states of the invariants' cases, each with a tick waiting. -/
def tick (s : State) : State := { s with pending := [.timeBaseTick] }

theorem witness_ArcPermitStaysSafe : (tick burning).permitSafe ∧ ∃ t, step (tick burning) = .next t :=
  ⟨fun _ => ⟨rfl, rfl, rfl, rfl, rfl, by decide⟩, _, rfl⟩
theorem witness_CraneLinesStaySafe : (tick granted).linesSafe ∧ ∃ t, step (tick granted) = .next t :=
  ⟨⟨fun _ => ⟨rfl, rfl, rfl⟩, fun _ => ⟨rfl, rfl, rfl⟩, fun _ => ⟨rfl, rfl, rfl⟩, fun _ => ⟨rfl, rfl, rfl⟩,
    fun _ => ⟨rfl, rfl, rfl⟩⟩, _, rfl⟩
theorem witness_RecordsAreConserved :
    (tick { filled cutterRun 64 with sq := { (filled cutterRun 64).sq with accepted := 64 } }).conserves
      ∧ ∃ t, step (tick { filled cutterRun 64 with sq := { (filled cutterRun 64).sq with accepted := 64 } })
        = .next t :=
  ⟨⟨by decide, by decide⟩, _, rfl⟩
theorem witness_TablesAndCountsStayBounded :
    (tick cutterRun).sized ∧ (tick cutterRun).wearBounded ∧ ∃ t, step (tick cutterRun) = .next t :=
  ⟨by unfold State.sized; decide, by unfold State.wearBounded; decide, _, rfl⟩
theorem witness_StockTableStaysSound :
    Stock.sound (tick bedded).st ∧ ∃ t, step (tick bedded) = .next t := by
  refine ⟨⟨?_, ?_, ?_, ?_, ?_, by decide⟩, _, rfl⟩
  · intro m n r q hm hn _
    exact (single_entry hm).1.trans (single_entry hn).1.symm
  · intro n r _
    exact List.not_mem_nil
  · intro n r hn
    obtain ⟨rfl, rfl⟩ := single_entry hn
    decide
  · intro n hn
    cases hn
    decide
  · intro m n r q k hm _ hr
    obtain ⟨rfl, rfl⟩ := single_entry hm
    cases hr
theorem witness_ReservationsStaySound :
    (tick (hearing (reservedFor 7))).reservationsSound ∧ ∃ t, step (tick (hearing (reservedFor 7))) = .next t := by
  refine ⟨fun _ => ⟨by decide, fun _ n r k hn hr => ?_⟩, _, rfl⟩
  obtain ⟨rfl, rfl⟩ := single_entry hn
  cases hr
  decide
theorem witness_PeerTableStaysSound :
    (tick (hearing shelved)).peersSound ∧ ∃ t, step (tick (hearing shelved)) = .next t := by
  refine ⟨⟨fun m n a b hm hn _ => (single_entry hm).1.trans (single_entry hn).1.symm, fun n e hn => ?_⟩, _, rfl⟩
  obtain ⟨rfl, rfl⟩ := single_entry hn
  decide
theorem witness_MoveQueueStaysOrdered :
    (tick (queueing craneRun [queued 1 true, queued 2 false])).mu.ordered
      ∧ ∃ t, step (tick (queueing craneRun [queued 1 true, queued 2 false])) = .next t :=
  ⟨⟨List.Pairwise.cons (by decide) (List.pairwise_singleton _ _), by decide⟩, _, rfl⟩
theorem witness_ReleaseTableHolds :
    (tick burning).releaseTable ∧ (stopping (tick burning)).stopSound ∧ (stopping (tick burning)).rc.stopPending = true
      ∧ (tick announced).liveSound ∧ (∃ t, step (tick burning) = .next t) ∧ (∃ t, step (stopping (tick burning)) = .next t)
      ∧ (∃ t, step (tick announced) = .next t) ∧ cutterReady.sp.mode ≠ .run ∧ cutterRun.sp.mode = .run
      ∧ cutterRun.rc.current.bind (fun c => c.copy.hallWindow cutterRun.cfg.params) = none
      ∧ cutterRun.liveNext.bind (fun c => c.hallWindow cutterRun.cfg.params) = none ∧ burning.sp.mode = .run
      ∧ burning.rc.current.bind (fun c => c.copy.hallWindow burning.cfg.params) = some (⟨0, 16, 0, 10⟩, .cutLow) :=
  ⟨⟨by decide, rfl, by decide⟩, fun _ => by decide, rfl, ⟨by decide, fun _ => rfl⟩, ⟨_, rfl⟩, ⟨_, rfl⟩, ⟨_, rfl⟩,
    by decide, rfl, rfl, rfl, rfl,
    by decide⟩

theorem witness_StepTakesTheFrontCommand :
    (commanded.pending = [Instr.powerOn]) ∧
    (cutterRun.pending = []) := by
  and_intros
  all_goals decide +kernel

theorem witness_TimeBaseCountsMilliseconds :
    (Instr.backoffEnd ≠ Instr.timeBaseTick ∧ Instr.backoffEnd ≠ Instr.powerOn ∧ exec Instr.backoffEnd cutterRun
      = Host.Outcome.next cutterRun) := by
  and_intros
  all_goals first
    | decide +kernel
    | rfl

theorem witness_RestartKeepsWhatTheRulesKeep :
    (BitVec.toNat frame.length ≤ 34 ∧ frame.cut = false) := by
  and_intros
  all_goals decide +kernel

theorem witness_ImageIsReadAndJudged :
    ((refusedTimes 2).cfg.load = .loading ∧ (refusedTimes 2).cfg.refusals < 3) ∧
    ((refusedTimes 3).cfg.load = .loading ∧ (refusedTimes 3).cfg.refusals = 3) ∧
    (State.reset.cfg.load = .loading ∧ ((State.reset.cfg.image ++ List.take 13 (image 0 1)).length < 6 ∨
      (State.reset.cfg.image ++ List.take 13 (image 0 1)).length < fieldNat (State.reset.cfg.image ++ List.take
      13 (image 0 1)) 2 2)) ∧
    (cutterRun.cfg.load ≠ .loading) ∧
    (fieldNat [32, 78] 0 2 ≠ 20001) ∧
    (fieldNat [33, 78, 13, 0] 0 2 = 20001 ∧ (1024 < fieldNat [33, 78, 13, 0] 2 2 ∨ fieldNat [33, 78, 13, 0] 2 2
      < 14)) ∧
    (fieldNat [33, 78, 1, 4] 0 2 = 20001 ∧ (1024 < fieldNat [33, 78, 1, 4] 2 2 ∨ fieldNat [33, 78, 1, 4] 2 2 <
      14)) ∧
    (fieldNat [33, 78, 14, 0] 0 2 = 20001 ∧ fieldNat [33, 78, 14, 0] 2 2 ≤ 1024 ∧ 14 ≤ fieldNat [33, 78, 14, 0]
      2 2 ∧ imageCrcGood [33, 78, 14, 0] = false) ∧
    (fieldNat (image 0 1) 0 2 = 20001 ∧ fieldNat (image 0 1) 2 2 ≤ 1024 ∧ 14 ≤ fieldNat (image 0 1) 2 2 ∧
      imageCrcGood (image 0 1) = true) ∧
    (fieldNat (image 0 0) 0 2 = 20001 ∧ fieldNat (image 0 0) 2 2 ≤ 1024 ∧ 14 ≤ fieldNat (image 0 0) 2 2 ∧
      imageCrcGood (image 0 0) = true) ∧
    (imageRead (State.reset.cfg.image ++ image 0 0) = true ∧ imageFault (State.reset.cfg.image ++ image 0 0) =
      some .badIdentity) := by
  and_intros
  all_goals decide +kernel

theorem witness_GoodImageIsLoaded :
    (State.reset.cfg.load = .loading ∧ imageRead (State.reset.cfg.image ++ image 0 1) = true ∧ imageFault
      (State.reset.cfg.image ++ image 0 1) = none) ∧
    ((ImageBlock.wear, 4, 5) ∈ [(ImageBlock.geometry, 1, 28), (.margins, 2, 16), (.timing, 3, 33), (.wear, 4, 5)]) := by
  and_intros
  all_goals decide +kernel

theorem witness_LoadedParametersAreInRange :
    (State.reset.cfg.load = .loading ∧ exec (Instr.i2cTransferDone true (image 2 1)) State.reset =
      Host.Outcome.next (after (Instr.i2cTransferDone true (image 2 1)) State.reset) ∧ (after
      (Instr.i2cTransferDone true (image 2 1)) State.reset).cfg.load = .loaded) := by
  and_intros
  all_goals first
    | decide +kernel
    | rfl

theorem witness_EnvelopesCoverTheReport :
    (5000 * 200 ≤ 1000 * 1000) ∧
    (1000 * 1000 < 5000 * 201) ∧
    ((freshEnvelope Params.default (standing .plate .low) 0 0 = freshEnvelope Params.default (standing .plate
      .low) 0 0 ∨ freshEnvelope Params.default (standing .plate .low) 0 0 = staleEnvelope Params.default
      (standing .plate .low) 0 0)) ∧
    ((staleEnvelope Params.default atCorner 0 0 = freshEnvelope Params.default atCorner 0 0 ∨ staleEnvelope
      Params.default atCorner 0 0 = staleEnvelope Params.default atCorner 0 0)) ∧
    (moving5000.vx.natAbs ≤ 5000 ∧ moving5000.vy.natAbs ≤ 5000) := by
  and_intros
  all_goals decide +kernel

theorem witness_CraneResultFollowsItsState :
    ((crane7 .lost).heard = true ∧ { crane7 .lost with heard := false }.heard = false ∧
      craneResult Params.default 0 (crane7 .lost) offRunway ⟨100, 200, 0, 9⟩ .mark = .cutoff ∧
      craneResult Params.default 0 { crane7 .lost with heard := false } offRunway ⟨100, 200, 0, 9⟩ .mark = .clear) ∧
    ((crane7 .fresh).state = .fresh ∧ (standing .empty .high).load = .empty ∧ (standing .empty .high).hook =
      .high) ∧
    (((crane7 .fresh).state = .fresh ∧ ¬((standing .empty .low).load = .empty ∧ (standing .empty .low).hook =
      .high) ∨ (crane7 .fresh).state = .stale) ∧ (Params.default.margins .mark).cutoff ≤ (Params.default.margins
      .mark).hold) ∧
    (((crane7 .stale).state = .fresh ∧ ¬((standing .empty .high).load = .empty ∧ (standing .empty .high).hook =
      .high) ∨ (crane7 .stale).state = .stale)) ∧
    ((crane7 .lost).state = .lost ∧ (Rect.mk (↑(standing .empty .high).span.lo : ℤ) (↑(standing .empty
      .high).span.hi : ℤ) 0 (↑Params.default.ymax : ℤ)).overlaps (Rect.mk 9 20 0 1) = true) := by
  and_intros
  all_goals decide +kernel

theorem witness_EvaluationFormsTheHighestResult :
    (cutterRun.rc.release = .idle ∧ (faulted true).rc.release = .faulted) ∧
    (waiting.rc.release = .waiting ∧ waiting.rc.head = some copy ∧ copy.content.fume ≠ .none ∧
      copy.window = some ⟨0, 16, 0, 10⟩) ∧
    (nestWaiting.rc.head = some nestCopy ∧ nestWaiting.rc.release = .waiting ∧ nestCopy.content.fume = .none) ∧
    (burning.rc.release = .inFlight ∧ burning.rc.current = some current ∧ (broken true).rc.release = .broken ∧
      (broken true).rc.current = some (brokenCopy true)) ∧
    ((peering waiting (crane7 .fresh)).role = .cutter ∧ (peering waiting (crane7 .fresh)).windowUnderTest = some
      (Rect.mk 0 16 0 10, .cutLow) ∧ entryAt (peering waiting (crane7 .fresh)).pt.entries 0 = some (crane7
      .fresh) ∧ (crane7 .fresh).data = PeerData.crane (standing .plate .low)) ∧
    ((evaluateAll (peering waiting (crane7 .fresh))).env.station ≠ .clear) ∧
    ((peering cutterRun (crane7 .fresh)).role = .cutter ∧ (peering cutterRun (crane7 .fresh)).windowUnderTest =
      none) := by
  and_intros
  all_goals decide +kernel

theorem witness_PositionSetsRecordAndLines :
    (rackRun.takes frame ∧ rackRun.role ≠ .crane ∧ cutterRun.takes frame ∧ cutterRun.role ≠ .crane) ∧
    (craneRun.takes frame ∧ craneRun.role = .crane) ∧
    ((part .crane .offline).takes frame ∧ (part .crane .offline).role = .crane) ∧
    ((own .plate .low).isStale Params.default 301 = true) ∧
    ((own .empty .high).isStale Params.default 300 = false ∧ (own .empty .high).load = .empty ∧ (own .empty
      .high).hook = .high) ∧
    ((own .plate .low).isStale Params.default 300 = false) ∧
    ((¬((own .plate .low).load = .empty ∧ (own .plate .low).hook = .high))) := by
  and_intros
  all_goals decide +kernel

theorem witness_BeaconsFillThePeerTable :
    ((Instr.beaconRack (rackBeacon 63) = Instr.beaconCutter (rackBeacon 63) ∧ Role.rack = Role.cutter ∨
      Instr.beaconRack (rackBeacon 63) = Instr.beaconCrane (rackBeacon 63) ∧ Role.rack = Role.crane ∨
      Instr.beaconRack (rackBeacon 63) = Instr.beaconRack (rackBeacon 63) ∧ Role.rack = Role.rack) ∧
      rackRun.delivers (beaconKind .rack) (rackBeacon 63) ∧ inRange 1 62 (BitVec.toNat (rackBeacon 63).source) =
      false) ∧
    ((Instr.beaconRack (rackBeacon 0) = Instr.beaconCutter (rackBeacon 0) ∧ Role.rack = Role.cutter ∨
      Instr.beaconRack (rackBeacon 0) = Instr.beaconCrane (rackBeacon 0) ∧ Role.rack = Role.crane ∨
      Instr.beaconRack (rackBeacon 0) = Instr.beaconRack (rackBeacon 0) ∧ Role.rack = Role.rack) ∧
      rackRun.delivers (beaconKind .rack) (rackBeacon 0) ∧ inRange 1 62 (BitVec.toNat (rackBeacon 0).source) =
      false) ∧
    ((Instr.beaconRack (rackBeacon 7) = Instr.beaconCutter (rackBeacon 7) ∧ Role.rack = Role.cutter ∨
      Instr.beaconRack (rackBeacon 7) = Instr.beaconCrane (rackBeacon 7) ∧ Role.rack = Role.crane ∨
      Instr.beaconRack (rackBeacon 7) = Instr.beaconRack (rackBeacon 7) ∧ Role.rack = Role.rack) ∧ (peering
      rackRun (rack7 .fresh)).delivers (beaconKind .rack) (rackBeacon 7) ∧ inRange 1 62 (BitVec.toNat
      (rackBeacon 7).source) = true ∧ (peering rackRun (rack7 .fresh)).pt.find (BitVec.toNat (rackBeacon
      7).source) = some 0 ∧ entryAt (peering rackRun (rack7 .fresh)).pt.entries 0 = some (rack7 .fresh) ∧ (rack7
      .fresh).data.role = .rack ∧ (rack7 .fresh).state = .fresh ∧ inRange 1 127 (BitVec.toNat ((rackBeacon
      7).seq - (rack7 .fresh).sequence)) = false) ∧
    ((peering rackRun (rack7 .stale)).delivers (beaconKind .rack) (rackBeacon 7) ∧ (peering rackRun (rack7
      .stale)).pt.find (BitVec.toNat (rackBeacon 7).source) = some 0 ∧ entryAt (peering rackRun (rack7
      .stale)).pt.entries 0 = some (rack7 .stale) ∧ (rack7 .stale).data.role = .rack ∧ ((rack7 .stale).state =
      .fresh → inRange 1 127 (BitVec.toNat ((rackBeacon 7).seq - (rack7 .stale).sequence)) = true)) ∧
    ((¬((peering rackRun (rack7 .stale)).role = .cutter ∧ Role.rack = .crane)) ∧ (¬((peering rackRun (rack7
      .stale)).role = .crane ∧ Role.rack = .cutter))) ∧
    ((Instr.beaconCrane craneBeacon = Instr.beaconCutter craneBeacon ∧ Role.crane = Role.cutter ∨
      Instr.beaconCrane craneBeacon = Instr.beaconCrane craneBeacon ∧ Role.crane = Role.crane ∨
      Instr.beaconCrane craneBeacon = Instr.beaconRack craneBeacon ∧ Role.crane = Role.rack) ∧ (peering waiting
      (crane7 .lost)).delivers (beaconKind .crane) craneBeacon ∧ inRange 1 62 (BitVec.toNat craneBeacon.source)
      = true ∧ (peering waiting (crane7 .lost)).pt.find (BitVec.toNat craneBeacon.source) = some 0 ∧ entryAt
      (peering waiting (crane7 .lost)).pt.entries 0 = some (crane7 .lost) ∧ (crane7 .lost).data.role = .crane ∧
      ((crane7 .lost).state = .fresh → inRange 1 127 (BitVec.toNat (craneBeacon.seq - (crane7 .lost).sequence))
      = true)) ∧
    ((peering rackRun (crane7 .fresh)).delivers (beaconKind .rack) (rackBeacon 7) ∧ (peering rackRun (crane7
      .fresh)).pt.find (BitVec.toNat (rackBeacon 7).source) = some 0 ∧ entryAt (peering rackRun (crane7
      .fresh)).pt.entries 0 = some (crane7 .fresh) ∧ (crane7 .fresh).data.role ≠ .rack) ∧
    ((peering rackRun (crane7 .fresh)).role = .rack) ∧
    ((peering burning (rack7 .fresh)).delivers (beaconKind .crane) craneBeacon ∧ (peering burning (rack7
      .fresh)).pt.find (BitVec.toNat craneBeacon.source) = some 0 ∧ entryAt (peering burning (rack7
      .fresh)).pt.entries 0 = some (rack7 .fresh) ∧ (rack7 .fresh).data.role ≠ .crane) ∧
    ((Instr.beaconRack (rackBeacon 62) = Instr.beaconCutter (rackBeacon 62) ∧ Role.rack = Role.cutter ∨
      Instr.beaconRack (rackBeacon 62) = Instr.beaconCrane (rackBeacon 62) ∧ Role.rack = Role.crane ∨
      Instr.beaconRack (rackBeacon 62) = Instr.beaconRack (rackBeacon 62) ∧ Role.rack = Role.rack) ∧
      rackRun.delivers (beaconKind .rack) (rackBeacon 62) ∧ inRange 1 62 (BitVec.toNat (rackBeacon 62).source) =
      true ∧ rackRun.pt.find (BitVec.toNat (rackBeacon 62).source) = none ∧ lowestEmpty rackRun.pt.entries =
      some 0) ∧
    (burning.delivers (beaconKind .crane) craneBeacon ∧ burning.pt.find (BitVec.toNat craneBeacon.source) = none
      ∧ lowestEmpty burning.pt.entries = some 0) ∧
    ((fullTable rackRun true).delivers (beaconKind .rack) (rackBeacon 62) ∧ (fullTable rackRun true).pt.find
      (BitVec.toNat (rackBeacon 62).source) = none ∧ lowestEmpty (fullTable rackRun true).pt.entries = none ∧ (∀
      (k : ℕ) (e : PeerEntry), entryAt (fullTable rackRun true).pt.entries k = some e → e.pinned = true)) ∧
    ((fullTable rackRun false).delivers (beaconKind .rack) (rackBeacon 62) ∧ (fullTable rackRun false).pt.find
      (BitVec.toNat (rackBeacon 62).source) = none ∧ lowestEmpty (fullTable rackRun false).pt.entries = none ∧
      (fullTable rackRun false).pt.entries.length = 48 ∧ entryAt (fullTable rackRun false).pt.entries 0 = some
      first ∧ first.pinned = false ∧ (∀ (m : ℕ) (e : PeerEntry), entryAt (fullTable rackRun false).pt.entries m
      = some e → e.pinned = false → m ≠ 0 → e.receiptAge (fullTable rackRun false).time < first.receiptAge
      (fullTable rackRun false).time ∨ e.receiptAge (fullTable rackRun false).time = first.receiptAge (fullTable
      rackRun false).time ∧ first.station < e.station)) ∧
    ((peering rackRun (rack7 .stale)).role = .rack) ∧
    ((peering craneRun cutter7).delivers (beaconKind .cutter) { cutterBeacon with seq := 0 } ∧ (peering craneRun
      { cutter7 with state := .stale }).pt.find 7 = some 0 ∧ craneRun.role = .crane ∧ Role.cutter ∈ [Role.cutter]) ∧
    ((peering cutterRun (crane7 .stale)).delivers (beaconKind .crane) craneBeacon ∧ (peering cutterRun (crane7
      .stale)).pt.find 7 = some 0 ∧ (peering cutterRun (crane7 .stale)).rc.release = .idle ∧ cutterRun.role = .cutter ∧
      Role.crane ∈ [Role.crane]) ∧
    ((peering burning (crane7 .stale)).delivers (beaconKind .crane) craneBeacon ∧ (peering burning (crane7
      .stale)).pt.find 7 = some 0 ∧ burning.role = .cutter ∧ burning.rc.release = .inFlight ∧ burning.rc.current =
      some current ∧ current.copy.content.isArc = true) ∧
    ((fullTable craneRun false).delivers (beaconKind .rack) (rackBeacon 62) ∧ (fullTable craneRun false).pt.find 62 =
      none ∧ craneRun.role = .crane) ∧
    ((fullTable cutterRun false).delivers (beaconKind .rack) (rackBeacon 62) ∧ (fullTable cutterRun false).rc.release =
      .idle ∧ Role.crane ∈ [first.data.role, Role.rack] ∧ ∀ n, entryAt (fullTable cutterRun false).mu.moves n =
      none) := by
  and_intros
  all_goals first
    | decide +kernel
    | exact full_table_pinned
    | exact first_is_oldest
    | exact no_moves

theorem witness_AgingStepAgesEveryEntry :
    ((peering (at_ 15000 rackRun) (rack7 .fresh)).pt.agingTimer = some (Timer.mk 0 0) ∧ (peering (at_ 15000
      rackRun) (rack7 .fresh)).expired (some (Timer.mk 0 0)) = true ∧ (peering (at_ 15000 rackRun) (rack7
      .fresh)).pt.entries.length = 48) ∧
    ((peering (at_ 3000 rackRun) (rack7 .fresh)).pt.agingTimer = some (Timer.mk 0 0) ∧ (peering (at_ 3000
      rackRun) (rack7 .fresh)).expired (some (Timer.mk 0 0)) = true ∧ (peering (at_ 3000 rackRun) (rack7
      .fresh)).pt.entries.length = 48) ∧
    ((peering (at_ 1000 burning) (crane7 .fresh)).pt.agingTimer = some (Timer.mk 0 0) ∧ (peering (at_ 1000
      burning) (crane7 .fresh)).expired (some (Timer.mk 0 0)) = true ∧ (peering (at_ 1000 burning) (crane7
      .fresh)).pt.entries.length = 48) ∧
    ((peering (at_ 4999 craneRun) cutter7).pt.agingTimer = some (Timer.mk 0 0) ∧ (peering (at_ 4999 craneRun)
      cutter7).expired (some (Timer.mk 0 0)) = true ∧ (peering (at_ 4999 craneRun) cutter7).pt.entries.length =
      48) ∧
    (rackRun.expired rackRun.pt.agingTimer = false) ∧
    ((steadyBurning 999).pt.agingTimer = some (Timer.mk 0 0) ∧ (steadyBurning 999).expired (some (Timer.mk 0 0)) = true ∧
      (steadyBurning 999).rc.release = .inFlight ∧ (steadyBurning 999).rc.current = some current ∧
      current.copy.content.isArc = true ∧ ∀ n e, entryAt (steadyBurning 999).pt.entries n = some e →
      (steadyBurning 999).steady e) ∧
    ((losing (awaited 1 [])).pt.agingTimer = some (Timer.mk 0 0) ∧ (losing (awaited 1 [])).expired (some (Timer.mk 0 0)) =
      true ∧ (losing (awaited 1 [])).pt.entries.length = 48 ∧ entryAt (losing (awaited 1 [])).pt.entries 0 = some
      (crane7 .stale) ∧ (losing (awaited 1 [])).cfg.params.lostTime (crane7 .stale).data.role ≤ (crane7
      .stale).receiptAge (losing (awaited 1 [])).time ∧ (losing (awaited 1 [])).role = .cutter ∧ (losing (awaited 1
      [])).rc.release = .idle ∧ ∀ n x, n ≠ 0 → entryAt (losing (awaited 1 [])).pt.entries n = some x →
      (losing (awaited 1 [])).steady x) ∧
    ((peering (at_ 5000 rackRun) (crane7 .stale)).role = .rack ∧ ∀ n r, entryAt (peering (at_ 5000 rackRun) (crane7
      .stale)).st.records n = some r → r.piece.reservation ≠ some (crane7 .stale).station) ∧
    (entryAt rackRun.mu.moves 7 = none) ∧
    (entryAt (losing cancelling).mu.moves 0 = some cancelling ∧ cancelling.state = .awarded ∧ cancelling.crane = some 7 ∧
      (losing cancelling).linkTakes 7 (.moveRevoke 1) ∧ cancelling.cancelPending = true) ∧
    ((entry .awarded (some 7)).cancelPending = false ∧ (losing (entry .awarded (some 7))).linkTakes 0 (.moveCall 1 1
      info)) ∧
    (entryAt (losing (awaited 1 [bid 8])).mu.moves 0 = some (awaited 1 [bid 8]) ∧ (awaited 1 [bid 8]).state = .opened ∧
      (awaited 1 [bid 8]).replyTimer ≠ none ∧ (awaited 1 [bid 8]).crane = some 7) ∧
    (entryAt (losing (bidding 1 [bid 7])).mu.moves 0 = some (bidding 1 [bid 7]) ∧ (bidding 1 [bid 7]).replyTimer = none ∧
      awaited8.state = .opened ∧ awaited8.crane ≠ some 7) ∧
    ((entry .started (some 7)).state ≠ .opened ∧ (entry .started (some 7)).state ≠ .awarded ∧ (entry .awarded (some
      8)).crane ≠ some 7) := by
  and_intros
  all_goals first
    | decide +kernel
    | (intro n x h hx; exact absurd (single_entry hx).1 h)
    | (intro n e h; obtain ⟨rfl, rfl⟩ := single_entry h; unfold State.steady; decide +kernel)
    | exact no_reservations

theorem witness_PayloadsAreReadBack :
    ((Message.custodyOffer piece).fits 7 = true) ∧
    ((Message.stockCandidate 255 (Candidate.mk (candidate 7).rack (candidate 7).id 64 (candidate 7).grade
      (candidate 7).thickness (candidate 7).length (candidate 7).width (some (Notch.mk 5 6 .upperLeft))
      (candidate 7).heat 4294967295)).fits 7 = true) ∧
    ((Message.moveBid 1 255 16777215).fits 7 = true) ∧
    ((Message.moveDone 1 false none).fits 7 = true) ∧
    ((Message.moveDone 1 true (some 255)).fits 7 = true) ∧
    ((Message.moveCall 1 3 (MoveInfo.mk info.kind none info.fromStation info.fromX info.toStation info.toX
      info.priority)).fits 7 = true) ∧
    (Params.default.xmax = craneRun.cfg.params.xmax ∧ Params.default.ymax = craneRun.cfg.params.ymax ∧
      Params.default.xmax < 16777216 ∧ Params.default.ymax < 16777216 ∧ craneRun.role = .crane ∧
      craneRun.env.own.x ≤ Params.default.xmax ∧ craneRun.env.own.y ≤ Params.default.ymax ∧
      craneRun.env.own.vx.natAbs ≤ 5000 ∧ craneRun.env.own.vy.natAbs ≤ 5000 ∧ craneRun.env.own.hx ≤ 12000 ∧
      craneRun.env.own.hy ≤ 12000 ∧ craneRun.env.own.age craneRun.time ≤ 255) ∧
    (Params.default.xmax = farCrane.cfg.params.xmax ∧ Params.default.ymax = farCrane.cfg.params.ymax ∧
      farCrane.role = .crane ∧ farCrane.env.own.x ≤ Params.default.xmax ∧ farCrane.env.own.y ≤
      Params.default.ymax ∧ farCrane.env.own.vx.natAbs ≤ 5000 ∧ farCrane.env.own.vy.natAbs ≤ 5000 ∧
      farCrane.env.own.hx ≤ 12000 ∧ farCrane.env.own.hy ≤ 12000 ∧ farCrane.env.own.age farCrane.time ≤ 255) ∧
    (Params.default.xmax = burning.cfg.params.xmax ∧ Params.default.ymax = burning.cfg.params.ymax ∧
      burning.role = .cutter ∧ burning.cfg.params.bedX + burning.cfg.params.bedLength ≤ Params.default.xmax ∧
      burning.cfg.params.bedY + burning.cfg.params.bedWidth ≤ Params.default.ymax ∧ (∀ (w : Rect),
      burning.rc.live.window = some w → 0 ≤ w.xlo ∧ w.xlo ≤ w.xhi ∧ w.xhi ≤ ↑Params.default.xmax ∧ 0 ≤ w.ylo ∧
      w.ylo ≤ w.yhi ∧ w.yhi ≤ ↑Params.default.ymax)) ∧
    (Params.default.xmax = rackRun.cfg.params.xmax ∧ Params.default.ymax = rackRun.cfg.params.ymax ∧
      rackRun.role = .rack ∧ rackRun.cfg.params.slotCount ≤ 64) := by
  and_intros
  all_goals decide +kernel

theorem witness_TelegramsAreJudgedInOrder :
    (receivedTelegram (Instr.beaconRack (rackBeacon 7)) = some (18, some 8, rackBeacon 7) ∧
      (State.reset.isLoaded = false ∨ State.reset.flc.attempt ≠ none)) ∧
    (((probing rackRun).isLoaded = false ∨ (probing rackRun).flc.attempt ≠ none)) ∧
    (receivedTelegram (Instr.telegramOfUnknownKind 19 (telegram TelegramKind.beaconRack 7 (List.replicate 61
      0))) = some (19, none, telegram TelegramKind.beaconRack 7 (List.replicate 61 0)) ∧ rackRun.isLoaded = true
      ∧ rackRun.flc.attempt = none ∧ 60 < (telegram TelegramKind.beaconRack 7 (List.replicate 61
      0)).payload.length) ∧
    (receivedTelegram (Instr.beaconRack spoilt) = some (18, some 8, spoilt) ∧ spoilt.payload.length ≤ 60 ∧
      crcGood spoilt 18 = false) ∧
    (receivedTelegram (Instr.beaconRack (rackBeacon 5)) = some (18, some 8, rackBeacon 5) ∧ (rackBeacon
      5).payload.length ≤ 60 ∧ crcGood (rackBeacon 5) 18 = true ∧ BitVec.toNat (rackBeacon 5).source =
      rackRun.cfg.params.station ∧ rackRun.flc.link = .normal) ∧
    ((queueing craneRun [queued 1 true, queued 2 false]).isLoaded = true ∧ (queueing craneRun [queued 1 true,
      queued 2 false]).flc.attempt = none ∧ BitVec.toNat (rackBeacon 5).source = (queueing craneRun [queued 1
      true, queued 2 false]).cfg.params.station ∧ (queueing craneRun [queued 1 true, queued 2 false]).flc.link =
      .normal) ∧
    ((linked rackRun (.isolated .duplicate)).isLoaded = true ∧ (linked rackRun (.isolated
      .duplicate)).flc.attempt = none ∧ BitVec.toNat (rackBeacon 5).source = (linked rackRun (.isolated
      .duplicate)).cfg.params.station ∧ (linked rackRun (.isolated .duplicate)).flc.link = .isolated .duplicate)
      ∧
    ((linked rackRun (.isolated .jabber)).isLoaded = true ∧ (linked rackRun (.isolated .jabber)).flc.attempt =
      none ∧ BitVec.toNat (rackBeacon 5).source = (linked rackRun (.isolated .jabber)).cfg.params.station ∧
      (linked rackRun (.isolated .jabber)).flc.link = .isolated .jabber ∧ IsolationCause.jabber ≠
      IsolationCause.duplicate) ∧
    (station6.isLoaded = true ∧ station6.flc.attempt = none ∧ (rackBeacon 7).payload.length ≤ 60 ∧ crcGood
      (rackBeacon 7) 18 = true ∧ BitVec.toNat (rackBeacon 7).source ≠ station6.cfg.params.station ∧
      station6.addressed (BitVec.toNat (rackBeacon 7).dest) = false) ∧
    (receivedTelegram (Instr.custodyAccept (telegram TelegramKind.custodyAccept 7 [0, 0])) = some (33, some 3,
      telegram TelegramKind.custodyAccept 7 [0, 0]) ∧ (telegram TelegramKind.custodyAccept 7 [0,
      0]).payload.length ≤ 60 ∧ crcGood (telegram TelegramKind.custodyAccept 7 [0, 0]) 33 = true ∧ BitVec.toNat
      (telegram TelegramKind.custodyAccept 7 [0, 0]).source ≠ rackRun.cfg.params.station ∧ rackRun.addressed
      (BitVec.toNat (telegram TelegramKind.custodyAccept 7 [0, 0]).dest) = true ∧ some 3 ≠ some (telegram
      TelegramKind.custodyAccept 7 [0, 0]).payload.length) ∧
    (receivedTelegram (Instr.telegramOfUnknownKind 18 (telegram TelegramKind.beaconRack 7 [])) = some (18, none,
      telegram TelegramKind.beaconRack 7 []) ∧ (telegram TelegramKind.beaconRack 7 []).payload.length ≤ 60 ∧
      crcGood (telegram TelegramKind.beaconRack 7 []) 18 = true ∧ BitVec.toNat (telegram TelegramKind.beaconRack
      7 []).source ≠ rackRun.cfg.params.station ∧ rackRun.addressed (BitVec.toNat (telegram
      TelegramKind.beaconRack 7 []).dest) = true ∧ none ≠ some (telegram TelegramKind.beaconRack 7
      []).payload.length) := by
  and_intros
  all_goals decide +kernel

theorem witness_LinkSendsItsQueues :
    ((ticking (part .rack .offline)).flc.beaconTimer = some (Timer.mk 0 0) ∧ (ticking (part .rack
      .offline)).expired (some (Timer.mk 0 0)) = true ∧ (ticking (part .rack .offline)).announces = false) ∧
    ((ticking rackRun).flc.beaconTimer = some (Timer.mk 0 0) ∧ (ticking rackRun).expired (some (Timer.mk 0 0)) =
      true ∧ (ticking rackRun).announces = true ∧ List.drop (if Option.any (fun a => decide (a.source =
      TxSource.queue .periodic)) (ticking rackRun).flc.attempt = true then 1 else 0) (ticking
      rackRun).flc.class3 = []) ∧
    ((ticking (announcing rackRun true)).flc.beaconTimer = some (Timer.mk 0 0) ∧ (ticking (announcing rackRun
      true)).expired (some (Timer.mk 0 0)) = true ∧ (ticking (announcing rackRun true)).announces = true ∧
      List.drop (if Option.any (fun a => decide (a.source = TxSource.queue .periodic)) (ticking (announcing
      rackRun true)).flc.attempt = true then 1 else 0) (ticking (announcing rackRun true)).flc.class3 = []) ∧
    ((ticking (announcing rackRun false)).flc.beaconTimer = some (Timer.mk 0 0) ∧ (ticking (announcing rackRun
      false)).expired (some (Timer.mk 0 0)) = true ∧ (ticking (announcing rackRun false)).announces = true ∧
      List.drop (if Option.any (fun a => decide (a.source = TxSource.queue .periodic)) (ticking (announcing
      rackRun false)).flc.attempt = true then 1 else 0) (ticking (announcing rackRun false)).flc.class3 =
      [Queued.mk 0 Outgoing.beacon 3 none]) ∧
    ((ticking rackRun).expired (ticking rackRun).flc.spacingTimer = true ∧ (ticking rackRun).flc.urgentPending =
      false) ∧
    ((urgent (ticking rackRun)).expired (urgent (ticking rackRun)).flc.spacingTimer = true ∧ (urgent (ticking
      rackRun)).flc.urgentPending = true ∧ (urgent (ticking rackRun)).announces = true ∧ (urgent (ticking
      rackRun)).flc.class0 = []) ∧
    ((idleLine rackRun outgoing).isLoaded = true ∧ (idleLine rackRun outgoing).flc.link = .normal ∧ (idleLine
      rackRun outgoing).flc.backoff = none ∧ (idleLine rackRun outgoing).flc.attempt = none ∧ (idleLine rackRun
      outgoing).flc.queueOf TxClass.custody = [outgoing] ∧ (TxClass.custody = TxClass.urgent ∨ (idleLine rackRun
      outgoing).flc.class0 = []) ∧ (TxClass.custody = TxClass.urgent ∨ TxClass.custody = TxClass.custody ∨
      (idleLine rackRun outgoing).flc.class1 = []) ∧ (TxClass.custody ≠ TxClass.periodic ∨ (idleLine rackRun
      outgoing).flc.class2 = []) ∧ outgoing.body = Outgoing.message (Message.custodyAccept (StockId.mk 7 1))) ∧
    ((announcing rackRun false).isLoaded = true ∧ (announcing rackRun false).flc.link = .normal ∧ (announcing
      rackRun false).flc.backoff = none ∧ (announcing rackRun false).flc.attempt = none ∧ (announcing rackRun
      false).flc.queueOf TxClass.periodic = [Queued.mk 0 Outgoing.beacon 3 none] ∧ (TxClass.periodic =
      TxClass.urgent ∨ (announcing rackRun false).flc.class0 = []) ∧ (TxClass.periodic = TxClass.urgent ∨
      TxClass.periodic = TxClass.custody ∨ (announcing rackRun false).flc.class1 = []) ∧ (TxClass.periodic ≠
      TxClass.periodic ∨ (announcing rackRun false).flc.class2 = []) ∧ (Queued.mk 0 Outgoing.beacon 3 none).body
      = Outgoing.beacon ∧ (Queued.mk 0 Outgoing.beacon 3 none).dest = 0 ∧ (announcing rackRun
      false).beaconWithheld = false) ∧
    ((announcing craneRun false).isLoaded = true ∧ (announcing craneRun false).flc.link = .normal ∧ (announcing
      craneRun false).flc.backoff = none ∧ (announcing craneRun false).flc.attempt = none ∧ (announcing craneRun
      false).flc.queueOf TxClass.periodic = [Queued.mk 0 Outgoing.beacon 3 none] ∧ (TxClass.periodic =
      TxClass.urgent ∨ (announcing craneRun false).flc.class0 = []) ∧ (TxClass.periodic = TxClass.urgent ∨
      TxClass.periodic = TxClass.custody ∨ (announcing craneRun false).flc.class1 = []) ∧ (TxClass.periodic ≠
      TxClass.periodic ∨ (announcing craneRun false).flc.class2 = []) ∧ (announcing craneRun
      false).beaconWithheld = true) ∧
    ((sending rackRun outgoing 0).isLoaded = true ∧ (sending rackRun outgoing 0).flc.attempt = some (Attempt.mk
      (TxSource.queue .custody) [])) ∧
    ((probing (linked rackRun (.isolated .duplicate))).isLoaded = true ∧ (probing (linked rackRun (.isolated
      .duplicate))).flc.attempt = some (Attempt.mk TxSource.probe []) ∧ (probing (linked rackRun (.isolated
      .duplicate))).flc.link = .isolated .duplicate) ∧
    ((probing (linked rackRun (.isolated .jabber))).isLoaded = true ∧ (probing (linked rackRun (.isolated
      .jabber))).flc.attempt = some (Attempt.mk TxSource.probe []) ∧ ((probing (linked rackRun (.isolated
      .jabber))).flc.link = .isolated .collisions ∨ (probing (linked rackRun (.isolated .jabber))).flc.link =
      .isolated .jabber)) ∧
    ((probing (linked waiting (.isolated .collisions))).isLoaded = true ∧ (probing (linked waiting (.isolated
      .collisions))).flc.attempt = some (Attempt.mk TxSource.probe []) ∧ ((probing (linked waiting (.isolated
      .collisions))).flc.link = .isolated .collisions ∨ (probing (linked waiting (.isolated
      .collisions))).flc.link = .isolated .jabber)) := by
  and_intros
  all_goals decide +kernel

theorem witness_LinkFailsByTheRules :
    ((sending craneQueue outgoing 39).isLoaded = true ∧ (sending craneQueue outgoing 39).role = .crane ∧
      (sending craneQueue outgoing 39).flc.attempt = some ⟨.queue .custody, []⟩ ∧
      (sending craneQueue outgoing 39).flc.queueOf .custody = [outgoing] ∧
      39 ≤ (sending craneQueue outgoing 39).flc.collisionRun) ∧
    ((sending rackRun outgoing 0).isLoaded = true ∧ (sending rackRun outgoing 0).flc.attempt = some (Attempt.mk
      (TxSource.queue .custody) []) ∧ (sending rackRun outgoing 0).role ≠ .crane) ∧
    ((sending rackRun outgoing 39).isLoaded = true ∧ (sending rackRun outgoing 39).flc.attempt = some
      (Attempt.mk (TxSource.queue .custody) []) ∧ (sending rackRun outgoing 39).flc.queueOf TxClass.custody =
      [outgoing] ∧ 39 ≤ (sending rackRun outgoing 39).flc.collisionRun ∧ (sending rackRun outgoing 39).role ≠
      .crane) ∧
    ((announcing rackRun true).isLoaded = true ∧ (announcing rackRun true).flc.attempt = some (Attempt.mk
      (TxSource.queue .periodic) []) ∧ (announcing rackRun true).flc.queueOf TxClass.periodic = [Queued.mk 0
      Outgoing.beacon 3 none] ∧ (announcing rackRun true).flc.collisionRun < 39 ∧ (Queued.mk 0 Outgoing.beacon 3
      none).body = Outgoing.beacon ∧ 3 ≤ (Queued.mk 0 Outgoing.beacon 3 none).attempts) ∧
    ((sending rackRun (Queued.mk outgoing.dest outgoing.body 15 outgoing.sequence) 38).isLoaded = true ∧
      (sending rackRun (Queued.mk outgoing.dest outgoing.body 15 outgoing.sequence) 38).flc.attempt = some
      (Attempt.mk (TxSource.queue .custody) []) ∧ (sending rackRun (Queued.mk outgoing.dest outgoing.body 15
      outgoing.sequence) 38).flc.queueOf TxClass.custody = [Queued.mk outgoing.dest outgoing.body 15
      outgoing.sequence] ∧ (sending rackRun (Queued.mk outgoing.dest outgoing.body 15 outgoing.sequence)
      38).flc.collisionRun < 39 ∧ (Queued.mk outgoing.dest outgoing.body 15 outgoing.sequence).body =
      Outgoing.message (Message.custodyAccept (StockId.mk 7 1)) ∧ 15 ≤ (Queued.mk outgoing.dest outgoing.body 15
      outgoing.sequence).attempts) ∧
    ((sending rackRun outgoing 38).isLoaded = true ∧ (sending rackRun outgoing 38).flc.attempt = some
      (Attempt.mk (TxSource.queue .custody) []) ∧ (sending rackRun outgoing 38).flc.queueOf TxClass.custody =
      [outgoing] ∧ (sending rackRun outgoing 38).flc.collisionRun < 39 ∧ outgoing.attempts + 1 < if
      outgoing.body = Outgoing.beacon then 4 else 16) ∧
    ((probing rackRun).isLoaded = true ∧ (probing rackRun).flc.attempt = some (Attempt.mk TxSource.probe [])) ∧
    ((ticking (linked rackRun (.isolated .jabber))).flc.link = .isolated .jabber ∧ (ticking (linked rackRun
      (.isolated .jabber))).flc.probeTimer = some (Timer.mk 0 0) ∧ (ticking (linked rackRun (.isolated
      .jabber))).expired (some (Timer.mk 0 0)) = true) ∧
    ((ticking (linked craneRun (.isolated .jabber))).flc.link = .isolated .jabber ∧ (ticking (linked craneRun
      (.isolated .jabber))).flc.probeTimer = some (Timer.mk 0 0) ∧ (ticking (linked craneRun (.isolated
      .jabber))).expired (some (Timer.mk 0 0)) = true) ∧
    ((ticking (linked rackRun (.isolated .jabber))).isLoaded = true ∧ (ticking (linked rackRun (.isolated
      .jabber))).flc.probePending = true ∧ (ticking (linked rackRun (.isolated .jabber))).flc.attempt = none) ∧
    ((ticking (linked craneRun (.isolated .jabber))).isLoaded = true ∧ (ticking (linked craneRun (.isolated
      .jabber))).flc.probePending = true ∧ (ticking (linked craneRun (.isolated .jabber))).flc.attempt = none) := by
  and_intros
  all_goals decide +kernel

theorem witness_SegmentJoinsTheQueue :
    ((filled cutterReady 63).takesRaw travelWrite ∧ (filled cutterReady 63).role = .cutter ∧ (filled cutterReady
      63).sp.mode = .ready ∧ (filled cutterReady 63).sq.held.length < 64 ∧ (filled cutterReady 63).rc.live =
      LiveWindow.absent ∧ ((filled cutterReady 63).sq.stream = .opened ∨ (filled cutterReady 63).sq.stream =
      .seeking (segHeader (filled cutterReady 63).freeCount (List.take (BitVec.toNat travelWrite.length)
      travelWrite.bytes)).seq) ∧ judgeForm (filled cutterReady 63) (segHeader (filled cutterReady 63).freeCount
      (List.take (BitVec.toNat travelWrite.length) travelWrite.bytes)) (List.take (BitVec.toNat
      travelWrite.length) travelWrite.bytes) = Except.ok (SegContent.travel 1) ∧ (filled cutterReady
      63).sq.cursor = some cursor) ∧
    (cutterReady.takesRaw travelWrite ∧ cutterReady.role = .cutter ∧ cutterReady.sp.mode = .ready ∧
      cutterReady.sq.held.length < 64 ∧ cutterReady.rc.live = LiveWindow.absent ∧ (cutterReady.sq.stream =
      .opened ∨ cutterReady.sq.stream = .seeking (segHeader cutterReady.freeCount (List.take (BitVec.toNat
      travelWrite.length) travelWrite.bytes)).seq) ∧ judgeForm cutterReady (segHeader cutterReady.freeCount
      (List.take (BitVec.toNat travelWrite.length) travelWrite.bytes)) (List.take (BitVec.toNat
      travelWrite.length) travelWrite.bytes) = Except.ok (SegContent.travel 1) ∧ cutterReady.sq.held = [] ∧
      cutterReady.sq.cursor = none ∧ cutterReady.rc.release = .idle ∧ cutterReady.rc.head = none ∧
      (SegContent.travel 1).kind ≠ .repeats) ∧
    ((streaming cutterReady (.seeking 7)).takesRaw travelWrite ∧ (streaming cutterReady (.seeking 7)).role =
      .cutter ∧ (streaming cutterReady (.seeking 7)).sp.mode = .ready ∧ (streaming cutterReady (.seeking
      7)).sq.held.length < 64 ∧ (streaming cutterReady (.seeking 7)).rc.live = LiveWindow.absent ∧ ((streaming
      cutterReady (.seeking 7)).sq.stream = .opened ∨ (streaming cutterReady (.seeking 7)).sq.stream = .seeking
      (segHeader (streaming cutterReady (.seeking 7)).freeCount (List.take (BitVec.toNat travelWrite.length)
      travelWrite.bytes)).seq) ∧ judgeForm (streaming cutterReady (.seeking 7)) (segHeader (streaming
      cutterReady (.seeking 7)).freeCount (List.take (BitVec.toNat travelWrite.length) travelWrite.bytes))
      (List.take (BitVec.toNat travelWrite.length) travelWrite.bytes) = Except.ok (SegContent.travel 1) ∧
      (streaming cutterReady (.seeking 7)).sq.held = [] ∧ (streaming cutterReady (.seeking 7)).sq.cursor = none
      ∧ (streaming cutterReady (.seeking 7)).rc.release = .idle ∧ (streaming cutterReady (.seeking 7)).rc.head =
      none) ∧
    (cutterRun.takesRaw repeatWrite ∧ cutterRun.role = .cutter ∧ cutterRun.sp.mode ≠ .offline ∧ cutterRun.sq.held = [] ∧
      cutterRun.sq.cursor = none ∧ cutterRun.rc.head = none ∧ judgeForm cutterRun (segHeader 0 repeatWrite.bytes)
      repeatWrite.bytes = Except.ok (.repeats 3 5 6) ∧ (SegContent.repeats 3 5 6).kind = .repeats) ∧
    (repeatHeld.takesRaw cutWrite ∧ repeatHeld.sq.stream = .opened ∧ judgeForm repeatHeld (segHeader 0 cutWrite.bytes)
      cutWrite.bytes = Except.ok (cutTo 9) ∧ repeatHeld.sq.held = [⟨6, .repeats 255 5 6⟩] ∧ repeatHeld.sq.cursor = none ∧
      repeatHeld.rc.head = none ∧ repeatHeld.sq.armed = false ∧ (cutTo 9).kind ≠ .repeats) := by
  and_intros
  all_goals decide +kernel

theorem witness_FullQueueRefuses :
    ((filled cutterReady 64).takesRaw travelWrite ∧ (filled cutterReady 64).role = .cutter ∧ (filled cutterReady
      64).sp.mode ≠ .offline ∧ 64 ≤ (filled cutterReady 64).sq.held.length ∧ 3 ≤ BitVec.toNat travelWrite.length
      ∧ ((filled cutterReady 64).sq.stream = .opened ∨ (filled cutterReady 64).sq.stream = .seeking (segHeader
      (filled cutterReady 64).freeCount (List.take (BitVec.toNat travelWrite.length) travelWrite.bytes)).seq)) := by
  and_intros
  all_goals decide +kernel

theorem witness_MalformedSegmentsLockTheStream :
    (craneRun.takesRaw (RawWrite.mk 3 [2, 7, 0]) ∧ 3 ≤ BitVec.toNat (RawWrite.mk 3 [2, 7, 0]).length ∧
      (craneRun.role ≠ .cutter ∨ craneRun.sp.mode = .offline)) ∧
    ((streaming cutterReady (.locked .sequence 0 0)).takesRaw travelWrite ∧ 3 ≤ BitVec.toNat travelWrite.length
      ∧ (streaming cutterReady (.locked .sequence 0 0)).role = .cutter ∧ (streaming cutterReady (.locked
      .sequence 0 0)).sp.mode ≠ .offline ∧ (streaming cutterReady (.locked .sequence 0 0)).sq.stream = .locked
      .sequence 0 0) ∧
    ((streaming cutterReady (.seeking 8)).takesRaw travelWrite ∧ (streaming cutterReady (.seeking 8)).role =
      .cutter ∧ (streaming cutterReady (.seeking 8)).sp.mode ≠ .offline ∧ (streaming cutterReady (.seeking
      8)).sq.stream = .seeking 8 ∧ 8 ≠ (segHeader (streaming cutterReady (.seeking 8)).freeCount (List.take
      (BitVec.toNat travelWrite.length) travelWrite.bytes)).seq) ∧
    ((filled cutterReady 63).takesRaw invertedWrite ∧ 3 ≤ BitVec.toNat invertedWrite.length ∧ (filled
      cutterReady 63).role = .cutter ∧ (filled cutterReady 63).sp.mode ≠ .offline ∧ ((filled cutterReady
      63).sq.stream = .opened ∨ (filled cutterReady 63).sq.stream = .seeking (segHeader (filled cutterReady
      63).freeCount (List.take (BitVec.toNat invertedWrite.length) invertedWrite.bytes)).seq) ∧ (filled
      cutterReady 63).sq.held.length < 64 ∧ judgeForm (filled cutterReady 63) (segHeader (filled cutterReady
      63).freeCount (List.take (BitVec.toNat invertedWrite.length) invertedWrite.bytes)) (List.take
      (BitVec.toNat invertedWrite.length) invertedWrite.bytes) = Except.error .windowInverted) ∧
    ((BitVec.toNat (SegHeader.mk 8 7).kind < 1 ∨ 7 < BitVec.toNat (SegHeader.mk 8 7).kind)) ∧
    ((¬(BitVec.toNat (SegHeader.mk 7 7).kind < 1 ∨ 7 < BitVec.toNat (SegHeader.mk 7 7).kind)) ∧ (∃ e, (expecting
      6).sq.expected = some e ∧ e ≠ (SegHeader.mk 7 7).seq)) ∧
    ((¬(BitVec.toNat (SegHeader.mk 2 7).kind < 1 ∨ 7 < BitVec.toNat (SegHeader.mk 2 7).kind)) ∧ (¬∃ e,
      repeating.sq.expected = some e ∧ e ≠ (SegHeader.mk 2 7).seq) ∧ repeating.sq.repeatPending = true ∧
      (SegHeader.mk 2 7).kind ≠ 1 ∧ (SegHeader.mk 2 7).kind ≠ 3) ∧
    ((¬(BitVec.toNat (SegHeader.mk 1 7).kind < 1 ∨ 7 < BitVec.toNat (SegHeader.mk 1 7).kind)) ∧ (¬∃ e,
      cutterReady.sq.expected = some e ∧ e ≠ (SegHeader.mk 1 7).seq) ∧ (¬(cutterReady.sq.repeatPending = true ∧
      (SegHeader.mk 1 7).kind ≠ 1 ∧ (SegHeader.mk 1 7).kind ≠ 3)) ∧ readSegment [1] = none) ∧
    (readSegment invertedBytes = some (cutTo 8) ∧ (cutTo 8).window = some (Rect.mk 9 8 0 5) ∧ ((Rect.mk 9 8 0
      5).xhi < (Rect.mk 9 8 0 5).xlo ∨ (Rect.mk 9 8 0 5).yhi < (Rect.mk 9 8 0 5).ylo)) ∧
    (readSegment (cutBytes 193 93) = some (cutTo 24001) ∧ (cutTo 24001).window = some (Rect.mk 9 24001 0 5) ∧
      (Rect.mk 9 24001 0 5).xlo ≤ (Rect.mk 9 24001 0 5).xhi ∧ (Rect.mk 9 24001 0 5).ylo ≤ (Rect.mk 9 24001 0
      5).yhi ∧ ((Rect.mk 9 24001 0 5).xlo < 0 ∨ ↑cutterReady.cfg.params.bedLength < (Rect.mk 9 24001 0 5).xhi ∨
      (Rect.mk 9 24001 0 5).ylo < 0 ∨ ↑cutterReady.cfg.params.bedWidth < (Rect.mk 9 24001 0 5).yhi)) ∧
    (readSegment (cutBytes 192 93) = some (cutTo 24000) ∧ (cutTo 24000).window = some (Rect.mk 9 24000 0 5) ∧
      (Rect.mk 9 24000 0 5).xlo ≤ (Rect.mk 9 24000 0 5).xhi ∧ (Rect.mk 9 24000 0 5).ylo ≤ (Rect.mk 9 24000 0
      5).yhi ∧ 0 ≤ (Rect.mk 9 24000 0 5).xlo ∧ (Rect.mk 9 24000 0 5).xhi ≤ ↑cutterReady.cfg.params.bedLength ∧ 0
      ≤ (Rect.mk 9 24000 0 5).ylo ∧ (Rect.mk 9 24000 0 5).yhi ≤ ↑cutterReady.cfg.params.bedWidth) ∧
    ((¬∃ e, cutterReady.sq.expected = some e ∧ e ≠ (SegHeader.mk 2 7).seq) ∧ (¬(cutterReady.sq.repeatPending =
      true ∧ (SegHeader.mk 2 7).kind ≠ 1 ∧ (SegHeader.mk 2 7).kind ≠ 3)) ∧ readSegment travelBytes = some
      (SegContent.travel 1) ∧ (SegContent.travel 1).window = none) := by
  and_intros
  all_goals first
    | exact ⟨6, rfl, by decide⟩
    | (rintro ⟨_, h, _⟩; cases h)
    | decide +kernel

theorem witness_FlushDiscardsWhatIsHeld :
    (rackRun.takes frame ∧ rackRun.role ≠ .cutter ∧ craneRun.takes frame ∧ craneRun.role ≠ .cutter) ∧
    ((filled burning 64).takes frame ∧ (filled burning 64).role = .cutter ∧ (filled burning 64).releaseTable ∧
      (Instr.flush frame = Instr.flush frame ∧ RequestCode.flush = RequestCode.flush ∨ Instr.flush frame =
      Instr.resync frame 9 ∧ RequestCode.flush = RequestCode.resync)) ∧
    ((Instr.resync frame 9 = Instr.flush frame ∧ RequestCode.resync = RequestCode.flush ∨ Instr.resync frame 9 =
      Instr.resync frame 9 ∧ RequestCode.resync = RequestCode.resync)) ∧
    ((stopping (filled (broken true) 64)).takes frame ∧ (stopping (filled (broken true) 64)).role = .cutter ∧
      (stopping (filled (broken true) 64)).releaseTable ∧ (stopping (filled (broken true) 64)).rc.stopPending = true ∧
      (stopping (filled (broken true) 64)).sp.mode = .run) ∧ ((filled burning 64).rc.stopPending = false) ∧
      ((faulted true).rc.stopPending = false) ∧
    ((faulted true).takes frame ∧ (faulted true).role = .cutter ∧ (faulted true).releaseTable) := by
  and_intros
  all_goals first
    | decide +kernel
    | exact rfl

theorem witness_ResumeTimerJudgesTheWaitingCopy :
    (waiting.role = .cutter ∧ waiting.expired waiting.rc.resumeTimer = true ∧ waiting.rc.release = .waiting ∧
      waiting.rc.head = some copy ∧ releaseCheck copy waiting = .ok none ∧
      waiting.mayRelease copy.content false = true) ∧
    ((broken true).role = .cutter ∧ (broken true).expired (broken true).rc.resumeTimer = true ∧ (broken
      true).rc.release = .broken ∧ (broken true).rc.current = some (brokenCopy true) ∧ (brokenCopy true).copy = copy ∧
      (brokenCopy true).halted = true ∧ (brokenCopy true).brokenBefore = true ∧ (brokenCopy true).legend = none ∧
      (broken true).mayRelease copy.content true = true) ∧
    (travelWaiting.expired travelWaiting.rc.resumeTimer = true ∧ travelWaiting.rc.head = some travelCopy ∧ releaseCheck
      travelCopy travelWaiting = .ok none ∧ travelWaiting.mayRelease travelCopy.content false = true) ∧
    (markWaiting.expired markWaiting.rc.resumeTimer = true ∧ markWaiting.rc.head = some { copy with content := markPart } ∧
      releaseCheck { copy with content := markPart } markWaiting = .ok markLegend ∧ markLegend.isSome = true ∧
      markWaiting.mayRelease markPart false = true) ∧
    (nestEnding.role = .cutter ∧ nestEnding.expired nestEnding.rc.resumeTimer = true ∧ nestEnding.rc.release = .waiting ∧
      nestEnding.rc.head = some nestEndCopy ∧ nestEnding.rc.current = none ∧ nestEndCopy.content.kind ∈
      [CopyKind.nestStart, .nestEnd, .remnant] ∧ nestEnding.mayRelease nestEndCopy.content false = true ∧ releaseCheck
      nestEndCopy nestEnding = .ok none ∧ nestEnding.sq.held = [⟨1, cut⟩] ∧ nestEnding.sq.cursor = some cursor ∧
      cursor.copies ≤ cursor.k + 1) ∧
    ((stopped waiting).expired (stopped waiting).rc.resumeTimer = true ∧ (stopped waiting).rc.release = .waiting ∧
      (stopped waiting).rc.head = some copy ∧ (stopped waiting).mayRelease copy.content false = false) ∧
    ((broken false).expired (broken false).rc.resumeTimer = true ∧ (broken false).rc.release = .broken ∧ (broken
      false).rc.current = some (brokenCopy false) ∧ (brokenCopy false).halted = false) ∧
    ((ticked burning).role = .cutter ∧ (ticked burning).expired (ticked burning).rc.resumeTimer = true ∧
      (ticked burning).rc.release = .inFlight) := by
  and_intros
  all_goals decide +kernel

theorem witness_NestCopiesAreCheckedAndApplied :
    (nestCopy.content = .nestStart ⟨7, 1⟩ ∧ bedded.bedRecord = some (stocked .bed .held none) ∧
      (stocked .bed .held none).piece.id = ⟨7, 1⟩ ∧ cutterRun.bedRecord = none) ∧
    ({ nestCopy with content := .nestStart ⟨8, 1⟩ }.content = .nestStart ⟨8, 1⟩ ∧
      (stocked .bed .held none).piece.id ≠ ⟨8, 1⟩) ∧
    (compose bedded 1 0 .part none = .ok ⟨[0x50, 0x30, 0x30, 0x30, 0x30, 0x31, 0x20, 0x41], 0⟩ ∧
      compose cutterRun 1 0 .part none = .error .noSourceRecord) ∧
    (copy.content.kind ∈ [CopyKind.cut, .travel, .nestEnd]) ∧
    (nestCopy.content = SegContent.nestStart (StockId.mk 7 1) ∧ Option.map (fun r => r.piece.id)
      cutterRun.bedRecord ≠ some (StockId.mk 7 1)) ∧
    ((remnantCopy 1).content = SegContent.remnant 1 200 200 none ∧ cutterRun.bedRecord = none) ∧
    (bedRetired.bedRecord ≠ none ∧ ((bedRetired.st.find (StockId.mk bedRetired.cfg.params.station 1)).isSome =
      true ∨ StockId.mk bedRetired.cfg.params.station 1 ∈ bedRetired.st.retired)) ∧
    ((remnantCopy 65535).content = SegContent.remnant 65535 200 200 none ∧ bedded.bedRecord ≠ none ∧
      bedded.st.find (StockId.mk bedded.cfg.params.station 65535) = none ∧ StockId.mk bedded.cfg.params.station
      65535 ∉ bedded.st.retired) ∧
    (nestWaiting.role = .cutter ∧ nestWaiting.expired nestWaiting.rc.resumeTimer = true ∧ nestWaiting.rc.release
      = .waiting ∧ nestWaiting.rc.head = some nestCopy ∧ nestWaiting.mayRelease nestCopy.content false = true ∧
      releaseCheck nestCopy nestWaiting = Except.error .plateMismatch) ∧
    (bedded.bedRecord = some (stocked .bed .held none) ∧ lowestEmpty bedded.st.records = some 1) ∧
    (bedded.st.bed = some 0 ∧ entryAt bedded.st.records 0 = some (stocked .bed .held none)) := by
  and_intros
  all_goals decide +kernel

theorem witness_DoneReportCompletesTheCopy :
    (burning1.takes frame ∧ burning1.role = .cutter ∧ burning1.doneCopy 1 0 = some current ∧ current.flushed =
      false ∧ burning1.sq.cursor = some cursor ∧ burning1.rc.head = none ∧ cursor.copies ≤ cursor.k + 1 ∧
      burning1.sq.held = [SegRecord.mk 1 cut] ∧ (stopping burning1).doneCopy 1 0 = some current) ∧
    (burningMark.takes frame ∧ burningMark.doneCopy 1 0 = some marking ∧ marking.flushed = false ∧ marking.marks =
      some 1 ∧ burningMark.st.find ⟨burningMark.cfg.params.station, 1⟩ = some 0 ∧ entryAt burningMark.st.records 0 =
      some remnant5 ∧ burningMark.sq.cursor = some cursor ∧ burningMark.rc.head = none) ∧
    (burning2.takes frame ∧ burning2.doneCopy 1 0 = some current ∧ burning2.sq.cursor = some cursor2 ∧
      burning2.rc.head = none ∧ cursor2.k + 1 < cursor2.copies ∧ burning2.rc.stopPending = false ∧
      cursor2.record.content.kind = .cut ∧ burning2.cfg.params.inBed (Rect.shift ⟨0, 16, 0, 10⟩ 23984 0) = true) ∧
    ((stopping burning2).doneCopy 1 0 = some current ∧ (stopping burning2).rc.stopPending = true ∧
      (stopping burning2).sp.mode = .run) ∧
    (burning3.takes frame ∧ burning3.doneCopy 1 0 = some current ∧ burning3.sq.cursor = some cursor3 ∧
      burning3.rc.head = none ∧ cursor3.k + 1 < cursor3.copies ∧ burning3.cfg.params.inBed (Rect.shift ⟨0, 16, 0, 10⟩
      23985 0) = false ∧ burning3.sq.held = [⟨1, cut⟩] ∧ burning3.rc.stopPending = false) ∧
    ((flushedWith none).takes frame ∧ (flushedWith none).doneCopy 1 0 = some flushed ∧ flushed.flushed = true ∧
      (flushedWith none).rc.stopPending = false ∧ (flushedWith none).rc.head = none) ∧
    ((flushedWith (some copy)).doneCopy 1 0 = some flushed ∧ (flushedWith (some copy)).rc.head = some copy ∧
      copy.content.kind ∈ [CopyKind.cut, .travel, .mark]) := by
  and_intros
  all_goals decide +kernel

theorem witness_AbortsAndTimeoutsFaultTheCopy :
    (burning.takes frame ∧ burning.role = .cutter ∧ burning.abortedCopy 1 0 = some current ∧
      burning.rc.stopPending = false) ∧
    (burning.rc.current = some current ∧ burning.rc.release = .inFlight ∧ burning.expired burning.rc.flightTimer
      = true) ∧
    ((broken false).role = .cutter ∧ (broken false).rc.current = some (brokenCopy false) ∧ (broken
      false).rc.stopPending = false ∧ (broken false).rc.release = .broken ∧ (broken false).expired (broken
      false).rc.haltTimer = true) := by
  and_intros
  all_goals decide +kernel

theorem witness_ReportsMustNameTheCopy :
    (rackRun.takes frame ∧ rackRun.role ≠ .cutter ∧ craneRun.takes frame ∧ craneRun.role ≠ .cutter) ∧
    (waiting.takes frame ∧ waiting.role = .cutter ∧ (waiting.rc.release ≠ .inFlight ∧ waiting.rc.release ≠
      .broken ∨ ∀ (c : Current), waiting.rc.current = some c → c.copy.seq ≠ 1 ∨ c.copy.k ≠ 0)) ∧
    (burning.takes frame ∧ burning.role = .cutter ∧ (burning.rc.release ≠ .inFlight ∧ burning.rc.release ≠
      .broken ∨ ∀ (c : Current), burning.rc.current = some c → c.copy.seq ≠ 1 ∨ c.copy.k ≠ 1)) ∧
    ((broken true).takes frame ∧ (broken true).role = .cutter ∧ (broken true).rc.release = .broken ∧ (∀ (c :
      Current), (broken true).rc.current = some c → c.halted = true)) ∧
    (burning.rc.release ≠ .broken) ∧
    ((stopped (broken false)).takes frame ∧ (stopped (broken false)).role = .cutter ∧ (stopped (broken
      false)).haltedCopy 1 0 = some (brokenCopy false) ∧ ((stopped (broken false)).lu.estop = true ∨ (stopped
      (broken false)).rc.stopPending = true ∨ (brokenCopy false).copy.content.isArc = true ∧ (stopped (broken
      false)).env.station ≠ .clear)) ∧
    ((stopping (broken false)).takes frame ∧ (stopping (broken false)).role = .cutter ∧ (stopping (broken
      false)).haltedCopy 1 0 = some (brokenCopy false) ∧ ((stopping (broken false)).lu.estop = true ∨ (stopping
      (broken false)).rc.stopPending = true ∨ (brokenCopy false).copy.content.isArc = true ∧ (stopping (broken
      false)).env.station ≠ .clear)) ∧
    ((intruded (broken false)).takes frame ∧ (intruded (broken false)).role = .cutter ∧ (intruded (broken
      false)).haltedCopy 1 0 = some (brokenCopy false) ∧ ((intruded (broken false)).lu.estop = true ∨ (intruded
      (broken false)).rc.stopPending = true ∨ (brokenCopy false).copy.content.isArc = true ∧ (intruded (broken
      false)).env.station ≠ .clear)) := by
  and_intros
  all_goals decide +kernel

theorem witness_ContinueLeavesFaulted :
    (rackRun.takes frame ∧ rackRun.role ≠ .cutter ∧ craneRun.takes frame ∧ craneRun.role ≠ .cutter) ∧
    (waiting.takes frame ∧ waiting.role = .cutter ∧ waiting.rc.release ≠ .faulted) ∧
    ((filled (faulted true) 1).takes frame ∧ (filled (faulted true) 1).role = .cutter ∧ (filled (faulted true)
      1).rc.release = .faulted ∧ (filled (faulted true) 1).sp.mode = .ready ∧ (filled (faulted true)
      1).releaseTable ∧ (filled (faulted true) 1).rc.fault = some (fault true)) ∧
    ((filled (faulted false) 2).takes frame ∧ (filled (faulted false) 2).role = .cutter ∧ (filled (faulted
      false) 2).rc.release = .faulted ∧ (filled (faulted false) 2).sp.mode = .ready ∧ (filled (faulted false)
      2).releaseTable ∧ (filled (faulted false) 2).rc.fault = some (fault false)) := by
  and_intros
  all_goals decide +kernel

theorem witness_WearIsCountedRestoredAndCleared :
    (rackRun.takes frame ∧ rackRun.role ≠ .cutter ∧ craneRun.takes frame ∧ craneRun.role ≠ .cutter) ∧
    (cutterReady.rc.arcMs < cutterReady.cfg.params.arcLimit * 1000 ∧ cutterReady.cfg.params.arcLimit * 1000 ≤
      min (cutterReady.rc.arcMs + 7200000) 4294967295) ∧
    ((cutterReady.cfg.params.arcLimit * 1000 ≤ cutterReady.rc.arcMs ∨ min (cutterReady.rc.arcMs + 7199999)
      4294967295 < cutterReady.cfg.params.arcLimit * 1000)) ∧
    (waiting.takes frame ∧ waiting.role = .cutter ∧ waiting.rc.wearKnown = true) ∧
    (cutterReady.takes frame ∧ cutterReady.role = .cutter ∧ cutterReady.rc.wearKnown = false ∧
      cutterReady.sp.mode ≠ .run) ∧
    (burning.takes frame ∧ burning.role = .cutter ∧ (burning.rc.release = .inFlight ∨ burning.rc.release =
      .broken ∧ ∃ c, burning.rc.current = some c ∧ c.halted = false)) ∧
    ((broken false).takes frame ∧ (broken false).role = .cutter ∧ ((broken false).rc.release = .inFlight ∨
      (broken false).rc.release = .broken ∧ ∃ c, (broken false).rc.current = some c ∧ c.halted = false)) ∧
    (cutterReady.rc.release ≠ .inFlight ∧ (cutterReady.rc.release = .broken → ∀ (c : Current),
      cutterReady.rc.current = some c → c.halted = true)) := by
  and_intros
  all_goals decide +kernel

theorem witness_EstopBreaksAndWithdraws :
    ((stopped rackRun).lu.estop = true) ∧
    (rackRun.lu.estop = false) ∧
    (State.reset.lu.estop = false ∧ State.reset.isLoaded = false) ∧
    (rackRun.isLoaded = true ∧ (rackRun.role = .rack ∨ rackRun.role = .cutter ∧ rackRun.burning = false)) ∧
    (waiting.lu.estop = false ∧ waiting.isLoaded = true ∧ (waiting.role = .rack ∨ waiting.role = .cutter ∧
      waiting.burning = false)) ∧
    (granted.lu.estop = false ∧ granted.isLoaded = true ∧ granted.role = .crane) ∧
    ((stopped State.reset).lu.estop = true ∧ (stopped State.reset).isLoaded = false) ∧
    ((stopped rackRun).isLoaded = true ∧ (stopped rackRun).role = .rack) ∧
    ((stopped waiting).lu.estop = true ∧ (stopped waiting).isLoaded = true ∧ (stopped waiting).role = .cutter ∧
      1 ≤ (stopped waiting).cfg.params.resumeDelay ∧ (∀ (c : Copy) (again : Bool), (stopped waiting).rc.waiting
      = some (c, again) → c.content.isArc = true)) ∧
    ((stopped craneRun).lu.estop = true ∧ (stopped craneRun).isLoaded = true ∧ (stopped craneRun).role = .crane
      ∧ (stopped craneRun).mu.live = false) ∧
    (burning.lu.estop = false ∧ burning.isLoaded = true ∧ burning.role = .cutter ∧ burning.burning = true) := by
  and_intros
  all_goals first
    | decide +kernel
    | (intro _ _ h; cases h; decide +kernel)

theorem witness_DeclareStockEntersTheRecord :
    (cutterReady.takes frame ∧ cutterReady.sp.mode ≠ .offline ∧ readPiece (pieceBytes piece) = some piece ∧
      pieceOk piece = true ∧ openLocation cutterReady.role LocationKind.table 0 = some .table ∧ declareCheck
      cutterReady piece Location.table = none) ∧
    (rackReady.takes frame ∧ rackReady.sp.mode ≠ .offline ∧ openLocation rackReady.role LocationKind.slot 16 =
      some (.slot 16) ∧ declareCheck rackReady piece (.slot 16) = none) ∧
    (openLocation rackReady.role LocationKind.slot 17 = some (.slot 17) ∧ declareCheck rackReady piece (.slot
      17) = some ResultCode.slotBad) ∧
    ((retired cutterReady).takes frame ∧ (retired cutterReady).sp.mode ≠ .offline ∧ openLocation (retired
      cutterReady).role LocationKind.bed 0 = some .bed ∧ declareCheck (retired cutterReady) piece Location.bed =
      some ResultCode.retired) ∧
    (openLocation rackReady.role LocationKind.bed 0 = none) ∧
    (frame.length.toNat = 34 ∧ (part .rack .offline).takes frame ∧ (part .rack .offline).sp.mode = .offline) ∧
    (cutterReady.takes (WriteFrame.mk 33 false true) ∧ (WriteFrame.mk 33 false true).length.toNat ≠ 34 ∧ readPiece
      (List.replicate 32 255) = none ∧ readPiece (pieceBytes { piece with length := 99 }) = some { piece with length := 99 } ∧
      pieceOk { piece with length := 99 } = false) := by
  and_intros
  all_goals decide +kernel

theorem witness_HandOffIsJudgedAndOffered :
    ((holding cutterReady (stocked .table .held none)).takes frame ∧ (holding cutterReady (stocked .table .held
      none)).sp.mode ≠ .offline ∧ inRange 1 62 62 = true ∧ 62 ≠ (holding cutterReady (stocked .table .held
      none)).cfg.params.station ∧ (holding cutterReady (stocked .table .held none)).st.find (StockId.mk 7 1) =
      some 0 ∧ entryAt (holding cutterReady (stocked .table .held none)).st.records 0 = some (stocked .table
      .held none) ∧ (stocked .table .held none).custody = .held ∧ (holding cutterReady (stocked .table .held
      none)).atLockedSlot (stocked .table .held none) = false ∧ (holding cutterReady (stocked .table .held
      none)).unmarkedRemnant (stocked .table .held none) = false ∧ (holding cutterReady (stocked .table .held
      none)).bedInWork 0 = false ∧ (holding cutterReady (stocked .table .held none)).linkTakes 62
      (Message.custodyOffer (stocked .table .held none).piece)) ∧
    ((part .cutter .offline).takes frame ∧ (part .cutter .offline).sp.mode = .offline) ∧
    (cutterReady.takes frame ∧ cutterReady.sp.mode ≠ .offline ∧ (inRange 1 62 63 = false ∨ 63 =
      cutterReady.cfg.params.station)) ∧
    ((inRange 1 62 5 = false ∨ 5 = cutterReady.cfg.params.station)) ∧
    (inRange 1 62 1 = true ∧ 1 ≠ cutterReady.cfg.params.station ∧ cutterReady.st.find (StockId.mk 7 1) = none) ∧
    ((holding cutterReady (stocked .table .pending (some 7))).takes frame ∧ (holding cutterReady (stocked .table
      .pending (some 7))).sp.mode ≠ .offline ∧ 1 ≠ (holding cutterReady (stocked .table .pending (some
      7))).cfg.params.station ∧ (holding cutterReady (stocked .table .pending (some 7))).st.find (StockId.mk 7
      1) = some 0 ∧ entryAt (holding cutterReady (stocked .table .pending (some 7))).st.records 0 = some
      (stocked .table .pending (some 7)) ∧ (stocked .table .pending (some 7)).custody ≠ .held) ∧
    (lockedSlot.takes frame ∧ lockedSlot.sp.mode ≠ .offline ∧ 1 ≠ lockedSlot.cfg.params.station ∧
      lockedSlot.st.find (StockId.mk 7 1) = some 0 ∧ entryAt lockedSlot.st.records 0 = some shelved ∧
      shelved.custody = .held ∧ lockedSlot.atLockedSlot shelved = true) ∧
    (unmarkedFirst.takes frame ∧ unmarkedFirst.sp.mode ≠ .offline ∧ 1 ≠ unmarkedFirst.cfg.params.station ∧
      unmarkedFirst.st.find (StockId.mk 5 1) = some 0 ∧ entryAt unmarkedFirst.st.records 0 = some remnant5 ∧
      remnant5.custody = .held ∧ unmarkedFirst.atLockedSlot remnant5 = false ∧ unmarkedFirst.unmarkedRemnant
      remnant5 = true) ∧
    (bedInWork.takes frame ∧ bedInWork.sp.mode ≠ .offline ∧ 1 ≠ bedInWork.cfg.params.station ∧ bedInWork.st.find
      (StockId.mk 7 1) = some 0 ∧ entryAt bedInWork.st.records 0 = some (stocked .bed .held none) ∧ (stocked
      .bed .held none).custody = .held ∧ bedInWork.atLockedSlot (stocked .bed .held none) = false ∧
      bedInWork.unmarkedRemnant (stocked .bed .held none) = false ∧ bedInWork.bedInWork 0 = true) ∧
    ((tabled (.isolated .jabber) []).flc.link = .isolated .jabber ∧ (tabled (.isolated .jabber) []).st.find ⟨7, 1⟩ = some
      0 ∧ (tabled (.isolated .jabber) []).takes frame) ∧
    ((tabled .normal (List.replicate 8 outgoing)).flc.link = .normal ∧ 8 ≤ (tabled .normal (List.replicate 8
      outgoing)).flc.class1.length ∧ (tabled .normal (List.replicate 8 outgoing)).takes frame) := by
  and_intros
  all_goals decide +kernel

theorem witness_LegendDropsLiteralsFromTheEnd :
    (cutterRun.cfg.params.templates[7]? = some defaultTemplate ∧ cutterRun.bedRecord = none ∧
      bedded.cfg.params.templates[0]? = some defaultTemplate ∧ bedded.bedRecord = some (stocked .bed .held none)) ∧
    (cutterRun.st.find ⟨cutterRun.cfg.params.station, 1⟩ = none) ∧
    (unmarkedFirst.cfg.params.templates[0]? = some defaultTemplate ∧
      unmarkedFirst.st.find ⟨unmarkedFirst.cfg.params.station, 1⟩ = some 0 ∧
      entryAt unmarkedFirst.st.records 0 = some remnant5 ∧ remnant5.piece.kind = .remnant ∧
      remnant5.location = .table) ∧
    ((holding cutterReady onHook).st.find ⟨5, 1⟩ = some 0 ∧ entryAt (holding cutterReady onHook).st.records 0 = some onHook ∧
      onHook.location ≠ .table) ∧
    (fitLegend 3 0 [(true, [0x41]), (false, [0x42]), (true, [0x43])] = some ⟨[0x41, 0x42, 0x43], 0⟩ ∧
      fitLegend 1 0 [(false, List.replicate 41 0x41)] = none) ∧
    (largest.grade ≤ 63 ∧ largest.thickness ≤ 1500 ∧ largest.id.origin ≤ 62 ∧ largest.id.serial ≤ 65535 ∧
      largest.length ≤ 24000 ∧ largest.width ≤ 24000 ∧ cutterRun.cfg.params.station ≤ 62) := by
  and_intros
  all_goals decide +kernel

theorem witness_ConfirmationTakesCustody :
    (rackRun.takes frame ∧ rackRun.role ≠ .cutter ∧ (part .cutter .offline).takes frame ∧
      (part .cutter .offline).sp.mode = .offline) ∧
    (cutterRun.takes frame ∧ cutterRun.role ≠ .rack ∧ (part .rack .offline).takes frame ∧
      (part .rack .offline).sp.mode = .offline) ∧
    ((offering cutterReady none (some offer7)).takes frame ∧ (offering cutterReady none (some offer7)).sp.mode ≠
      .offline ∧ (offering cutterReady none (some offer7)).st.offerOf (StockId.mk 7 1) = some (1, offer7) ∧
      (Instr.bedLoaded frame (StockId.mk 7 1) = Instr.bedLoaded frame (StockId.mk 7 1) ∧ RequestCode.bedLoaded =
      RequestCode.bedLoaded ∧ Location.bed = Location.bed ∧ (offering cutterReady none (some offer7)).role =
      Role.cutter ∧ (offering cutterReady none (some offer7)).st.bed = none ∨ Instr.bedLoaded frame (StockId.mk
      7 1) = Instr.placed frame (StockId.mk 7 1) 0 ∧ RequestCode.bedLoaded = RequestCode.placed ∧ Location.bed =
      Location.slot 0 ∧ (offering cutterReady none (some offer7)).role = Role.rack ∧ (offering cutterReady none
      (some offer7)).slotBad 0 = false) ∧ (offering cutterReady none (some offer7)).st.find offer7.piece.id =
      none ∧ offer7.piece.id ∉ (offering cutterReady none (some offer7)).st.retired ∧ lowestEmpty (offering
      cutterReady none (some offer7)).st.records = some 0 ∧ (offering cutterReady none (some offer7)).linkTakes
      offer7.giver (Message.custodyAccept offer7.piece.id)) ∧
    ((offering rackRun (some offer7) none).takes frame ∧ (offering rackRun (some offer7) none).sp.mode ≠
      .offline ∧ (offering rackRun (some offer7) none).st.offerOf (StockId.mk 7 1) = some (0, offer7) ∧
      (Instr.placed frame (StockId.mk 7 1) 16 = Instr.bedLoaded frame (StockId.mk 7 1) ∧ RequestCode.placed =
      RequestCode.bedLoaded ∧ Location.slot 16 = Location.bed ∧ (offering rackRun (some offer7) none).role =
      Role.cutter ∧ (offering rackRun (some offer7) none).st.bed = none ∨ Instr.placed frame (StockId.mk 7 1) 16
      = Instr.placed frame (StockId.mk 7 1) 16 ∧ RequestCode.placed = RequestCode.placed ∧ Location.slot 16 =
      Location.slot 16 ∧ (offering rackRun (some offer7) none).role = Role.rack ∧ (offering rackRun (some
      offer7) none).slotBad 16 = false) ∧ (offering rackRun (some offer7) none).st.find offer7.piece.id = none ∧
      offer7.piece.id ∉ (offering rackRun (some offer7) none).st.retired ∧ lowestEmpty (offering rackRun (some
      offer7) none).st.records = some 0 ∧ (offering rackRun (some offer7) none).linkTakes offer7.giver
      (Message.custodyAccept offer7.piece.id)) ∧
    ((holding rackRun (stocked (.slot 1) .disputed (some 7))).takes frame ∧ (holding rackRun (stocked (.slot 1)
      .disputed (some 7))).st.find (StockId.mk 7 1) = some 0 ∧ entryAt (holding rackRun (stocked (.slot 1)
      .disputed (some 7))).st.records 0 = some (stocked (.slot 1) .disputed (some 7))) ∧
    ((holding craneRun (stocked .hook .held none)).takes frame ∧ (holding craneRun (stocked .hook .held
      none)).st.find (StockId.mk 7 1) = some 0 ∧ entryAt (holding craneRun (stocked .hook .held
      none)).st.records 0 = some (stocked .hook .held none)) ∧
    (cutterReady.takes frame ∧ cutterReady.st.find ⟨7, 1⟩ = none) := by
  and_intros
  all_goals decide +kernel

theorem witness_CustodyOffersAreJudged :
    ((part .rack .offline).hearsMessage offerTelegram (Message.custodyOffer piece) ∧ (BitVec.toNat
      offerTelegram.dest ≠ (part .rack .offline).cfg.params.station ∨ (part .rack .offline).sp.mode = .offline))
      ∧
    ((retired rackRun).hearsMessage offerTelegram (Message.custodyOffer piece) ∧ BitVec.toNat offerTelegram.dest
      = (retired rackRun).cfg.params.station ∧ (retired rackRun).sp.mode ≠ .offline ∧ offerCheck (retired
      rackRun) piece = some .retired ∧ (retired rackRun).linkTakes (BitVec.toNat offerTelegram.source)
      (Message.custodyRefuse piece.id .retired)) ∧
    (fullRack.hearsMessage offerTelegram (Message.custodyOffer piece) ∧ BitVec.toNat offerTelegram.dest =
      fullRack.cfg.params.station ∧ fullRack.sp.mode ≠ .offline ∧ offerCheck fullRack piece = some .full ∧
      fullRack.linkTakes (BitVec.toNat offerTelegram.source) (Message.custodyRefuse piece.id .full)) ∧
    ((offering rackRun (some offer7) none).hearsMessage offerTelegram (Message.custodyOffer piece) ∧
      BitVec.toNat offerTelegram.dest = (offering rackRun (some offer7) none).cfg.params.station ∧ (offering
      rackRun (some offer7) none).sp.mode ≠ .offline ∧ offerCheck (offering rackRun (some offer7) none) piece =
      none ∧ (offering rackRun (some offer7) none).st.slot0 = some offer7 ∧ offer7.piece.id = piece.id ∧
      offer7.giver = BitVec.toNat offerTelegram.source) ∧
    ((offering rackRun (some offer8) none).hearsMessage offerTelegram (Message.custodyOffer piece) ∧
      BitVec.toNat offerTelegram.dest = (offering rackRun (some offer8) none).cfg.params.station ∧ (offering
      rackRun (some offer8) none).sp.mode ≠ .offline ∧ offerCheck (offering rackRun (some offer8) none) piece =
      none ∧ (offering rackRun (some offer8) none).st.slot0 = some offer8 ∧ offer8.piece.id = piece.id ∧
      offer8.giver ≠ BitVec.toNat offerTelegram.source ∧ (offering rackRun (some offer8) none).linkTakes
      (BitVec.toNat offerTelegram.source) (Message.custodyRefuse piece.id .duplicate)) ∧
    ((offering rackRun (some otherOffer) (some otherOffer)).hearsMessage offerTelegram (Message.custodyOffer
      piece) ∧ BitVec.toNat offerTelegram.dest = (offering rackRun (some otherOffer) (some
      otherOffer)).cfg.params.station ∧ (offering rackRun (some otherOffer) (some otherOffer)).sp.mode ≠
      .offline ∧ offerCheck (offering rackRun (some otherOffer) (some otherOffer)) piece = none ∧ (offering
      rackRun (some otherOffer) (some otherOffer)).st.slot0 = some otherOffer ∧ (offering rackRun (some
      otherOffer) (some otherOffer)).st.slot1 = some otherOffer ∧ otherOffer.piece.id ≠ piece.id ∧ (offering
      rackRun (some otherOffer) (some otherOffer)).linkTakes (BitVec.toNat offerTelegram.source)
      (Message.custodyRefuse piece.id .busy)) ∧
    (rackRun.hearsMessage offerTelegram (Message.custodyOffer piece) ∧ BitVec.toNat offerTelegram.dest =
      rackRun.cfg.params.station ∧ rackRun.sp.mode ≠ .offline ∧ offerCheck rackRun piece = none ∧ (rackRun.role
      ≠ .crane ∨ rackRun.lu.loadAttached = false) ∧ rackRun.st.slot0 = none ∧ rackRun.st.slot1 = none) ∧
    ((offering cutterRun (some otherOffer) none).hearsMessage offerTelegram (Message.custodyOffer piece) ∧
      BitVec.toNat offerTelegram.dest = (offering cutterRun (some otherOffer) none).cfg.params.station ∧
      (offering cutterRun (some otherOffer) none).sp.mode ≠ .offline ∧ offerCheck (offering cutterRun (some
      otherOffer) none) piece = none ∧ ((offering cutterRun (some otherOffer) none).role ≠ .crane ∨ (offering
      cutterRun (some otherOffer) none).lu.loadAttached = false) ∧ (offering cutterRun (some otherOffer)
      none).st.slot0 = some otherOffer ∧ (offering cutterRun (some otherOffer) none).st.slot1 = none) := by
  and_intros
  all_goals decide +kernel

theorem witness_HandoversEndOnBothSides :
    (entryAt (holding cutterRun (stocked .bed .offered (some 7))).st.records 0 = some (stocked .bed .offered
      (some 7)) ∧ (holding cutterRun (stocked .bed .offered (some 7))).st.find (StockId.mk 7 1) = some 0 ∧
      (holding cutterRun (stocked .bed .offered (some 7))).hearsMessage (from7 (Message.custodyAccept
      (StockId.mk 7 1))) (Message.custodyAccept (StockId.mk 7 1)) ∧ BitVec.toNat (from7 (Message.custodyAccept
      (StockId.mk 7 1))).dest = (holding cutterRun (stocked .bed .offered (some 7))).cfg.params.station ∧
      (stocked .bed .offered (some 7)).custody = .offered ∧ (stocked .bed .offered (some 7)).partner = some
      (BitVec.toNat (from7 (Message.custodyAccept (StockId.mk 7 1))).source) ∧ (holding cutterRun (stocked .bed
      .offered (some 7))).role ≠ .crane ∧ (holding cutterRun (stocked .bed .offered (some 7))).linkTakes
      (BitVec.toNat (from7 (Message.custodyAccept (StockId.mk 7 1))).source) (Message.custodyRelease (StockId.mk
      7 1))) ∧
    (entryAt (holding cutterRun (stocked .bed .offered (some 8))).st.records 0 = some (stocked .bed .offered
      (some 8)) ∧ (holding cutterRun (stocked .bed .offered (some 8))).st.find (StockId.mk 7 1) = some 0 ∧
      (holding cutterRun (stocked .bed .offered (some 8))).hearsMessage (from7 (Message.custodyAccept
      (StockId.mk 7 1))) (Message.custodyAccept (StockId.mk 7 1)) ∧ BitVec.toNat (from7 (Message.custodyAccept
      (StockId.mk 7 1))).dest = (holding cutterRun (stocked .bed .offered (some 8))).cfg.params.station ∧
      (stocked .bed .offered (some 8)).custody = .offered ∧ (stocked .bed .offered (some 8)).partner ≠ some
      (BitVec.toNat (from7 (Message.custodyAccept (StockId.mk 7 1))).source) ∧ (holding cutterRun (stocked .bed
      .offered (some 8))).linkTakes (BitVec.toNat (from7 (Message.custodyAccept (StockId.mk 7 1))).source)
      (Message.custodyRefuse (StockId.mk 7 1) .notOffered)) ∧
    (entryAt (holding cutterRun (stocked .bed .pending (some 8))).st.records 0 = some (stocked .bed .pending
      (some 8)) ∧ (holding cutterRun (stocked .bed .pending (some 8))).st.find (StockId.mk 7 1) = some 0 ∧
      (holding cutterRun (stocked .bed .pending (some 8))).hearsMessage (from7 (Message.custodyAccept
      (StockId.mk 7 1))) (Message.custodyAccept (StockId.mk 7 1)) ∧ BitVec.toNat (from7 (Message.custodyAccept
      (StockId.mk 7 1))).dest = (holding cutterRun (stocked .bed .pending (some 8))).cfg.params.station ∧
      (stocked .bed .pending (some 8)).custody = .pending ∧ (holding cutterRun (stocked .bed .pending (some
      8))).linkTakes (BitVec.toNat (from7 (Message.custodyAccept (StockId.mk 7 1))).source)
      (Message.custodyRefuse (StockId.mk 7 1) .notOffered)) ∧
    (entryAt (holding cutterRun (stocked .bed .disputed (some 8))).st.records 0 = some (stocked .bed .disputed
      (some 8)) ∧ (holding cutterRun (stocked .bed .disputed (some 8))).st.find (StockId.mk 7 1) = some 0 ∧
      (holding cutterRun (stocked .bed .disputed (some 8))).hearsMessage (from7 (Message.custodyAccept
      (StockId.mk 7 1))) (Message.custodyAccept (StockId.mk 7 1)) ∧ BitVec.toNat (from7 (Message.custodyAccept
      (StockId.mk 7 1))).dest = (holding cutterRun (stocked .bed .disputed (some 8))).cfg.params.station ∧
      ((stocked .bed .disputed (some 8)).custody = .held ∨ (stocked .bed .disputed (some 8)).custody =
      .disputed) ∧ (holding cutterRun (stocked .bed .disputed (some 8))).linkTakes (BitVec.toNat (from7
      (Message.custodyAccept (StockId.mk 7 1))).source) (Message.custodyRefuse (StockId.mk 7 1) .late)) ∧
    ((holding cutterRun (stocked .bed .offered (some 7))).hearsMessage (from7 (Message.custodyRefuse (StockId.mk
      7 1) .busy)) (Message.custodyRefuse (StockId.mk 7 1) .busy) ∧ BitVec.toNat (from7 (Message.custodyRefuse
      (StockId.mk 7 1) .busy)).dest = (holding cutterRun (stocked .bed .offered (some 7))).cfg.params.station ∧
      (stocked .bed .offered (some 7)).partner = some (BitVec.toNat (from7 (Message.custodyRefuse (StockId.mk 7
      1) .busy)).source) ∧ CustodyRefusal.busy ≠ CustodyRefusal.late ∧ CustodyRefusal.busy ≠
      CustodyRefusal.notOffered) ∧
    ((stocked .bed .offered (some 7)).partner = some 7 ∧ (holding cutterRun (stocked .bed .offered (some
      7))).expired (stocked .bed .offered (some 7)).timer = true) ∧
    (entryAt (holding rackRun reservedPending).st.records 0 = some reservedPending ∧ (holding rackRun
      reservedPending).st.find (StockId.mk 7 1) = some 0 ∧ reservedPending.custody = .pending ∧ (holding rackRun
      reservedPending).hearsMessage (from7 (Message.custodyRelease (StockId.mk 7 1))) (Message.custodyRelease
      (StockId.mk 7 1)) ∧ BitVec.toNat (from7 (Message.custodyRelease (StockId.mk 7 1))).dest = (holding rackRun
      reservedPending).cfg.params.station ∧ reservedPending.partner = some (BitVec.toNat (from7
      (Message.custodyRelease (StockId.mk 7 1))).source)) ∧
    ((holding cutterRun (stocked .bed .pending (some 8))).hearsMessage (from7 (Message.custodyRelease
      (StockId.mk 7 1))) (Message.custodyRelease (StockId.mk 7 1)) ∧ BitVec.toNat (from7 (Message.custodyRelease
      (StockId.mk 7 1))).dest = (holding cutterRun (stocked .bed .pending (some 8))).cfg.params.station ∧
      (stocked .bed .pending (some 8)).partner ≠ some (BitVec.toNat (from7 (Message.custodyRelease (StockId.mk 7
      1))).source)) ∧
    (entryAt (holding cutterRun (stocked .bed .pending (some 7))).st.records 0 = some (stocked .bed .pending
      (some 7)) ∧ (holding cutterRun (stocked .bed .pending (some 7))).st.find (StockId.mk 7 1) = some 0 ∧
      (stocked .bed .pending (some 7)).custody = .pending ∧ (holding cutterRun (stocked .bed .pending (some
      7))).hearsMessage (from7 (Message.custodyRefuse (StockId.mk 7 1) .late)) (Message.custodyRefuse
      (StockId.mk 7 1) .late) ∧ BitVec.toNat (from7 (Message.custodyRefuse (StockId.mk 7 1) .late)).dest =
      (holding cutterRun (stocked .bed .pending (some 7))).cfg.params.station ∧ (stocked .bed .pending (some
      7)).partner = some (BitVec.toNat (from7 (Message.custodyRefuse (StockId.mk 7 1) .late)).source) ∧
      (CustodyRefusal.late = CustodyRefusal.late ∨ CustodyRefusal.late = CustodyRefusal.notOffered) ∧ (holding
      cutterRun (stocked .bed .pending (some 7))).role ≠ .crane) ∧
    ((stocked .bed .pending (some 7)).partner = some 7 ∧ (holding cutterRun (stocked .bed .pending (some
      7))).expired (stocked .bed .pending (some 7)).timer = true) ∧
    ((offering cutterRun (some offer7) none).st.slot0 = some offer7 ∧ (offering cutterRun (some offer7)
      none).expired offer7.timer = true) ∧
    ((offering cutterRun none (some offer7)).st.slot1 = some offer7 ∧ (offering cutterRun none (some
      offer7)).expired offer7.timer = true) ∧
    (entryAt (handing .offered true).st.records 0 = some (stocked .hook .offered (some 7)) ∧ (handing .offered
      true).hearsMessage (from7 (.custodyAccept ⟨7, 1⟩)) (.custodyAccept ⟨7, 1⟩) ∧ (handing .offered true).linkTakes 7
      (.custodyRelease ⟨7, 1⟩) ∧ (handing .offered true).role = .crane ∧ (handing .offered true).mu.queue = [queued 1
      true, queued 2 false] ∧ (queued 1 true).info.kind ≠ .clear ∧ (queued 1 true).info.stock = some ⟨7, 1⟩ ∧
      (handing .offered true).linkTakes 7 (.moveDone 1 true (some 7)) ∧ (handing .offered true).mu.leavePending = true ∧
      (handing .offered true).sp.mode = .run) ∧
    (entryAt (handing .pending false).st.records 0 = some (stocked .hook .pending (some 7)) ∧ (handing .pending
      false).hearsMessage (from7 (.custodyRefuse ⟨7, 1⟩ .notOffered)) (.custodyRefuse ⟨7, 1⟩ .notOffered) ∧ (handing
      .pending false).linkTakes 7 (.moveDone 1 false none) ∧ (handing .pending false).mu.leavePending = false) := by
  and_intros
  all_goals decide +kernel

theorem witness_LoadAttachedTakesAndOffers :
    ((loaded craneRun).lu.loadAttached = true) ∧
    (craneRun.lu.loadAttached = false) ∧
    (rackRun.lu.loadAttached = false ∧ (rackRun.isLoaded = false ∨ rackRun.role ≠ .crane)) ∧
    ((offering craneRun (some offer7) none).lu.loadAttached = false ∧ (offering craneRun (some offer7)
      none).isLoaded = true ∧ (offering craneRun (some offer7) none).role = .crane ∧ (offering craneRun (some
      offer7) none).st.slot1 = none ∧ (offering craneRun (some offer7) none).st.slot0 = some offer7 ∧ (offering
      craneRun (some offer7) none).st.find offer7.piece.id = none ∧ offer7.piece.id ∉ (offering craneRun (some
      offer7) none).st.retired ∧ lowestEmpty (offering craneRun (some offer7) none).st.records = some 0) ∧
    ((queueing craneRun [clearMove false, queued 2 false]).lu.loadAttached = false ∧ (queueing craneRun
      [clearMove false, queued 2 false]).isLoaded = true ∧ (queueing craneRun [clearMove false, queued 2
      false]).role = .crane ∧ (queueing craneRun [clearMove false, queued 2 false]).st.slot1 = none ∧ (queueing
      craneRun [clearMove false, queued 2 false]).st.slot0 = none ∧ (queueing craneRun [clearMove false, queued
      2 false]).sp.mode ≠ .offline ∧ (queueing craneRun [clearMove false, queued 2 false]).mu.queue = [clearMove
      false, queued 2 false] ∧ (clearMove false).info.kind = .clear ∧ (queueing craneRun [clearMove false,
      queued 2 false]).mu.anyStarted = false ∧ (queueing craneRun [clearMove false, queued 2 false]).linkTakes
      (clearMove false).requester (Message.moveStarted (clearMove false).tag)) ∧
    ((loaded (part .crane .offline)).lu.loadAttached = true ∧ ((loaded (part .crane .offline)).isLoaded = false
      ∨ (loaded (part .crane .offline)).role ≠ .crane ∨ (loaded (part .crane .offline)).sp.mode = .offline)) ∧
    ((hooked .pending).lu.loadAttached = true ∧ (hooked .pending).isLoaded = true ∧ (hooked .pending).role =
      .crane ∧ (hooked .pending).sp.mode ≠ .offline ∧ (hooked .pending).mu.queue.head? = some (queued 1 true) ∧
      (queued 1 true).started = true ∧ (queued 1 true).info.kind ≠ .clear ∧ (queued 1 true).info.stock = some
      (StockId.mk 7 1) ∧ (hooked .pending).st.find (StockId.mk 7 1) = some 0 ∧ entryAt (hooked
      .pending).st.records 0 = some (stocked .hook .pending none) ∧ (stocked .hook .pending none).location =
      .hook ∧ (stocked .hook .pending none).custody ≠ .held) ∧
    ((hooked .held).lu.loadAttached = true ∧ (hooked .held).isLoaded = true ∧ (hooked .held).role = .crane ∧
      (hooked .held).sp.mode ≠ .offline ∧ (hooked .held).mu.queue.head? = some (queued 1 true) ∧ (hooked
      .held).st.find (StockId.mk 7 1) = some 0 ∧ entryAt (hooked .held).st.records 0 = some (stocked .hook .held
      none) ∧ (stocked .hook .held none).location = .hook ∧ (stocked .hook .held none).custody = .held ∧ (hooked
      .held).linkTakes (queued 1 true).info.toStation (Message.custodyOffer (stocked .hook .held none).piece)) ∧
    ((liftingFor [otherMove, queued 1 false]).isLoaded = true ∧ (liftingFor [otherMove, queued 1 false]).st.slot0 = some
      offer7 ∧ (liftingFor [otherMove, queued 1 false]).linkTakes 7 (.custodyAccept ⟨7, 1⟩) ∧ (liftingFor [otherMove,
      queued 1 false]).mu.queue = [otherMove] ++ queued 1 false :: [] ∧ (queued 1 false).started = false ∧ (queued 1
      false).info.kind ≠ .clear ∧ (queued 1 false).info.stock = some offer7.piece.id ∧ otherMove.info.stock ≠ some
      offer7.piece.id ∧ (liftingFor [otherMove, queued 1 false]).mu.anyStarted = false ∧ otherMove.info.kind ≠ .clear ∧
      (liftingFor [otherMove, queued 1 false]).linkTakes 7 (.moveStarted 1)) ∧
    ((liftingFor [queued 1 true, queued 2 false]).st.slot0 = some offer7 ∧ (liftingFor [queued 1 true, queued 2
      false]).mu.anyStarted = true) ∧
    ((liftingFor []).st.slot0 = some offer7 ∧ (liftingFor []).mu.queue = []) := by
  and_intros
  all_goals decide +kernel

theorem witness_SlotLocksFollowTheRequests :
    (cutterRun.takes frame ∧ cutterRun.role ≠ .rack ∧ craneRun.takes frame ∧ craneRun.role ≠ .rack) ∧
    (rackReady.takes frame ∧ rackReady.role = .rack ∧ inRange 1 rackReady.cfg.params.slotCount 17 = false) ∧
    (inRange 1 rackReady.cfg.params.slotCount 0 = false) ∧
    ((holding rackReady (stocked (.slot 1) .pending (some 7))).takes frame ∧ (holding rackReady (stocked (.slot
      1) .pending (some 7))).role = .rack ∧ inRange 1 (holding rackReady (stocked (.slot 1) .pending (some
      7))).cfg.params.slotCount 1 = true ∧ (holding rackReady (stocked (.slot 1) .pending (some
      7))).slotInHandover 1 = true) ∧
    (inRange 1 rackReady.cfg.params.slotCount 16 = true ∧ rackReady.slotInHandover 16 = false) ∧
    (configLocked.takes frame ∧ configLocked.role = .rack ∧ inRange 1 configLocked.cfg.params.slotCount 16 =
      true ∧ 16 ∈ configLocked.cfg.params.configLocks) ∧
    (inRange 1 configLocked.cfg.params.slotCount 15 = true ∧ 15 ∉ configLocked.cfg.params.configLocks) := by
  and_intros
  all_goals decide +kernel

theorem witness_FitIsByUsableRectangles :
    (pieceOk (Piece.mk piece.id piece.kind piece.grade piece.thickness piece.length piece.width (some (Notch.mk
      1900 900 .lowerLeft)) piece.heat piece.parent piece.marked piece.reservation) = true) := by
  all_goals decide +kernel

theorem witness_RackAnswersTheSearch :
    (rackReady.hearsMessage queryTelegram (Message.stockQuery 1 wanted) ∧ (rackReady.role ≠ .rack ∨
      rackReady.sp.mode ≠ .run)) ∧
    (rackRun.hearsMessage queryTelegram (Message.stockQuery 1 wanted) ∧ rackRun.role = .rack ∧ rackRun.sp.mode =
      .run ∧ rackRun.bestRecord wanted = none) ∧
    ((holding rackRun shelved).hearsMessage queryTelegram (Message.stockQuery 1 wanted) ∧ (holding rackRun
      shelved).role = .rack ∧ (holding rackRun shelved).sp.mode = .run ∧ (holding rackRun shelved).bestRecord
      wanted = some shelved ∧ shelved.location = .slot 1 ∧ (holding rackRun shelved).linkTakes (BitVec.toNat
      queryTelegram.source) (Message.stockCandidate 1 (Candidate.mk (holding rackRun shelved).cfg.params.station
      shelved.piece.id 1 shelved.piece.grade shelved.piece.thickness shelved.piece.length shelved.piece.width
      shelved.piece.notch shelved.piece.heat (shelved.piece.length * shelved.piece.width - (Option.map (fun c =>
      c.length * c.width) shelved.piece.notch).getD 0)))) ∧
    (rackReady.hearsMessage reserveTelegram (Message.reserve 1 (StockId.mk 7 1) 7)) ∧
    ((peering rackRun (crane7 .lost)).hearsMessage reserveTelegram (Message.reserve 1 (StockId.mk 7 1) 7) ∧
      (peering rackRun (crane7 .lost)).role = .rack ∧ (peering rackRun (crane7 .lost)).sp.mode = .run ∧ (peering
      rackRun (crane7 .lost)).hears (BitVec.toNat reserveTelegram.source) = false ∧ (peering rackRun (crane7
      .lost)).linkTakes (BitVec.toNat reserveTelegram.source) (Message.reserveReply 1 (StockId.mk 7 1)
      .notHeard)) ∧
    ((peering rackRun (crane7 .stale)).hearsMessage reserveTelegram (Message.reserve 1 (StockId.mk 7 1) 7) ∧
      (peering rackRun (crane7 .stale)).role = .rack ∧ (peering rackRun (crane7 .stale)).sp.mode = .run ∧
      (peering rackRun (crane7 .stale)).hears (BitVec.toNat reserveTelegram.source) = true ∧ (peering rackRun
      (crane7 .stale)).st.find (StockId.mk 7 1) = none ∧ (peering rackRun (crane7 .stale)).linkTakes
      (BitVec.toNat reserveTelegram.source) (Message.reserveReply 1 (StockId.mk 7 1) .gone)) ∧
    ((hearing (reservedFor 7)).hearsMessage reserveTelegram (Message.reserve 1 (StockId.mk 7 1) 7) ∧ (hearing
      (reservedFor 7)).role = .rack ∧ (hearing (reservedFor 7)).sp.mode = .run ∧ (hearing (reservedFor 7)).hears
      (BitVec.toNat reserveTelegram.source) = true ∧ (hearing (reservedFor 7)).st.find (StockId.mk 7 1) = some 0
      ∧ entryAt (hearing (reservedFor 7)).st.records 0 = some (reservedFor 7) ∧ (reservedFor
      7).piece.reservation = some (BitVec.toNat reserveTelegram.source) ∧ (hearing (reservedFor 7)).linkTakes
      (BitVec.toNat reserveTelegram.source) (Message.reserveReply 1 (StockId.mk 7 1) .ok)) ∧
    ((hearing (reservedFor 8)).hearsMessage reserveTelegram (Message.reserve 1 (StockId.mk 7 1) 7) ∧ (hearing
      (reservedFor 8)).role = .rack ∧ (hearing (reservedFor 8)).sp.mode = .run ∧ (hearing (reservedFor 8)).hears
      (BitVec.toNat reserveTelegram.source) = true ∧ (hearing (reservedFor 8)).st.find (StockId.mk 7 1) = some 0
      ∧ entryAt (hearing (reservedFor 8)).st.records 0 = some (reservedFor 8) ∧ (reservedFor
      8).piece.reservation ≠ some (BitVec.toNat reserveTelegram.source) ∧ (hearing (reservedFor 8)).available
      (reservedFor 8) = false ∧ (hearing (reservedFor 8)).linkTakes (BitVec.toNat reserveTelegram.source)
      (Message.reserveReply 1 (StockId.mk 7 1) .gone)) ∧
    ((peering crowded (crane7 .stale)).hearsMessage reserveTelegram (Message.reserve 1 (StockId.mk 7 1) 7) ∧
      (peering crowded (crane7 .stale)).role = .rack ∧ (peering crowded (crane7 .stale)).sp.mode = .run ∧
      (peering crowded (crane7 .stale)).hears (BitVec.toNat reserveTelegram.source) = true ∧ (peering crowded
      (crane7 .stale)).st.find (StockId.mk 7 1) = some 0 ∧ entryAt (peering crowded (crane7 .stale)).st.records
      0 = some shelved ∧ shelved.piece.reservation ≠ some (BitVec.toNat reserveTelegram.source) ∧ (peering
      crowded (crane7 .stale)).available shelved = true ∧ 16 ≤ (peering crowded (crane7 .stale)).st.reservations
      ∧ (peering crowded (crane7 .stale)).linkTakes (BitVec.toNat reserveTelegram.source) (Message.reserveReply
      1 (StockId.mk 7 1) .full)) ∧
    ((hearing shelved).hearsMessage reserveTelegram (Message.reserve 1 (StockId.mk 7 1) 7) ∧ (hearing
      shelved).role = .rack ∧ (hearing shelved).sp.mode = .run ∧ (hearing shelved).hears (BitVec.toNat
      reserveTelegram.source) = true ∧ (hearing shelved).st.find (StockId.mk 7 1) = some 0 ∧ entryAt (hearing
      shelved).st.records 0 = some shelved ∧ (hearing shelved).available shelved = true ∧ (hearing
      shelved).st.reservations < 16 ∧ (hearing shelved).linkTakes (BitVec.toNat reserveTelegram.source)
      (Message.reserveReply 1 (StockId.mk 7 1) .ok)) ∧
    ((hearing (reservedFor 7)).hearsMessage unreserveTelegram (Message.unreserve (StockId.mk 7 1)) ∧
      (reservedFor 7).piece.reservation = some (BitVec.toNat unreserveTelegram.source)) ∧
    (rackRun.hearsMessage unreserveTelegram (Message.unreserve (StockId.mk 7 1)) ∧ (rackRun.role ≠ .rack ∨
      rackRun.st.find (StockId.mk 7 1) = none)) := by
  and_intros
  all_goals decide +kernel

theorem witness_QueryIsOpenedAndCancelled :
    (rackRun.takes frame ∧ rackRun.role ≠ .cutter ∧ craneRun.takes frame ∧ craneRun.role ≠ .cutter) ∧
    ((part .cutter .offline).takes frame ∧ (part .cutter .offline).sp.mode = .offline) ∧
    ((searching .collecting []).takes frame ∧ (searching .collecting []).role = .cutter ∧ (searching .collecting
      []).sp.mode ≠ .offline ∧ (searching .collecting []).su.phase ≠ .closed) ∧
    (cutterRun.takes frame ∧ cutterRun.role = .cutter ∧ cutterRun.sp.mode ≠ .offline ∧ cutterRun.su.phase =
      .closed ∧ queryOk (QueryFields.mk 64 wanted.mask wanted.thickness wanted.minLength wanted.minWidth
      wanted.rotation) = false) ∧
    (queryOk wanted = true ∧ cutterRun.linkTakes cutterRun.queryDest (Message.stockQuery (cutterRun.su.number +
      1) wanted)) ∧
    ((searching .collecting []).su.phase = .collecting) ∧
    ((searching .reserving [candidate 7]).takes frame ∧ (searching .reserving [candidate 7]).role = .cutter ∧
      (searching .reserving [candidate 7]).su.phase = .reserving ∧ (searching .reserving [candidate
      7]).su.awaited = some (candidate 7) ∧ (searching .reserving [candidate 7]).linkTakes (candidate 7).rack
      (Message.unreserve (candidate 7).id)) ∧
    (found.takes frame ∧ found.role = .cutter ∧ found.su.phase = .closed ∧ found.su.found = some (62, StockId.mk
      7 1) ∧ found.linkTakes 62 (Message.unreserve (StockId.mk 7 1))) ∧
    (cutterRun.su.found = none) := by
  and_intros
  all_goals decide +kernel

theorem witness_SearchUnitFollowsItsQuery :
    (List.Pairwise (fun a b => a.before b = true) eight.candidates ∧ (List.map (fun d => d.rack)
      eight.candidates).Nodup ∧ eight.candidates.length ≤ 8 ∧ eight.candidates.length = 8 ∧ (∀ d ∈
      eight.candidates, d.rack ≠ (candidate 9).rack)) ∧
    ((eight.candidates.length < 8 ∨ ∃ d ∈ eight.candidates, d.rack = (candidate 7).rack)) ∧
    ((searching .collecting []).hearsMessage candidateTelegram (Message.stockCandidate 1 (candidate 7)) ∧
      (searching .collecting []).role = .cutter ∧ (searching .collecting []).su.phase = .collecting ∧ 1 =
      (searching .collecting []).su.number) ∧
    ((searching .reserving []).hearsMessage candidateTelegram (Message.stockCandidate 1 (candidate 7)) ∧
      ((searching .reserving []).role ≠ .cutter ∨ (searching .reserving []).su.phase ≠ .collecting ∨ 1 ≠
      (searching .reserving []).su.number)) ∧
    ((searching .collecting []).expired (searching .collecting []).su.windowTimer = true ∧ (searching
      .collecting []).su.candidates = []) ∧
    ((searching .collecting [candidate 7, candidate 8]).su.phase = .collecting ∧ (searching .collecting
      [candidate 7, candidate 8]).expired (searching .collecting [candidate 7, candidate 8]).su.windowTimer =
      true ∧ (searching .collecting [candidate 7, candidate 8]).su.candidates = [candidate 7, candidate 8] ∧
      (searching .collecting [candidate 7, candidate 8]).linkTakes (candidate 7).rack (Message.reserve
      (searching .collecting [candidate 7, candidate 8]).su.number (candidate 7).id (searching .collecting
      [candidate 7, candidate 8]).cfg.params.station)) ∧
    ((searching .reserving [candidate 7]).su.phase = .reserving ∧ (searching .reserving [candidate 7]).expired
      (searching .reserving [candidate 7]).su.reserveTimer = true ∧ List.drop 1 (searching .reserving [candidate
      7]).su.candidates = []) ∧
    ((searching .reserving [candidate 7, candidate 8]).su.phase = .reserving ∧ (searching .reserving [candidate
      7, candidate 8]).expired (searching .reserving [candidate 7, candidate 8]).su.reserveTimer = true ∧
      List.drop 1 (searching .reserving [candidate 7, candidate 8]).su.candidates = [candidate 8] ∧ (searching
      .reserving [candidate 7, candidate 8]).linkTakes (candidate 8).rack (Message.reserve (searching .reserving
      [candidate 7, candidate 8]).su.number (candidate 8).id (searching .reserving [candidate 7, candidate
      8]).cfg.params.station)) ∧
    ((searching .reserving [candidate 7, candidate 8]).hearsMessage (replyTelegram .ok) (Message.reserveReply 1
      (StockId.mk 7 1) .ok) ∧ (searching .reserving [candidate 7, candidate 8]).role = .cutter ∧ 1 = (searching
      .reserving [candidate 7, candidate 8]).su.number ∧ (searching .reserving [candidate 7, candidate
      8]).su.awaited = some (candidate 7) ∧ (candidate 7).rack = BitVec.toNat (replyTelegram .ok).source ∧
      (candidate 7).id = StockId.mk 7 1 ∧ ReserveResult.ok = ReserveResult.ok) ∧
    ((searching .reserving [candidate 7, candidate 8]).hearsMessage (replyTelegram .gone) (Message.reserveReply
      1 (StockId.mk 7 1) .gone) ∧ (candidate 7).rack = BitVec.toNat (replyTelegram .gone).source ∧
      ReserveResult.gone ≠ ReserveResult.ok) ∧
    ((searching .reserving [candidate 7]).hearsMessage (replyTelegram .gone) (Message.reserveReply 1 (StockId.mk
      7 1) .gone) ∧ (searching .reserving [candidate 7]).role = .cutter ∧ 1 = (searching .reserving [candidate
      7]).su.number ∧ (searching .reserving [candidate 7]).su.awaited = some (candidate 7)) ∧
    (cutterRun.hearsMessage (replyTelegram .ok) (Message.reserveReply 1 (StockId.mk 7 1) .ok) ∧ cutterRun.role =
      .cutter ∧ (cutterRun.su.phase ≠ .reserving ∨ 1 ≠ cutterRun.su.number) ∧ cutterRun.linkTakes (BitVec.toNat
      (replyTelegram .ok).source) (Message.unreserve (StockId.mk 7 1))) ∧
    (cutterRun.hearsMessage (replyTelegram .gone) (Message.reserveReply 1 (StockId.mk 7 1) .gone)) := by
  and_intros
  all_goals decide +kernel

theorem witness_RequesterOpensAndCancelsMoves :
    (craneRun.takes frame ∧ craneRun.role = .crane ∧ (part .rack .offline).takes frame ∧
      (part .rack .offline).sp.mode = .offline) ∧
    (fullMoves.takes frame ∧ fullMoves.role ≠ .crane ∧ fullMoves.sp.mode ≠ .offline ∧ asked.kind = some .deliver
      ∧ presentFields asked = asked ∧ moveFieldsOk fullMoves.cfg.params asked = true ∧ moveStationsOk
      fullMoves.cfg.params.station .deliver asked = true ∧ fullMoves.resolveX 7 (some 1) = some 1 ∧ fullMoves.resolveX 5
      (some 9) = some 9 ∧ fullMoves.storeCheck .deliver asked.stock = none ∧ fullMoves.mu.place = none) ∧
    (cutterReady.takes frame ∧ cutterReady.role ≠ .crane ∧ cutterReady.sp.mode ≠ .offline ∧ moveFieldsOk
      cutterReady.cfg.params asked = true ∧ moveStationsOk cutterReady.cfg.params.station .deliver asked = true
      ∧ cutterReady.storeCheck .deliver asked.stock = none ∧ cutterReady.mu.place = some 0) ∧
    ((presentFields askedAtAnchor).toX = none ∧ moveFieldsOk cutterReady.cfg.params (presentFields askedAtAnchor) = true ∧
      moveStationsOk cutterReady.cfg.params.station .deliver (presentFields askedAtAnchor) = true ∧ cutterReady.resolveX 5
      none = some 12000) ∧
    ((presentFields askedClear).stock = none ∧ moveFieldsOk cutterReady.cfg.params (presentFields askedClear) = true ∧
      moveStationsOk cutterReady.cfg.params.station .clear (presentFields askedClear) = true ∧ cutterReady.storeCheck
      .clear none = none) ∧
    (cutterRun.takes frame ∧ cutterRun.role ≠ .crane ∧ cutterRun.mu.findLive 1 = none) ∧
    ((moving cutterRun (bidding 1 [])).takes frame ∧ (moving cutterRun (bidding 1 [])).role ≠ .crane ∧ (moving
      cutterRun (bidding 1 [])).mu.findLive 1 = some 0 ∧ entryAt (moving cutterRun (bidding 1 [])).mu.moves 0 =
      some (bidding 1 []) ∧ ((bidding 1 []).state = .opened ∧ (bidding 1 []).replyTimer = none ∨ (bidding 1
      []).state = .started)) ∧
    ((moving cutterRun (entry .started (some 7))).takes frame ∧ (moving cutterRun (entry .started (some
      7))).role ≠ .crane ∧ (moving cutterRun (entry .started (some 7))).mu.findLive 1 = some 0 ∧ entryAt (moving
      cutterRun (entry .started (some 7))).mu.moves 0 = some (entry .started (some 7)) ∧ ((entry .started (some
      7)).state = .opened ∧ (entry .started (some 7)).replyTimer = none ∨ (entry .started (some 7)).state =
      .started)) ∧
    ((moving cutterRun (awaited 1 [])).takes frame ∧ (moving cutterRun (awaited 1 [])).role ≠ .crane ∧ (moving
      cutterRun (awaited 1 [])).mu.findLive 1 = some 0 ∧ entryAt (moving cutterRun (awaited 1 [])).mu.moves 0 =
      some (awaited 1 []) ∧ (awaited 1 []).state = .opened ∧ (awaited 1 []).replyTimer = some (Timer.mk 0 0) ∧
      (awaited 1 []).crane = some 7 ∧ (moving cutterRun (awaited 1 [])).linkTakes 7 (Message.moveRevoke 1)) ∧
    ((moving cutterRun (entry .awarded (some 7))).takes frame ∧ (moving cutterRun (entry .awarded (some
      7))).role ≠ .crane ∧ (moving cutterRun (entry .awarded (some 7))).mu.findLive 1 = some 0 ∧ entryAt (moving
      cutterRun (entry .awarded (some 7))).mu.moves 0 = some (entry .awarded (some 7)) ∧ (entry .awarded (some
      7)).state = .awarded ∧ (entry .awarded (some 7)).cancelPending = false ∧ (entry .awarded (some 7)).crane =
      some 7 ∧ (moving cutterRun (entry .awarded (some 7))).linkTakes 7 (Message.moveRevoke 1)) ∧
    ((moving cutterRun cancelling).takes frame ∧ (moving cutterRun cancelling).role ≠ .crane ∧ (moving cutterRun
      cancelling).mu.findLive 1 = some 0 ∧ entryAt (moving cutterRun cancelling).mu.moves 0 = some cancelling ∧
      cancelling.state = .awarded ∧ cancelling.cancelPending = true) := by
  and_intros
  all_goals decide +kernel

theorem witness_AwardPassesDownTheBids :
    (List.Pairwise (fun x y => x.before y = true) eightBids ∧ (List.map (fun x => x.crane) eightBids).Nodup ∧
      eightBids.length ≤ 8 ∧ (bid 9 = bid 9 ∨ bid 9 ∈ eightBids ∧ (bid 9).crane ≠ (bid 9).crane) ∧ bid 9 ∉
      takeBid (bid 9) eightBids) ∧
    (entryAt (moving cutterRun (bidding 1 [bid 7, bid 8])).mu.moves 0 = some (bidding 1 [bid 7, bid 8]) ∧
      (bidding 1 [bid 7, bid 8]).state = .opened ∧ (moving cutterRun (bidding 1 [bid 7, bid 8])).role ≠ .crane ∧
      (moving cutterRun (bidding 1 [bid 7, bid 8])).expired (bidding 1 [bid 7, bid 8]).windowTimer = true ∧
      (bidding 1 [bid 7, bid 8]).bids = [bid 7, bid 8] ∧ (moving cutterRun (bidding 1 [bid 7, bid 8])).linkTakes
      (bid 7).crane (Message.moveAward (bidding 1 [bid 7, bid 8]).tag (bidding 1 [bid 7, bid 8]).info)) ∧
    (entryAt (moving cutterRun (bidding 2 [])).mu.moves 0 = some (bidding 2 []) ∧ (bidding 2 []).state = .opened
      ∧ (moving cutterRun (bidding 2 [])).role ≠ .crane ∧ (moving cutterRun (bidding 2 [])).expired (bidding 2
      []).windowTimer = true ∧ (bidding 2 []).bids = [] ∧ (bidding 2 []).callNumber < 3 ∧ (moving cutterRun
      (bidding 2 [])).linkTakes (moving cutterRun (bidding 2 [])).callDest (Message.moveCall (bidding 2 []).tag
      ((bidding 2 []).callNumber + 1) (bidding 2 []).info)) ∧
    (entryAt (moving cutterRun (bidding 3 [])).mu.moves 0 = some (bidding 3 []) ∧ (bidding 3 []).state = .opened
      ∧ (moving cutterRun (bidding 3 [])).role ≠ .crane ∧ (moving cutterRun (bidding 3 [])).expired (bidding 3
      []).windowTimer = true ∧ (bidding 3 []).bids = [] ∧ 3 ≤ (bidding 3 []).callNumber) ∧
    (entryAt (moving cutterRun (awaited 1 [bid 8])).mu.moves 0 = some (awaited 1 [bid 8]) ∧ (awaited 1 [bid
      8]).state = .opened ∧ (moving cutterRun (awaited 1 [bid 8])).role ≠ .crane ∧ (awaited 1 [bid
      8]).replyTimer ≠ none ∧ (moving cutterRun (awaited 1 [bid 8])).expired (awaited 1 [bid 8]).replyTimer =
      true ∧ (awaited 1 [bid 8]).crane = some 7 ∧ (moving cutterRun (awaited 1 [bid 8])).linkTakes 7
      (Message.moveRevoke (awaited 1 [bid 8]).tag) ∧ (awaited 1 [bid 8]).bids = [bid 8] ∧ (State.mk (moving
      cutterRun (awaited 1 [bid 8])).pending (moving cutterRun (awaited 1 [bid 8])).time (moving cutterRun
      (awaited 1 [bid 8])).cfg ((moving cutterRun (awaited 1 [bid 8])).flc.sending 7 (Message.moveRevoke
      (awaited 1 [bid 8]).tag)) (moving cutterRun (awaited 1 [bid 8])).pt (moving cutterRun (awaited 1 [bid
      8])).env (moving cutterRun (awaited 1 [bid 8])).sq (moving cutterRun (awaited 1 [bid 8])).rc (moving
      cutterRun (awaited 1 [bid 8])).lc (moving cutterRun (awaited 1 [bid 8])).st (moving cutterRun (awaited 1
      [bid 8])).su (Moves.mk (moving cutterRun (awaited 1 [bid 8])).mu.moves (moving cutterRun (awaited 1 [bid
      8])).mu.tag (moving cutterRun (awaited 1 [bid 8])).mu.endCount (moving cutterRun (awaited 1 [bid
      8])).mu.queue (moving cutterRun (awaited 1 [bid 8])).mu.awardOrder (moving cutterRun (awaited 1 [bid
      8])).mu.leavePending (moving cutterRun (awaited 1 [bid 8])).mu.live (MoveCounts.mk (moving cutterRun
      (awaited 1 [bid 8])).mu.counts.callsMade (moving cutterRun (awaited 1 [bid 8])).mu.counts.bidsTaken
      (moving cutterRun (awaited 1 [bid 8])).mu.counts.bidsIgnored (moving cutterRun (awaited 1 [bid
      8])).mu.counts.awardsSent (moving cutterRun (awaited 1 [bid 8])).mu.counts.awardsTaken (moving cutterRun
      (awaited 1 [bid 8])).mu.counts.awardsDeclined (moving cutterRun (awaited 1 [bid 8])).mu.counts.callsPassed
      (bump (moving cutterRun (awaited 1 [bid 8])).mu.counts.revocationsSent) (moving cutterRun (awaited 1 [bid
      8])).mu.counts.returns (moving cutterRun (awaited 1 [bid 8])).mu.counts.unplannedLoads (moving cutterRun
      (awaited 1 [bid 8])).mu.counts.movesDropped (moving cutterRun (awaited 1 [bid
      8])).mu.counts.telegramsIgnored (moving cutterRun (awaited 1 [bid 8])).mu.counts.linkRefusals)) (moving
      cutterRun (awaited 1 [bid 8])).sp (moving cutterRun (awaited 1 [bid 8])).lu (moving cutterRun (awaited 1
      [bid 8])).freeCount).linkTakes (bid 8).crane (Message.moveAward (awaited 1 [bid 8]).tag (awaited 1 [bid
      8]).info)) ∧
    (entryAt (moving cutterRun (awaited 2 [])).mu.moves 0 = some (awaited 2 []) ∧ (awaited 2 []).state = .opened
      ∧ (moving cutterRun (awaited 2 [])).role ≠ .crane ∧ (awaited 2 []).replyTimer ≠ none ∧ (moving cutterRun
      (awaited 2 [])).expired (awaited 2 []).replyTimer = true ∧ (awaited 2 []).crane = some 7 ∧ (moving
      cutterRun (awaited 2 [])).linkTakes 7 (Message.moveRevoke (awaited 2 []).tag) ∧ (awaited 2 []).bids = [] ∧
      (awaited 2 []).callNumber < 3 ∧ (State.mk (moving cutterRun (awaited 2 [])).pending (moving cutterRun
      (awaited 2 [])).time (moving cutterRun (awaited 2 [])).cfg ((moving cutterRun (awaited 2 [])).flc.sending
      7 (Message.moveRevoke (awaited 2 []).tag)) (moving cutterRun (awaited 2 [])).pt (moving cutterRun (awaited
      2 [])).env (moving cutterRun (awaited 2 [])).sq (moving cutterRun (awaited 2 [])).rc (moving cutterRun
      (awaited 2 [])).lc (moving cutterRun (awaited 2 [])).st (moving cutterRun (awaited 2 [])).su (Moves.mk
      (moving cutterRun (awaited 2 [])).mu.moves (moving cutterRun (awaited 2 [])).mu.tag (moving cutterRun
      (awaited 2 [])).mu.endCount (moving cutterRun (awaited 2 [])).mu.queue (moving cutterRun (awaited 2
      [])).mu.awardOrder (moving cutterRun (awaited 2 [])).mu.leavePending (moving cutterRun (awaited 2
      [])).mu.live (MoveCounts.mk (moving cutterRun (awaited 2 [])).mu.counts.callsMade (moving cutterRun
      (awaited 2 [])).mu.counts.bidsTaken (moving cutterRun (awaited 2 [])).mu.counts.bidsIgnored (moving
      cutterRun (awaited 2 [])).mu.counts.awardsSent (moving cutterRun (awaited 2 [])).mu.counts.awardsTaken
      (moving cutterRun (awaited 2 [])).mu.counts.awardsDeclined (moving cutterRun (awaited 2
      [])).mu.counts.callsPassed (bump (moving cutterRun (awaited 2 [])).mu.counts.revocationsSent) (moving
      cutterRun (awaited 2 [])).mu.counts.returns (moving cutterRun (awaited 2 [])).mu.counts.unplannedLoads
      (moving cutterRun (awaited 2 [])).mu.counts.movesDropped (moving cutterRun (awaited 2
      [])).mu.counts.telegramsIgnored (moving cutterRun (awaited 2 [])).mu.counts.linkRefusals)) (moving
      cutterRun (awaited 2 [])).sp (moving cutterRun (awaited 2 [])).lu (moving cutterRun (awaited 2
      [])).freeCount).linkTakes (moving cutterRun (awaited 2 [])).callDest (Message.moveCall (awaited 2 []).tag
      ((awaited 2 []).callNumber + 1) (awaited 2 []).info)) ∧
    (entryAt (moving cutterRun (awaited 3 [])).mu.moves 0 = some (awaited 3 []) ∧ (awaited 3 []).state = .opened
      ∧ (moving cutterRun (awaited 3 [])).role ≠ .crane ∧ (awaited 3 []).replyTimer ≠ none ∧ (moving cutterRun
      (awaited 3 [])).expired (awaited 3 []).replyTimer = true ∧ (awaited 3 []).crane = some 7 ∧ (moving
      cutterRun (awaited 3 [])).linkTakes 7 (Message.moveRevoke (awaited 3 []).tag) ∧ (awaited 3 []).bids = [] ∧
      3 ≤ (awaited 3 []).callNumber) ∧
    (entryAt (moving cutterRun (bidding 1 [])).mu.moves 0 = some (bidding 1 []) ∧ (bidding 1 []).state = .opened
      ∧ (moving cutterRun (bidding 1 [])).role ≠ .crane ∧ (moving cutterRun (bidding 1 [])).mu.findLive (bidding
      1 []).tag = some 0 ∧ (moving cutterRun (bidding 1 [])).hearsMessage (from7 (Message.moveBid 1 1 16777215))
      (Message.moveBid (bidding 1 []).tag 1 16777215) ∧ (bidding 1 []).windowTimer ≠ none ∧ 1 = (bidding 1
      []).callNumber) ∧
    ((moving cutterRun (bidding 1 [])).hearsMessage (from7 (Message.moveBid 1 2 0)) (Message.moveBid (bidding 1
      []).tag 2 0) ∧ ((bidding 1 []).windowTimer = none ∨ 2 ≠ (bidding 1 []).callNumber)) ∧
    (entryAt (moving cutterRun (awaited 1 [])).mu.moves 0 = some (awaited 1 []) ∧ (awaited 1 []).state = .opened
      ∧ (moving cutterRun (awaited 1 [])).role ≠ .crane ∧ (moving cutterRun (awaited 1 [])).mu.findLive (awaited
      1 []).tag = some 0 ∧ (moving cutterRun (awaited 1 [])).hearsMessage (from7 (Message.awardReply 1 true))
      (Message.awardReply (awaited 1 []).tag true) ∧ (awaited 1 []).replyTimer ≠ none ∧ (awaited 1 []).crane =
      some (BitVec.toNat (from7 (Message.awardReply 1 true)).source)) ∧
    ((moving cutterRun (awaited 1 [bid 8])).mu.findLive (awaited 1 [bid 8]).tag = some 0 ∧ (moving cutterRun
      (awaited 1 [bid 8])).hearsMessage (from7 (Message.awardReply 1 false)) (Message.awardReply (awaited 1 [bid
      8]).tag false) ∧ (awaited 1 [bid 8]).crane = some (BitVec.toNat (from7 (Message.awardReply 1
      false)).source) ∧ (State.mk (moving cutterRun (awaited 1 [bid 8])).heard.pending (moving cutterRun
      (awaited 1 [bid 8])).heard.time (moving cutterRun (awaited 1 [bid 8])).heard.cfg (moving cutterRun
      (awaited 1 [bid 8])).heard.flc (moving cutterRun (awaited 1 [bid 8])).heard.pt (moving cutterRun (awaited
      1 [bid 8])).heard.env (moving cutterRun (awaited 1 [bid 8])).heard.sq (moving cutterRun (awaited 1 [bid
      8])).heard.rc (moving cutterRun (awaited 1 [bid 8])).heard.lc (moving cutterRun (awaited 1 [bid
      8])).heard.st (moving cutterRun (awaited 1 [bid 8])).heard.su (Moves.mk (moving cutterRun (awaited 1 [bid
      8])).mu.moves (moving cutterRun (awaited 1 [bid 8])).mu.tag (moving cutterRun (awaited 1 [bid
      8])).mu.endCount (moving cutterRun (awaited 1 [bid 8])).mu.queue (moving cutterRun (awaited 1 [bid
      8])).mu.awardOrder (moving cutterRun (awaited 1 [bid 8])).mu.leavePending (moving cutterRun (awaited 1
      [bid 8])).mu.live (MoveCounts.mk (moving cutterRun (awaited 1 [bid 8])).mu.counts.callsMade (moving
      cutterRun (awaited 1 [bid 8])).mu.counts.bidsTaken (moving cutterRun (awaited 1 [bid
      8])).mu.counts.bidsIgnored (moving cutterRun (awaited 1 [bid 8])).mu.counts.awardsSent (moving cutterRun
      (awaited 1 [bid 8])).mu.counts.awardsTaken (bump (moving cutterRun (awaited 1 [bid
      8])).mu.counts.awardsDeclined) (moving cutterRun (awaited 1 [bid 8])).mu.counts.callsPassed (moving
      cutterRun (awaited 1 [bid 8])).mu.counts.revocationsSent (moving cutterRun (awaited 1 [bid
      8])).mu.counts.returns (moving cutterRun (awaited 1 [bid 8])).mu.counts.unplannedLoads (moving cutterRun
      (awaited 1 [bid 8])).mu.counts.movesDropped (moving cutterRun (awaited 1 [bid
      8])).mu.counts.telegramsIgnored (moving cutterRun (awaited 1 [bid 8])).mu.counts.linkRefusals)) (moving
      cutterRun (awaited 1 [bid 8])).heard.sp (moving cutterRun (awaited 1 [bid 8])).heard.lu (moving cutterRun
      (awaited 1 [bid 8])).heard.freeCount).linkTakes (bid 8).crane (Message.moveAward (awaited 1 [bid 8]).tag
      (awaited 1 [bid 8]).info)) ∧
    (entryAt (moving cutterRun awaited8).mu.moves 0 = some awaited8 ∧ awaited8.state = .opened ∧ (moving
      cutterRun awaited8).role ≠ .crane ∧ (moving cutterRun awaited8).mu.findLive awaited8.tag = some 0 ∧
      (moving cutterRun awaited8).hearsMessage (from7 (Message.awardReply 1 true)) (Message.awardReply
      awaited8.tag true) ∧ awaited8.replyTimer ≠ none ∧ awaited8.crane ≠ some (BitVec.toNat (from7
      (Message.awardReply 1 true)).source) ∧ (moving cutterRun awaited8).linkTakes (BitVec.toNat (from7
      (Message.awardReply 1 true)).source) (Message.moveRevoke awaited8.tag)) := by
  and_intros
  all_goals decide +kernel

theorem witness_MovesFollowTheirCrane :
    (entryAt (moving cutterRun (entry .awarded (some 7))).mu.moves 0 = some (entry .awarded (some 7)) ∧ (moving
      cutterRun (entry .awarded (some 7))).mu.findLive (entry .awarded (some 7)).tag = some 0 ∧ (moving
      cutterRun (entry .awarded (some 7))).role ≠ .crane ∧ (Instr.moveStarted startedTelegram =
      Instr.moveStarted startedTelegram ∧ (moving cutterRun (entry MoveStanding.awarded (some 7))).hearsMessage
      startedTelegram (Message.moveStarted (entry MoveStanding.awarded (some 7)).tag) ∨ Instr.moveStarted
      startedTelegram = Instr.revokeReply startedTelegram ∧ (moving cutterRun (entry MoveStanding.awarded (some
      7))).hearsMessage startedTelegram (Message.revokeReply (entry MoveStanding.awarded (some 7)).tag true)) ∧
      (entry .awarded (some 7)).state ≠ .started ∧ ((entry .awarded (some 7)).crane = none ∨ (entry .awarded
      (some 7)).crane = some (BitVec.toNat startedTelegram.source) ∨ (entry .awarded (some 7)).state = .opened ∧
      (entry .awarded (some 7)).replyTimer = none)) ∧
    (entryAt (moving cutterRun (bidding 1 [])).mu.moves 0 = some (bidding 1 []) ∧ (moving cutterRun (bidding 1
      [])).mu.findLive (bidding 1 []).tag = some 0 ∧ (moving cutterRun (bidding 1 [])).role ≠ .crane ∧
      (Instr.revokeReply (from7 (Message.revokeReply 1 true)) = Instr.moveStarted (from7 (Message.revokeReply 1
      true)) ∧ (moving cutterRun (bidding 1 [])).hearsMessage (from7 (Message.revokeReply 1 true))
      (Message.moveStarted (bidding 1 []).tag) ∨ Instr.revokeReply (from7 (Message.revokeReply 1 true)) =
      Instr.revokeReply (from7 (Message.revokeReply 1 true)) ∧ (moving cutterRun (bidding 1 [])).hearsMessage
      (from7 (Message.revokeReply 1 true)) (Message.revokeReply (bidding 1 []).tag true)) ∧ (bidding 1 []).state
      ≠ .started ∧ ((bidding 1 []).crane = none ∨ (bidding 1 []).crane = some (BitVec.toNat (from7
      (Message.revokeReply 1 true)).source) ∨ (bidding 1 []).state = .opened ∧ (bidding 1 []).replyTimer =
      none)) ∧
    (entryAt (moving cutterRun awaited8).mu.moves 0 = some awaited8 ∧ (moving cutterRun awaited8).mu.findLive
      awaited8.tag = some 0 ∧ (moving cutterRun awaited8).role ≠ .crane ∧ (Instr.moveStarted startedTelegram =
      Instr.moveStarted startedTelegram ∧ (moving cutterRun awaited8).hearsMessage startedTelegram
      (Message.moveStarted awaited8.tag) ∨ Instr.moveStarted startedTelegram = Instr.revokeReply startedTelegram
      ∧ (moving cutterRun awaited8).hearsMessage startedTelegram (Message.revokeReply awaited8.tag true)) ∧
      awaited8.state ≠ .started ∧ awaited8.crane = some 8 ∧ 8 ≠ BitVec.toNat startedTelegram.source ∧
      (awaited8.state = .awarded ∨ awaited8.replyTimer ≠ none) ∧ (moving cutterRun awaited8).linkTakes 8
      (Message.moveRevoke awaited8.tag)) ∧
    (entryAt (moving cutterRun (entry .started (some 7))).mu.moves 0 = some (entry .started (some 7)) ∧ (moving
      cutterRun (entry .started (some 7))).mu.findLive (entry .started (some 7)).tag = some 0 ∧ (moving
      cutterRun (entry .started (some 7))).role ≠ .crane ∧ (moving cutterRun (entry .started (some
      7))).hearsMessage (from7 (Message.moveDone 1 true (some 9))) (Message.moveDone (entry .started (some
      7)).tag true (some 9)) ∧ (entry .started (some 7)).state = .started) ∧
    (entryAt (moving cutterRun (entry .started (some 8))).mu.moves 0 = some (entry .started (some 8)) ∧ (moving
      cutterRun (entry .started (some 8))).mu.findLive (entry .started (some 8)).tag = some 0 ∧ (moving
      cutterRun (entry .started (some 8))).role ≠ .crane ∧ (moving cutterRun (entry .started (some
      8))).hearsMessage (from7 (Message.moveDone 1 false none)) (Message.moveDone (entry .started (some 8)).tag
      false none) ∧ (entry .started (some 8)).state = .started) ∧
    (entryAt (moving cutterRun cancelling).mu.moves 0 = some cancelling ∧ (moving cutterRun
      cancelling).mu.findLive cancelling.tag = some 0 ∧ (moving cutterRun cancelling).role ≠ .crane ∧ (moving
      cutterRun cancelling).hearsMessage (from7 (Message.moveReturn 1)) (Message.moveReturn cancelling.tag) ∧
      cancelling.state = .awarded ∧ cancelling.crane = some (BitVec.toNat (from7 (Message.moveReturn 1)).source)
      ∧ cancelling.cancelPending = true) ∧
    ((moving cutterRun (entry .awarded (some 7))).hearsMessage (from7 (Message.moveReturn 1))
      (Message.moveReturn (entry .awarded (some 7)).tag) ∧ (entry .awarded (some 7)).state = .awarded ∧ (entry
      .awarded (some 7)).crane = some (BitVec.toNat (from7 (Message.moveReturn 1)).source) ∧ (entry .awarded
      (some 7)).cancelPending = false ∧ (moving cutterRun (entry .awarded (some 7))).linkTakes (moving cutterRun
      (entry .awarded (some 7))).callDest (Message.moveCall (entry .awarded (some 7)).tag 1 (entry .awarded
      (some 7)).info)) ∧
    ((moving cutterRun cancelling).hearsMessage (from7 (Message.revokeReply 1 false)) (Message.revokeReply
      cancelling.tag false) ∧ cancelling.crane = some (BitVec.toNat (from7 (Message.revokeReply 1
      false)).source)) ∧
    ((moving cutterRun cancelling).expired cancelling.replyTimer = true) := by
  and_intros
  all_goals first
    | decide +kernel
    | (left; (repeat' apply And.intro) <;> decide +kernel)
    | (right; (repeat' apply And.intro) <;> decide +kernel)

theorem witness_CraneAnswersMoveTelegrams :
    ((at_ 255 (reported craneRun)).role = .crane ∧ (at_ 255 (reported craneRun)).hearsMessage callTelegram
      (Message.moveCall 9 1 info) ∧ (at_ 255 (reported craneRun)).sp.mode = .run ∧ (at_ 255 (reported
      craneRun)).mu.leavePending = false ∧ (at_ 255 (reported craneRun)).flc.link = .normal ∧ (at_ 255 (reported
      craneRun)).env.own.isStale (at_ 255 (reported craneRun)).cfg.params (at_ 255 (reported craneRun)).time =
      false ∧ (at_ 255 (reported craneRun)).env.own.age (at_ 255 (reported craneRun)).time ≤ 255 ∧ (at_ 255
      (reported craneRun)).mu.queue.length < 8 ∧ (∀ m ∈ (at_ 255 (reported craneRun)).mu.queue, ¬(m.requester =
      BitVec.toNat callTelegram.source ∧ m.tag = 9)) ∧ (at_ 255 (reported craneRun)).cfg.params.ownSpan.lo ≤
      info.fromX ∧ info.fromX ≤ (at_ 255 (reported craneRun)).cfg.params.ownSpan.hi ∧ (at_ 255 (reported
      craneRun)).cfg.params.ownSpan.lo ≤ info.toX ∧ info.toX ≤ (at_ 255 (reported
      craneRun)).cfg.params.ownSpan.hi ∧ (at_ 255 (reported craneRun)).linkTakes (BitVec.toNat
      callTelegram.source) (Message.moveBid 9 1 (min (((↑(at_ 255 (reported craneRun)).env.own.x : ℤ) -
      (↑info.fromX : ℤ)).natAbs + ((↑info.fromX : ℤ) - (↑info.toX : ℤ)).natAbs + (at_ 255 (reported
      craneRun)).mu.queue.length * (at_ 255 (reported craneRun)).cfg.params.queuePenalty) 16777215))) ∧
    ((at_ 256 (reported craneRun)).role = .crane ∧ (at_ 256 (reported craneRun)).hearsMessage callTelegram
      (Message.moveCall 9 1 info) ∧ (¬((at_ 256 (reported craneRun)).sp.mode = .run ∧ (at_ 256 (reported
      craneRun)).mu.leavePending = false ∧ (at_ 256 (reported craneRun)).flc.link = .normal ∧ (at_ 256 (reported
      craneRun)).env.own.isStale (at_ 256 (reported craneRun)).cfg.params (at_ 256 (reported craneRun)).time =
      false ∧ (at_ 256 (reported craneRun)).env.own.age (at_ 256 (reported craneRun)).time ≤ 255 ∧ (at_ 256
      (reported craneRun)).mu.queue.length < 8 ∧ (∀ m ∈ (at_ 256 (reported craneRun)).mu.queue, ¬(m.requester =
      BitVec.toNat callTelegram.source ∧ m.tag = 9)) ∧ (at_ 256 (reported craneRun)).cfg.params.ownSpan.lo ≤
      info.fromX ∧ info.fromX ≤ (at_ 256 (reported craneRun)).cfg.params.ownSpan.hi ∧ (at_ 256 (reported
      craneRun)).cfg.params.ownSpan.lo ≤ info.toX ∧ info.toX ≤ (at_ 256 (reported
      craneRun)).cfg.params.ownSpan.hi))) ∧
    ((queueing craneRun [queued 9 true]).role = .crane ∧ (queueing craneRun [queued 9 true]).hearsMessage
      awardTelegram (Message.moveAward 9 info) ∧ (∃ m ∈ (queueing craneRun [queued 9 true]).mu.queue,
      m.requester = BitVec.toNat awardTelegram.source ∧ m.tag = 9) ∧ (queueing craneRun [queued 9
      true]).linkTakes (BitVec.toNat awardTelegram.source) (Message.awardReply 9 true)) ∧
    ((queueing craneRun [queued 2 true, lowPriority]).role = .crane ∧ (queueing craneRun [queued 2 true,
      lowPriority]).hearsMessage awardTelegram (Message.moveAward 9 info) ∧ (∀ m ∈ (queueing craneRun [queued 2
      true, lowPriority]).mu.queue, ¬(m.requester = BitVec.toNat awardTelegram.source ∧ m.tag = 9)) ∧ (queueing
      craneRun [queued 2 true, lowPriority]).sp.mode = .run ∧ (queueing craneRun [queued 2 true,
      lowPriority]).mu.leavePending = false ∧ (queueing craneRun [queued 2 true, lowPriority]).mu.queue.length <
      8 ∧ (queueing craneRun [queued 2 true, lowPriority]).linkTakes (BitVec.toNat awardTelegram.source)
      (Message.awardReply 9 true)) ∧
    (craneRun.role = .crane ∧ craneRun.hearsMessage awardTelegram (Message.moveAward 9 info) ∧ (∀ m ∈
      craneRun.mu.queue, ¬(m.requester = BitVec.toNat awardTelegram.source ∧ m.tag = 9)) ∧ craneRun.sp.mode =
      .run ∧ craneRun.mu.leavePending = false ∧ craneRun.mu.queue.length < 8 ∧ craneRun.linkTakes (BitVec.toNat
      awardTelegram.source) (Message.awardReply 9 true)) ∧
    ((queueing craneRun (List.replicate 8 (queued 2 false))).role = .crane ∧ (queueing craneRun (List.replicate
      8 (queued 2 false))).hearsMessage awardTelegram (Message.moveAward 9 info) ∧ (∀ m ∈ (queueing craneRun
      (List.replicate 8 (queued 2 false))).mu.queue, ¬(m.requester = BitVec.toNat awardTelegram.source ∧ m.tag =
      9)) ∧ ((queueing craneRun (List.replicate 8 (queued 2 false))).sp.mode ≠ .run ∨ (queueing craneRun
      (List.replicate 8 (queued 2 false))).mu.leavePending = true ∨ 8 ≤ (queueing craneRun (List.replicate 8
      (queued 2 false))).mu.queue.length) ∧ (queueing craneRun (List.replicate 8 (queued 2 false))).linkTakes
      (BitVec.toNat awardTelegram.source) (Message.awardReply 9 false)) ∧
    ((queueing craneRun [queued 9 true]).hearsMessage revokeTelegram (Message.moveRevoke 9) ∧ (∃ m ∈ (queueing
      craneRun [queued 9 true]).mu.queue, (m.requester = BitVec.toNat revokeTelegram.source ∧ m.tag = 9) ∧
      m.started = true) ∧ (queueing craneRun [queued 9 true]).linkTakes (BitVec.toNat revokeTelegram.source)
      (Message.revokeReply 9 true)) ∧
    ((queueing craneRun [queued 9 false, queued 2 false]).role = .crane ∧ (queueing craneRun [queued 9 false,
      queued 2 false]).hearsMessage revokeTelegram (Message.moveRevoke 9) ∧ (∀ m ∈ (queueing craneRun [queued 9
      false, queued 2 false]).mu.queue, m.requester = BitVec.toNat revokeTelegram.source ∧ m.tag = 9 → m.started
      = false) ∧ (queueing craneRun [queued 9 false, queued 2 false]).linkTakes (BitVec.toNat
      revokeTelegram.source) (Message.revokeReply 9 false)) := by
  and_intros
  all_goals decide +kernel

theorem witness_MoveFinishEndsTheClear :
    (rackRun.takes frame ∧ rackRun.role ≠ .crane ∧ cutterRun.takes frame ∧ cutterRun.role ≠ .crane) ∧
    ((clearing false).takes frame ∧ (clearing false).role = .crane ∧ (clearing false).mu.queue = [clearMove true, queued 2
      false] ∧ (clearMove true).started = true ∧ (clearMove true).info.kind = .clear ∧ (clearing false).mu.leavePending =
      false ∧ (clearing false).linkTakes 7 (.moveDone 1 true none)) ∧
    ((clearing true).takes frame ∧ (clearing true).mu.leavePending = true ∧ (clearing true).sp.mode = .run ∧
      (clearing true).linkTakes 7 (.moveDone 1 true none)) ∧
    ((queueing craneRun [queued 9 true]).takes frame ∧ (queueing craneRun [queued 9 true]).role = .crane ∧ (∀ (m
      : QueuedMove), (queueing craneRun [queued 9 true]).mu.queue.head? = some m → m.started = false ∨
      m.info.kind ≠ .clear)) := by
  and_intros
  all_goals decide +kernel

theorem witness_RequestsAreJudgedAtTheDoor :
    (writeRequest (Instr.flush (WriteFrame.mk 35 false true)) = some (RequestCode.flush, 35, false) ∧ (34 <
      BitVec.toNat 35#8 ∨ false = true)) ∧
    (writeRequest (Instr.flush (WriteFrame.mk 34 true true)) = some (RequestCode.flush, 34, true) ∧ (34 <
      BitVec.toNat 34#8 ∨ true = true)) ∧
    (writeRequest (Instr.flush frame) = some (RequestCode.flush, 34, false) ∧ BitVec.toNat 34#8 ≤ 34 ∧ 4 ≤
      (unread 4).sp.buffer.length) ∧
    (writeRequest (Instr.status frame) = some (RequestCode.status, 34, false) ∧ State.reset.sp.buffer.length < 4
      ∧ State.reset.isLoaded = false ∧ (RequestCode.status ≠ RequestCode.status ∨ State.reset.cfg.load =
      LoadStatus.loading)) ∧
    ((unread 3).sp.buffer.length < 4 ∧ (unread 3).isLoaded = true) := by
  and_intros
  all_goals decide +kernel

theorem witness_ReadsAndQuestionsChangeNothingElse :
    ((cutterRun.takes frame ∨ cutterRun.cfg.load = .configFault ∧ cutterRun.sp.buffer.length < 4 ∧ BitVec.toNat
      frame.length ≤ 34 ∧ frame.cut = false ∧ frame.suits = true)) ∧
    ((unloaded.takes frame ∨ unloaded.cfg.load = .configFault ∧ unloaded.sp.buffer.length < 4 ∧ BitVec.toNat
      frame.length ≤ 34 ∧ frame.cut = false ∧ frame.suits = true)) ∧
    (cutterRun.takes frame) ∧
    ((PortAnswer.reply (cutterRun.sp.buffer[0]?)).frame = [0] ∧ 1 + fieldNat [0] 0 1 ≤ 1 ∧ 0 < 1 + fieldNat [0] 0 1) ∧
    ((PortAnswer.notice cutterRun.sp.lost (cutterRun.sp.notices[0]?)).frame = [1, 0] ∧ 1 + fieldNat [1, 0] 0 1 ≤ 2 ∧
      1 < 1 + fieldNat [1, 0] 0 1) ∧
    ((0 : Byte) ≠ 1 ∧ (0 : Byte) ≠ 2 ∧ (0 : Byte) ≠ 3 ∧ (4 : Byte) ≠ 1 ∧ (4 : Byte) ≠ 2 ∧ (4 : Byte) ≠ 3) ∧
    (writeRequest (Instr.flush frame) = some (RequestCode.flush, 34, false)) ∧
    ((TakeStatus.restarting, (3 : Byte)) ∈ [(TakeStatus.taken, (0 : Byte)), (.bufferFull, 1), (.notLoaded, 2),
      (.restarting, 3)]) := by
  and_intros
  all_goals first
    | decide +kernel
    | (left; (repeat' apply And.intro) <;> decide +kernel)
    | (right; decide +kernel)

theorem witness_SetModeFollowsTheTable :
    (cutterRun.takes frame ∧ cutterRun.sp.mode = .run ∧ (Mode.run = Mode.run → cutterRun.leavePending = false))
      ∧
    ((cutterRun.sp.mode = .offline ∧ Mode.offline = .run ∨ cutterRun.sp.mode = .run ∧ Mode.offline = .offline))
      ∧
    ((part .rack .offline).takes frame ∧ ((part .rack .offline).sp.mode = .offline ∧ Mode.run = .run ∨ (part
      .rack .offline).sp.mode = .run ∧ Mode.run = .offline)) ∧
    ((stopping burning).takes frame ∧ (stopping burning).sp.mode = .run ∧ Mode.run = Mode.run ∧ (stopping
      burning).leavePending = true) ∧
    (Mode.ready = Mode.ready) ∧
    (burning.takes frame ∧ burning.sp.mode = .run ∧ burning.leavePending = false ∧ burning.role = .cutter ∧
      (burning.rc.release = .inFlight ∨ burning.rc.release = .broken)) ∧
    ((queueing craneRun [queued 1 true, queued 2 false]).takes frame ∧ (queueing craneRun [queued 1 true, queued
      2 false]).sp.mode = .run ∧ (queueing craneRun [queued 1 true, queued 2 false]).leavePending = false ∧
      (queueing craneRun [queued 1 true, queued 2 false]).role = .crane ∧ (queueing craneRun [queued 1 true,
      queued 2 false]).mu.ordered) ∧
    (craneRun.takes frame ∧ craneRun.sp.mode = .run ∧ craneRun.leavePending = false ∧ craneRun.role = .crane ∧
      craneRun.mu.ordered) ∧
    ((part .cutter .offline).takes frame ∧ ((part .cutter .offline).sp.mode = .offline ∧ Mode.ready = .ready ∨
      (part .cutter .offline).sp.mode = .ready ∧ Mode.ready = .offline ∨ (part .cutter .offline).sp.mode =
      .ready ∧ Mode.ready = .run ∧ (part .cutter .offline).leavePending = false ∨ (part .cutter
      .offline).sp.mode = .run ∧ Mode.ready = .ready ∧ (part .cutter .offline).leavePending = false ∧ ((part
      .cutter .offline).role = .rack ∨ (part .cutter .offline).role = .cutter ∧ (part .cutter
      .offline).rc.release ≠ .inFlight ∧ (part .cutter .offline).rc.release ≠ .broken)) ∧ (part .cutter
      .offline).sp.notices.length < 32) ∧
    ((part .crane .ready).takes frame ∧ ((part .crane .ready).sp.mode = .offline ∧ Mode.offline = .ready ∨ (part
      .crane .ready).sp.mode = .ready ∧ Mode.offline = .offline ∨ (part .crane .ready).sp.mode = .ready ∧
      Mode.offline = .run ∧ (part .crane .ready).leavePending = false ∨ (part .crane .ready).sp.mode = .run ∧
      Mode.offline = .ready ∧ (part .crane .ready).leavePending = false ∧ ((part .crane .ready).role = .rack ∨
      (part .crane .ready).role = .cutter ∧ (part .crane .ready).rc.release ≠ .inFlight ∧ (part .crane
      .ready).rc.release ≠ .broken)) ∧ (part .crane .ready).sp.notices.length < 32) ∧
    (cutterReady.takes frame ∧ (cutterReady.sp.mode = .offline ∧ Mode.run = .ready ∨ cutterReady.sp.mode =
      .ready ∧ Mode.run = .offline ∨ cutterReady.sp.mode = .ready ∧ Mode.run = .run ∧ cutterReady.leavePending =
      false ∨ cutterReady.sp.mode = .run ∧ Mode.run = .ready ∧ cutterReady.leavePending = false ∧
      (cutterReady.role = .rack ∨ cutterReady.role = .cutter ∧ cutterReady.rc.release ≠ .inFlight ∧
      cutterReady.rc.release ≠ .broken)) ∧ cutterReady.sp.notices.length < 32) ∧
    ((filled waiting 2).takes frame ∧ ((filled waiting 2).sp.mode = .offline ∧ Mode.ready = .ready ∨ (filled
      waiting 2).sp.mode = .ready ∧ Mode.ready = .offline ∨ (filled waiting 2).sp.mode = .ready ∧ Mode.ready =
      .run ∧ (filled waiting 2).leavePending = false ∨ (filled waiting 2).sp.mode = .run ∧ Mode.ready = .ready ∧
      (filled waiting 2).leavePending = false ∧ ((filled waiting 2).role = .rack ∨ (filled waiting 2).role =
      .cutter ∧ (filled waiting 2).rc.release ≠ .inFlight ∧ (filled waiting 2).rc.release ≠ .broken)) ∧ (filled
      waiting 2).sp.notices.length < 32) := by
  and_intros
  all_goals decide +kernel

end Sys2Proof.Tests
end

section
/-! PROOF. Power-on and RESTART (R174), and the intrusion test of chapter 1. -/

namespace Sys2Proof.Machine

/-! ### Power-on and RESTART -/

/-- Settles O4: POWER_ON writes the reset state, and the values are read off it. -/
theorem powerOnResetsEveryBlock : Obligations.PowerOnResetsEveryBlock := by
  unfold Obligations.PowerOnResetsEveryBlock
  refine ⟨fun s => rfl, ?_⟩
  and_intros <;> rfl

/-- A frame of at most 34 bytes that was not cut short is no frame error (R168, R183). -/
theorem frameBad_eq_false {length : Byte} {cut : Bool} (hlen : length.toNat ≤ 34) (hcut : cut = false) :
    frameBad length cut = false := by
  simp [frameBad, hcut, hlen]

/-- Settles O5: no check but that of the frame stands before RESTART, and each block's own restart is what its rules
keep. -/
theorem restartKeepsWhatTheRulesKeep : Obligations.RestartKeepsWhatTheRulesKeep := by
  unfold Obligations.RestartKeepsWhatTheRulesKeep
  intro s f hlen hcut
  have hgood : frameBad f.length f.cut = false := frameBad_eq_false hlen hcut
  refine ⟨Config.idleNumber s.freeCount, ?_⟩
  change execRestart f s = _
  simp only [execRestart, hgood]
  rfl

/-! ### Rectangles that lie one within another (R8) -/

/-- One rectangle lies within another, ends included. -/
def Rect.within (a b : Rect) : Prop := (b.xlo ≤ a.xlo ∧ a.xhi ≤ b.xhi) ∧ b.ylo ≤ a.ylo ∧ a.yhi ≤ b.yhi

theorem Rect.overlaps_iff (a b : Rect) :
    a.overlaps b = true ↔ (a.xlo ≤ b.xhi ∧ b.xlo ≤ a.xhi) ∧ a.ylo ≤ b.yhi ∧ b.ylo ≤ a.yhi := by
  simp [Rect.overlaps, and_assoc]

/-- What a rectangle overlaps, every rectangle around it overlaps. -/
theorem Rect.overlaps_of_within {a b w : Rect} (h : a.within b) (ho : a.overlaps w = true) :
    b.overlaps w = true := by
  obtain ⟨⟨_, _⟩, _, _⟩ := h
  obtain ⟨⟨_, _⟩, _, _⟩ := (Rect.overlaps_iff a w).1 ho
  exact (Rect.overlaps_iff b w).2 ⟨⟨by omega, by omega⟩, by omega, by omega⟩

theorem Rect.within_join (a b : Rect) : a.within (a.join b) :=
  ⟨⟨min_le_left _ _, le_max_left _ _⟩, min_le_left _ _, le_max_left _ _⟩

theorem clampInt_mono {lo hi m n : Int} (h : m ≤ n) : clampInt lo hi m ≤ clampInt lo hi n :=
  max_le_max le_rfl (min_le_min le_rfl h)

theorem clampInt_bounds (hi : Nat) (n : Int) : 0 ≤ clampInt 0 hi n ∧ clampInt 0 hi n ≤ hi :=
  ⟨le_max_left _ _, max_le (Int.natCast_nonneg hi) (min_le_left _ _)⟩

/-- Holding both within the hall keeps one rectangle within the other (R8). -/
theorem Rect.toHall_within {a b : Rect} (p : Params) (h : a.within b) : (a.toHall p).within (b.toHall p) := by
  obtain ⟨⟨hxlo, hxhi⟩, hylo, hyhi⟩ := h
  exact ⟨⟨clampInt_mono hxlo, clampInt_mono hxhi⟩, clampInt_mono hylo, clampInt_mono hyhi⟩

/-! ### The reach and the envelopes (R7, R8, R10, R11) -/

theorem reach_le_cap (v t cap : Nat) : reach v t cap ≤ cap := Nat.min_le_right _ _

/-- A faster crane reaches no less far (R7). -/
theorem reach_mono {v u : Nat} (h : v ≤ u) (t cap : Nat) : reach v t cap ≤ reach u t cap := by
  unfold reach
  have : v * t ≤ u * t := Nat.mul_le_mul_right t h
  omega

/-- Below the cap the reach is the distance in the time, rounded up to the next whole millimetre (R7). -/
theorem reach_rounds_up {v t cap : Nat} (h : v * t ≤ 1000 * cap) :
    v * t ≤ 1000 * reach v t cap ∧ 1000 * reach v t cap < v * t + 1000 := by
  unfold reach
  omega

theorem reach_eq_cap {v t cap : Nat} (h : 1000 * cap < v * t) : reach v t cap = cap := by
  unfold reach
  omega

/-- The FRESH envelope lies around the reported footprint, clipped to the hall (R8). -/
theorem footprint_within_freshEnvelope (p : Params) (d : CraneData) (a m : Nat) :
    (d.footprint.toHall p).within (freshEnvelope p d a m) := by
  refine Rect.toHall_within p ⟨⟨?_, ?_⟩, ?_, ?_⟩ <;> simp only [CraneData.footprint] <;> split <;> omega

/-- The STALE envelope lies around the FRESH one of the same age, whose speeds the velocity cap bounds (R10). -/
theorem freshEnvelope_within_staleEnvelope (p : Params) {d : CraneData} (a m : Nat) (hx : d.vx.natAbs ≤ vcap)
    (hy : d.vy.natAbs ≤ vcap) : (freshEnvelope p d a m).within (staleEnvelope p d a m) := by
  have hdx := reach_mono hx (a + p.lookCut) p.xmax
  have hdy := reach_mono hy (a + p.lookCut) p.ymax
  refine Rect.toHall_within p ⟨⟨?_, ?_⟩, ?_, ?_⟩ <;> dsimp only <;> split <;> omega

/-- The STALE envelope lies around the reported footprint, clipped to the hall (R8). -/
theorem footprint_within_staleEnvelope (p : Params) (d : CraneData) (a m : Nat) :
    (d.footprint.toHall p).within (staleEnvelope p d a m) := by
  refine Rect.toHall_within p ⟨⟨?_, ?_⟩, ?_, ?_⟩ <;> simp only [CraneData.footprint] <;> omega

/-- A larger margin gives a larger FRESH envelope. -/
theorem freshEnvelope_mono (p : Params) (d : CraneData) (a : Nat) {m n : Nat} (h : m ≤ n) :
    (freshEnvelope p d a m).within (freshEnvelope p d a n) := by
  refine Rect.toHall_within p ⟨⟨?_, ?_⟩, ?_, ?_⟩ <;> dsimp only <;> omega

/-- A larger margin gives a larger STALE envelope. -/
theorem staleEnvelope_mono (p : Params) (d : CraneData) (a : Nat) {m n : Nat} (h : m ≤ n) :
    (staleEnvelope p d a m).within (staleEnvelope p d a n) := by
  refine Rect.toHall_within p ⟨⟨?_, ?_⟩, ?_, ?_⟩ <;> dsimp only <;> omega

/-! ### The result of the two margins (R9, R10) -/

theorem twoMargins_eq_cutoff (p : Params) (env : Nat → Rect) (w : Rect) (c : FumeClass) :
    twoMargins p env w c = .cutoff ↔ (env (p.margins c).cutoff).overlaps w = true := by
  unfold twoMargins
  split
  · simp [*]
  · split <;> simp [*]

/-- Where the hold envelope lies around the cut-off one, the result is CLEAR just where the hold envelope keeps clear
of the window. -/
theorem twoMargins_eq_clear {p : Params} {env : Nat → Rect} {c : FumeClass}
    (h : (env (p.margins c).cutoff).within (env (p.margins c).hold)) (w : Rect) :
    twoMargins p env w c = .clear ↔ (env (p.margins c).hold).overlaps w = false := by
  unfold twoMargins
  split
  · simp [Rect.overlaps_of_within h ‹_›]
  · split <;> simp [*]

/-- Envelopes that lie around others give a result that is not lower (R10). -/
theorem twoMargins_rank_mono {env env' : Nat → Rect} (h : ∀ m, (env m).within (env' m)) (p : Params) (w : Rect)
    (c : FumeClass) : (twoMargins p env w c).rank ≤ (twoMargins p env' w c).rank := by
  by_cases hc : (env (p.margins c).cutoff).overlaps w = true
  · rw [(twoMargins_eq_cutoff ..).2 hc, (twoMargins_eq_cutoff ..).2 (Rect.overlaps_of_within (h _) hc)]
  · by_cases hh : (env (p.margins c).hold).overlaps w = true
    · have hh' := Rect.overlaps_of_within (h _) hh
      simp only [twoMargins, hc, hh, hh', if_true, if_false, Bool.false_eq_true]
      split <;> simp [Intrusion.rank]
    · simp [twoMargins, hc, hh, Intrusion.rank]

/-! ### The result of one entry (R9 to R11) -/

theorem craneResult_exempt {e : PeerEntry} {d : CraneData} (p : Params) (now : Count) (w : Rect) (c : FumeClass)
    (he : e.state = .fresh) (h : d.load = .empty ∧ d.hook = .high) : craneResult p now e d w c = .clear := by
  simp [craneResult, he, h]

theorem craneResult_fresh {e : PeerEntry} {d : CraneData} (p : Params) (now : Count) (w : Rect) (c : FumeClass)
    (he : e.state = .fresh) (h : ¬ (d.load = .empty ∧ d.hook = .high)) :
    craneResult p now e d w c = twoMargins p (freshEnvelope p d (e.age now)) w c := by
  simp [craneResult, he, h]

theorem craneResult_stale {e : PeerEntry} (p : Params) (now : Count) (d : CraneData) (w : Rect) (c : FumeClass)
    (he : e.state = .stale) : craneResult p now e d w c = twoMargins p (staleEnvelope p d (e.age now)) w c := by
  simp [craneResult, he]

theorem craneResult_lost {e : PeerEntry} (p : Params) (now : Count) (d : CraneData) (w : Rect) (c : FumeClass)
    (he : e.state = .lost) :
    craneResult p now e d w c = if (lostEnvelope p d e.heard).overlaps w = true then .cutoff else .clear := by
  simp [craneResult, he]

/-- The LOST envelope lies around the runway (R11). -/
theorem runway_within_lostEnvelope (p : Params) (d : CraneData) (heard : Bool) :
    Rect.within ⟨d.span.lo, d.span.hi, 0, p.ymax⟩ (lostEnvelope p d heard) := by
  cases heard
  · exact ⟨⟨le_rfl, le_rfl⟩, le_rfl, le_rfl⟩
  · exact Rect.within_join ..

/-- Settles O19: the STALE envelope lies around the FRESH one, and both around the footprint, bound by bound. -/
theorem envelopesCoverTheReport : Obligations.EnvelopesCoverTheReport := by
  unfold Obligations.EnvelopesCoverTheReport
  refine ⟨fun v time cap => ⟨reach_le_cap .., by simp [reach], reach_rounds_up, reach_eq_cap⟩, ?_, ?_⟩
  · intro p d a m e he
    have hin : (d.footprint.toHall p).within e ∧ ∃ r, e = Rect.toHall p r := by
      rcases he with rfl | rfl
      · exact ⟨footprint_within_freshEnvelope .., _, rfl⟩
      · exact ⟨footprint_within_staleEnvelope .., _, rfl⟩
    obtain ⟨⟨⟨hxlo, hxhi⟩, hylo, hyhi⟩, r, rfl⟩ := hin
    exact ⟨⟨(clampInt_bounds ..).1, hxlo, hxhi, (clampInt_bounds ..).2⟩,
      (clampInt_bounds ..).1, hylo, hyhi, (clampInt_bounds ..).2⟩
  · intro p now e d w c hx hy
    rw [craneResult_stale p now d w c (e := { e with state := .stale }) rfl]
    by_cases hexempt : d.load = .empty ∧ d.hook = .high
    · rw [craneResult_exempt p now w c rfl hexempt]
      exact Nat.zero_le _
    · rw [craneResult_fresh p now w c rfl hexempt]
      exact twoMargins_rank_mono (fun m => freshEnvelope_within_staleEnvelope p _ m hx hy) p w c

/-- Settles O20: the two margins of a FRESH or STALE entry, and the LOST envelope around the runway. -/
theorem craneResultFollowsItsState : Obligations.CraneResultFollowsItsState := by
  unfold Obligations.CraneResultFollowsItsState
  intro p now e d w c
  refine ⟨fun he hload hhook => craneResult_exempt p now w c he ⟨hload, hhook⟩, ?_, ?_⟩
  · rintro (⟨he, hload⟩ | he)
    · simp only [he, if_true, craneResult_fresh p now w c he hload]
      exact ⟨twoMargins_eq_cutoff .., fun hm => twoMargins_eq_clear (freshEnvelope_mono p d _ hm) w⟩
    · simp only [he, reduceCtorEq, if_false, craneResult_stale p now d w c he]
      exact ⟨twoMargins_eq_cutoff .., fun hm => twoMargins_eq_clear (staleEnvelope_mono p d _ hm) w⟩
  · intro he
    rw [craneResult_lost p now d w c he]
    refine ⟨by split <;> simp, fun hrunway => ?_, by cases e.heard <;> rfl⟩
    rw [if_pos (Rect.overlaps_of_within (runway_within_lostEnvelope p d e.heard) hrunway)]

end Sys2Proof.Machine
end

section
/-! PROOF. Tables of positions, the evaluation of the crane entries (R12 to R14), and POSITION (R15 to R20, R166). -/

namespace Sys2Proof.Machine

/-! ### Tables of positions -/

theorem entryAt_eq_some {α : Type} {l : List (Option α)} {n : Nat} {e : α} :
    entryAt l n = some e ↔ l[n]? = some (some e) := by
  cases h : l[n]? <;> simp [entryAt, h]

theorem lt_length_of_entryAt {α : Type} {l : List (Option α)} {n : Nat} {e : α} (h : entryAt l n = some e) :
    n < l.length :=
  (List.getElem?_eq_some_iff.1 (entryAt_eq_some.1 h)).1

/-- Changing every entry changes the entry of each position. -/
theorem entryAt_map {α β : Type} (l : List (Option α)) (f : α → β) (n : Nat) :
    entryAt (l.map (fun o => o.map f)) n = (entryAt l n).map f := by
  cases h : l[n]? <;> simp [entryAt, h]

/-- The entries of a table are those of its positions. -/
theorem mem_entriesOf {α : Type} {l : List (Option α)} {e : α} :
    e ∈ entriesOf l ↔ ∃ n, entryAt l n = some e := by
  rw [entriesOf, List.mem_filterMap]
  simp only [id_eq, exists_eq_right, entryAt_eq_some, List.mem_iff_getElem?]

/-! ### The station result (R12 to R14) -/

theorem worse_rank (a b : Intrusion) : a.rank ≤ (a.worse b).rank ∧ b.rank ≤ (a.worse b).rank := by
  unfold Intrusion.worse
  split <;> omega

theorem worse_eq (a b : Intrusion) : a.worse b = a ∨ a.worse b = b := by
  unfold Intrusion.worse
  split <;> simp

/-- The highest of a list of results bounds its start and each result. -/
theorem rank_le_foldl_worse {α : Type} (f : α → Intrusion) (l : List α) (a : Intrusion) :
    a.rank ≤ (l.foldl (fun a e => a.worse (f e)) a).rank
      ∧ ∀ e ∈ l, (f e).rank ≤ (l.foldl (fun a e => a.worse (f e)) a).rank := by
  induction l generalizing a with
  | nil => simp
  | cons x l ih =>
    obtain ⟨hstart, hrest⟩ := ih (a.worse (f x))
    obtain ⟨ha, hx⟩ := worse_rank a (f x)
    refine ⟨ha.trans hstart, fun e he => ?_⟩
    rcases List.mem_cons.1 he with rfl | he
    · exact hx.trans hstart
    · exact hrest e he

/-- The highest of a list of results is its start or one of the results. -/
theorem foldl_worse_eq {α : Type} (f : α → Intrusion) (l : List α) (a : Intrusion) :
    l.foldl (fun a e => a.worse (f e)) a = a ∨ ∃ e ∈ l, l.foldl (fun a e => a.worse (f e)) a = f e := by
  induction l generalizing a with
  | nil => exact .inl rfl
  | cons x l ih =>
    rcases ih (a.worse (f x)) with h | ⟨e, he, h⟩
    · rcases worse_eq a (f x) with hw | hw
      · exact .inl (h.trans hw)
      · exact .inr ⟨x, List.mem_cons_self, h.trans hw⟩
    · exact .inr ⟨e, List.mem_cons_of_mem x he, h⟩

/-- Each stored result is bounded by the highest one (R12). -/
theorem rank_le_worstResult {l : List (Option PeerEntry)} {n : Nat} {e : PeerEntry} {r : Intrusion}
    (he : entryAt l n = some e) (hr : e.result = some r) : r.rank ≤ (worstResult l).rank := by
  have h := (rank_le_foldl_worse (fun e : PeerEntry => e.result.getD .clear) (entriesOf l) .clear).2 e
    (mem_entriesOf.2 ⟨n, he⟩)
  simpa only [worstResult, hr, Option.getD_some] using h

/-- A highest result that is not CLEAR is stored with an entry (R12). -/
theorem worstResult_stored {l : List (Option PeerEntry)} (h : worstResult l ≠ .clear) :
    ∃ n e, entryAt l n = some e ∧ e.result = some (worstResult l) := by
  rcases foldl_worse_eq (fun e : PeerEntry => e.result.getD .clear) (entriesOf l) .clear with hw | ⟨e, he, hw⟩
  · exact absurd hw h
  · obtain ⟨n, hn⟩ := mem_entriesOf.1 he
    refine ⟨n, e, hn, ?_⟩
    unfold worstResult at h ⊢
    rw [hw] at h ⊢
    cases hr : e.result with
    | none => simp [hr] at h
    | some r => rfl

/-! ### Evaluation of the entries (R12 to R14) -/

theorem evaluateEntry_crane {s : State} {e : PeerEntry} {d : CraneData} {w : Rect × FumeClass}
    (hw : s.windowUnderTest = some w) (hd : e.data = .crane d) :
    s.evaluateEntry e = { e with result := some (craneResult s.cfg.params s.time e d w.1 w.2) } := by
  simp [State.evaluateEntry, hw, hd]

/-- Only a crane entry holds a result (R12). -/
theorem crane_of_evaluateEntry {s : State} {e : PeerEntry} {w : Rect × FumeClass} {r : Intrusion}
    (hw : s.windowUnderTest = some w) (hr : (s.evaluateEntry e).result = some r) :
    ∃ d, e.data = .crane d ∧ r = craneResult s.cfg.params s.time e d w.1 w.2 := by
  cases hd : e.data with
  | crane d =>
    rw [evaluateEntry_crane hw hd] at hr
    exact ⟨d, rfl, (Option.some.inj hr).symm⟩
  | cutter d => simp [State.evaluateEntry, hw, hd] at hr
  | rack n => simp [State.evaluateEntry, hw, hd] at hr

/-- Without a window under test an entry holds no result (R12). -/
theorem evaluateEntry_none {s : State} (e : PeerEntry) (hw : s.windowUnderTest = none) :
    s.evaluateEntry e = e.told := by
  simp [State.evaluateEntry, hw, PeerEntry.told]

/-- An evaluation changes nothing of an entry but its result. -/
@[simp] theorem evaluateEntry_told (s : State) (e : PeerEntry) : (s.evaluateEntry e).told = e.told := by
  unfold State.evaluateEntry
  split <;> rfl

/-- The peer table's positions once every entry is evaluated (R14). -/
def State.evaluated (s : State) : List (Option PeerEntry) := s.pt.entries.map (fun o => o.map s.evaluateEntry)

/-- The position of an evaluated entry held the entry it was made from. -/
theorem entryAt_evaluated {s : State} {n : Nat} {e : PeerEntry} :
    entryAt s.evaluated n = some e ↔ ∃ e', entryAt s.pt.entries n = some e' ∧ s.evaluateEntry e' = e := by
  rw [State.evaluated, entryAt_map]
  exact Option.map_eq_some_iff

/-- What an evaluation of every entry writes (R12, R14). -/
theorem evaluateAll_cutter {s : State} (h : s.role = .cutter) :
    evaluateAll s = { s with
      pt := { s.pt with entries := s.evaluated }
      env := { s.env with
        station := if s.windowUnderTest.isSome then worstResult s.evaluated else .clear } } := by
  simp only [evaluateAll, h, if_true]
  rfl

/-- In the other roles there is no window under test to evaluate. -/
theorem evaluateAll_other {s : State} (h : s.role ≠ .cutter) : evaluateAll s = s := by
  simp [evaluateAll, h]

/-- Evaluating every entry changes the results alone. -/
theorem evaluateAll_told (s : State) : (evaluateAll s).pt.told = s.pt.told := by
  by_cases h : s.role = .cutter
  · simp [evaluateAll_cutter h, State.evaluated, PeerTable.told, Function.comp_def]
  · rw [evaluateAll_other h]

/-- With a window under test each crane entry holds its own result, and the station result is not lower. -/
theorem evaluateAll_crane {s : State} {w : Rect × FumeClass} {n : Nat} {e : PeerEntry} {d : CraneData}
    (hrole : s.role = .cutter) (hw : s.windowUnderTest = some w) (he : entryAt s.pt.entries n = some e)
    (hd : e.data = .crane d) :
    entryAt (evaluateAll s).pt.entries n
        = some { e with result := some (craneResult s.cfg.params s.time e d w.1 w.2) }
      ∧ (craneResult s.cfg.params s.time e d w.1 w.2).rank ≤ (evaluateAll s).env.station.rank := by
  have hn : entryAt s.evaluated n
      = some { e with result := some (craneResult s.cfg.params s.time e d w.1 w.2) } :=
    entryAt_evaluated.2 ⟨e, he, evaluateEntry_crane hw hd⟩
  rw [evaluateAll_cutter hrole]
  refine ⟨hn, ?_⟩
  simpa only [hw, Option.isSome_some, if_true] using rank_le_worstResult hn rfl

/-- A station result that is not CLEAR is that of a crane entry. -/
theorem evaluateAll_station {s : State} {w : Rect × FumeClass} (hrole : s.role = .cutter)
    (hw : s.windowUnderTest = some w) (h : (evaluateAll s).env.station ≠ .clear) :
    ∃ n e d, entryAt s.pt.entries n = some e ∧ e.data = .crane d
      ∧ (evaluateAll s).env.station = craneResult s.cfg.params s.time e d w.1 w.2 := by
  simp only [evaluateAll_cutter hrole, hw, Option.isSome_some, if_true] at h ⊢
  obtain ⟨n, e, hn, hr⟩ := worstResult_stored h
  obtain ⟨e', he', rfl⟩ := entryAt_evaluated.1 hn
  obtain ⟨d, hd, hres⟩ := crane_of_evaluateEntry hw hr
  exact ⟨n, e', d, he', hd, hres⟩

/-- Without a window under test every result is dropped and the station result is CLEAR. -/
theorem evaluateAll_none {s : State} (hrole : s.role = .cutter) (hw : s.windowUnderTest = none) :
    (evaluateAll s).env.station = .clear
      ∧ ∀ n e, entryAt (evaluateAll s).pt.entries n = some e → e.result = none := by
  rw [evaluateAll_cutter hrole]
  refine ⟨by simp [hw], fun n e he => ?_⟩
  obtain ⟨e', -, rfl⟩ := entryAt_evaluated.1 he
  rw [evaluateEntry_none e' hw]
  rfl

/-! ### The window under test (R2, R3, R13) -/

/-- A copy of no class has no window under test (R3). -/
theorem hallWindow_none {p : Params} {c : Copy} (h : c.content.fume = .none) : c.hallWindow p = none := by
  simp [Copy.hallWindow, SegContent.isArc, h]

/-- An arc copy's window is shifted by the bed's corner (R2). -/
theorem hallWindow_arc {p : Params} {c : Copy} {w : Rect} (h : c.content.fume ≠ .none) (hw : c.window = some w) :
    c.hallWindow p
      = some (⟨w.xlo + p.bedX, w.xhi + p.bedX, w.ylo + p.bedY, w.yhi + p.bedY⟩, c.content.fume) := by
  simp [Copy.hallWindow, SegContent.isArc, h, hw, Params.toHallWindow, Rect.shift]

theorem windowUnderTest_none {s : State} (h : s.rc.release = .idle ∨ s.rc.release = .faulted) :
    s.windowUnderTest = none := by
  rcases h with h | h <;> simp [State.windowUnderTest, h]

theorem windowUnderTest_head {s : State} {c : Copy} (h : s.rc.release = .waiting) (hc : s.rc.head = some c) :
    s.windowUnderTest = c.hallWindow s.cfg.params := by
  simp [State.windowUnderTest, h, hc]

theorem windowUnderTest_current {s : State} {c : Current} (h : s.rc.release = .inFlight ∨ s.rc.release = .broken)
    (hc : s.rc.current = some c) : s.windowUnderTest = c.copy.hallWindow s.cfg.params := by
  rcases h with h | h <;> simp [State.windowUnderTest, h, hc]

/-- Settles O21: the evaluation writes each crane entry's own result, and the station result bounds them and is one
of them. -/
theorem evaluationFormsTheHighestResult : Obligations.EvaluationFormsTheHighestResult := by
  unfold Obligations.EvaluationFormsTheHighestResult
  refine ⟨fun s hrole => ⟨fun w hw => ⟨fun n e d => evaluateAll_crane hrole hw, evaluateAll_station hrole hw⟩,
    evaluateAll_none hrole, evaluateAll_told s, by rw [evaluateAll_cutter hrole]⟩, ?_, ?_⟩
  · intro s tests
    refine ⟨windowUnderTest_none, fun c h hc => ?_, fun c h hc => ?_⟩
    · simp only [tests, windowUnderTest_head h hc]
      exact ⟨hallWindow_none, fun hf w => hallWindow_arc hf⟩
    · simp only [tests, windowUnderTest_current h hc]
      exact ⟨hallWindow_none, fun hf w => hallWindow_arc hf⟩
  · intro current budget template k dx pierce w part target x y i notch
    refine ⟨fun h => if_pos h, fun h => if_neg (by omega), rfl, fun c hc => ?_⟩
    simp only [List.mem_cons, List.not_mem_nil, or_false] at hc
    rcases hc with rfl | rfl | rfl | rfl | rfl | rfl <;> rfl

/-! ### Requests that are taken (R168, R169) -/

/-- What the port leaves of a request that its owner has answered (R169). -/
theorem takenRequest_eq {s t : State} {code : RequestCode} {act : State → State × Answer} {r : ResultCode}
    {d : ReplyData} (h : act s.begun = (t, r, d)) : takenRequest code act s = s.replied code r d t := by
  unfold State.begun at h
  simp only [takenRequest, h]
  rfl

/-- A request of a good frame that finds the part loaded and room in the buffer is taken by its owner (R168, R183). -/
theorem roleRequest_takes {s : State} {f : WriteFrame} (h : s.takes f) (code : RequestCode) (roleOk : Role → Bool)
    (act : State → State × Answer) :
    roleRequest f code roleOk act s
      = takenRequest code (fun u => if roleOk u.role then act u else refuse .wrongMode u) s := by
  obtain ⟨hloaded, hroom, hlen, hcut, hsuits⟩ := h
  have hact : (fun u : State => judge (firstOf [(!roleOk u.role, .wrongMode), (!f.suits, .fieldRange)]) act u)
      = fun u => if roleOk u.role then act u else refuse .wrongMode u := by
    funext u
    cases roleOk u.role <;> simp [firstOf, judge, hsuits]
  have hbuf : ¬ 4 ≤ s.sp.buffer.length := by omega
  simp only [roleRequest, loadedRequest, request, frameBad_eq_false hlen hcut, hact, hbuf, hloaded, if_true, if_false,
    true_or, Bool.false_eq_true]

/-! ### The crane's evaluation (R18 to R20, R166) -/

/-- The lines of a crane while a cause withdraws them, and with its results handed on (R166). -/
theorem craneEvaluates_crane {s : State} (h : s.role = .crane) :
    craneEvaluates s = { s with
      env := { s.env with permits := cranePermits s.cfg.params s.time s.env.own s.cutterWindows }
      mu := { s.mu with live := !s.linesWithdrawn }
      lu := s.lu.withPermits (if s.linesWithdrawn then .withdrawn
        else cranePermits s.cfg.params s.time s.env.own s.cutterWindows) } := by
  have hr : s.cfg.params.role = .crane := h
  cases hw : s.linesWithdrawn <;>
    simp_all [craneEvaluates, driveLines, State.role, State.linesWithdrawn, State.isLoaded]

/-- An urgent beacon changes the floor link alone (R52). -/
theorem callUrgent_eq (s : State) : callUrgent s = { s with flc := (callUrgent s).flc } := by
  unfold callUrgent
  split
  · split <;> rfl
  · rfl

/-- What an urgent beacon changes is read off the floor link, the time, the load and the mode (R52). -/
theorem callUrgent_congr {s t : State} (hflc : t.flc = s.flc) (htime : t.time = s.time)
    (hload : t.cfg.load = s.cfg.load) (hmode : t.sp.mode = s.sp.mode) :
    (callUrgent t).flc = (callUrgent s).flc := by
  have hann : t.announces = s.announces := by simp only [State.announces, State.isLoaded, hflc, hload, hmode]
  unfold callUrgent State.timer
  simp only [hann, hflc, htime]
  cases s.announces
  · exact hflc
  · cases s.flc.spacingTimer <;> rfl

/-- An urgent beacon neither reads nor changes the own record. -/
theorem callUrgent_env (s : State) (e : Env) : callUrgent { s with env := e } = { callUrgent s with env := e } := by
  have hflc : (callUrgent { s with env := e }).flc = (callUrgent s).flc := callUrgent_congr rfl rfl rfl rfl
  rw [callUrgent_eq { s with env := e }, callUrgent_eq s, hflc]

/-- A crane with a fresh report: the four directions are granted to an empty hook held HIGH, and else to every
direction whose probe meets no window on that side; lowering is granted where no window lies under the hook. -/
theorem cranePermits_fresh {p : Params} {now : Count} {o : OwnPosition} (h : o.isStale p now = false)
    (ws : List (Rect × FumeClass)) :
    (o.load = .empty → o.hook = .high →
      (cranePermits p now o ws).xp = true ∧ (cranePermits p now o ws).xn = true
        ∧ (cranePermits p now o ws).yp = true ∧ (cranePermits p now o ws).yn = true)
    ∧ ((cranePermits p now o ws).lower = true ↔ ∀ w ∈ ws, (lowerRect p o w.2).overlaps w.1 = false)
    ∧ (¬ (o.load = .empty ∧ o.hook = .high) →
        ((cranePermits p now o ws).xp = true ↔
          ∀ w ∈ ws, (probeXP p o w.2).overlaps w.1 = true → w.1.centreX ≤ o.x)
        ∧ ((cranePermits p now o ws).xn = true ↔
          ∀ w ∈ ws, (probeXN p o w.2).overlaps w.1 = true → o.x ≤ w.1.centreX)
        ∧ ((cranePermits p now o ws).yp = true ↔
          ∀ w ∈ ws, (probeYP p o w.2).overlaps w.1 = true → w.1.centreY ≤ o.y)
        ∧ ((cranePermits p now o ws).yn = true ↔
          ∀ w ∈ ws, (probeYN p o w.2).overlaps w.1 = true → o.y ≤ w.1.centreY)) := by
  refine ⟨fun hload hhook => ?_, ?_, fun hload => ?_⟩
  · simp [cranePermits, h, hload, hhook]
  · simp [cranePermits, h]
  · have hexempt : (decide (o.load = .empty) && decide (o.hook = .high)) = false := by simpa using hload
    simp [cranePermits, h, hexempt]

/-- A taken POSITION replaces the own record, and the crane evaluates (R15, R20). -/
theorem takePosition_crane {s : State} (h : s.role = .crane) (v : PositionFields) :
    let o := ownPosition s.cfg.params s.time v
    let r := cranePermits s.cfg.params s.time o s.cutterWindows
    let u := if o.load ≠ s.env.own.load ∨ o.hook ≠ s.env.own.hook then callUrgent s else s
    takePosition v s = answerOk { u with
      env := { s.env with own := o, permits := r }
      mu := { s.mu with live := !s.linesWithdrawn }
      lu := s.lu.withPermits (if s.linesWithdrawn then .withdrawn else r) } := by
  intro o r u
  have hu : (if o.load ≠ s.env.own.load ∨ o.hook ≠ s.env.own.hook
      then callUrgent { s with env := { s.env with own := o } } else { s with env := { s.env with own := o } })
      = { s with flc := u.flc, env := { s.env with own := o } } := by
    simp only [u]
    split
    · rw [callUrgent_env, callUrgent_eq]
    · rfl
  have hs : u = { s with flc := u.flc } := by
    simp only [u]
    split
    · exact callUrgent_eq s
    · rfl
  have hc := craneEvaluates_crane (s := { s with flc := u.flc, env := { s.env with own := o } }) h
  simp only [takePosition]
  rw [hu, hc, hs]
  rfl

/-- Settles O22: POSITION is taken with no check of its own, and the crane evaluates from the record it leaves. -/
theorem positionSetsRecordAndLines : Obligations.PositionSetsRecordAndLines := by
  unfold Obligations.PositionSetsRecordAndLines
  refine ⟨?_, fun p now o ws => ⟨fun hstale => by simp [cranePermits, hstale, Permits.withdrawn],
    fun hfresh => cranePermits_fresh hfresh ws⟩, ?_⟩
  · intro s f v htakes hrole o r u
    change execPosition f v s = _
    have htake := takePosition_crane (s := s.begun) hrole v
    rw [execPosition, roleRequest_takes htakes, takenRequest_eq (t := { u with
      env := { s.env with own := o, permits := r }
      mu := { s.mu with live := !s.linesWithdrawn }
      lu := s.lu.withPermits (if s.linesWithdrawn then .withdrawn else r) }) (r := .ok) (d := .none)]
    · cases s.linesWithdrawn <;> rfl
    · have hcrane : craneOnly s.begun.role = true := decide_eq_true hrole
      rw [if_pos hcrane, htake]
      rfl
  · intro s f v htakes hrole
    change execPosition f v s = _
    have hother : craneOnly s.begun.role = false := decide_eq_false hrole
    rw [execPosition, roleRequest_takes htakes, takenRequest_eq]
    simp only [hother, refuse]
    rfl

end Sys2Proof.Machine
end

section
/-! PROOF. What a result handed on leaves of the peer table and of the notices, and what it does to the copy in flight
(R83, R89, R90). -/

namespace Sys2Proof.Machine

/-! ### The peer entries apart from their results, and the notices -/

/-- The peer table apart from the envelope unit's results. -/
def PeerTable.bare (t : PeerTable) : PeerTable := { t with entries := t.told }

theorem PeerTable.bare_eq_iff {t u : PeerTable} :
    t.bare = u.bare ↔ t.told = u.told ∧ t = { u with entries := t.entries } := by
  cases t
  cases u
  simp [PeerTable.bare]

/-- The peer table is `b` but for the results, and the notices begin with `l`: what an evaluation, a break, a release
and a fault keep. -/
def State.stands (b : PeerTable) (l : List Notice) (s : State) : Prop := s.pt.bare = b ∧ l <+: s.sp.notices

theorem stands_refl (s : State) : s.stands s.pt.bare s.sp.notices := ⟨rfl, List.prefix_rfl⟩

section
variable {b : PeerTable} {l : List Notice} {s : State}

theorem stands_of_eq {t : State} (h : s.stands b l) (hpt : t.pt = s.pt) (hsp : t.sp = s.sp) : t.stands b l := by
  unfold State.stands
  rw [hpt, hsp]
  exact h

theorem ite_stands {p : Prop} [Decidable p] {t u : State} (ht : t.stands b l) (hu : u.stands b l) :
    (if p then t else u).stands b l := by
  split <;> assumption

theorem raise_stands (d : NoticeData) (h : s.stands b l) : (raise d s).stands b l := by
  rcases raise_cases d s with ⟨-, he⟩ | ⟨-, he⟩ <;> rw [he]
  · exact ⟨h.1, h.2.trans (List.prefix_append ..)⟩
  · exact h

theorem callUrgent_stands (h : s.stands b l) : (callUrgent s).stands b l := stands_of_eq h (by simp) (by simp)

theorem announce_stands (a : Bool) (h : s.stands b l) : (announce a s).stands b l := stands_of_eq h (by simp) (by simp)

theorem logMark_stands (c : Current) (o : MarkOutcome) (h : s.stands b l) : (logMark c o s).stands b l :=
  stands_of_eq h (by simp) (by simp)

theorem noteResult_stands (h : s.stands b l) : (noteResult s).stands b l := stands_of_eq h (by simp) (by simp)

theorem driveLines_stands (h : s.stands b l) : (driveLines s).stands b l := stands_of_eq h (by simp) (by simp)

theorem craneEvaluates_stands (h : s.stands b l) : (craneEvaluates s).stands b l := stands_of_eq h (by simp) (by simp)

/-- Changing one entry's result changes nothing else of the table. -/
theorem modifyAt_told (entries : List (Option PeerEntry)) (n : Nat) {f : PeerEntry → PeerEntry}
    (hf : ∀ e, (f e).told = e.told) :
    (modifyAt entries n f).map (fun o => o.map PeerEntry.told) = entries.map (fun o => o.map PeerEntry.told) := by
  apply List.ext_getElem?
  intro m
  simp only [modifyAt, List.getElem?_map, List.getElem?_modify]
  split <;> simp [Function.comp_def, hf]

theorem evaluateOne_stands (n : Nat) (h : s.stands b l) : (evaluateOne n s).stands b l := by
  unfold evaluateOne
  split
  · refine ⟨Eq.trans ?_ h.1, h.2⟩
    exact congrArg (fun es => { s.pt with entries := es }) (modifyAt_told s.pt.entries n (evaluateEntry_told s))
  · exact h

theorem evaluateAll_stands (h : s.stands b l) : (evaluateAll s).stands b l := by
  refine ⟨Eq.trans ?_ h.1, by simpa using h.2⟩
  refine PeerTable.bare_eq_iff.2 ⟨evaluateAll_told s, ?_⟩
  by_cases hrole : s.role = .cutter
  · rw [evaluateAll_cutter hrole]
  · rw [evaluateAll_other hrole]

theorem breakCopy_stands (cause : BreakCause) (h : s.stands b l) : (breakCopy cause s).stands b l := by
  unfold breakCopy
  split
  · exact noteResult_stands (evaluateAll_stands (announce_stands _ (logMark_stands _ _ (raise_stands _ h))))
  · exact h

theorem handOn_stands (h : s.stands b l) : (handOn s).stands b l := by
  unfold handOn
  dsimp only
  split
  · exact breakCopy_stands _ (noteResult_stands h)
  · exact noteResult_stands h

theorem windowChanged_stands (h : s.stands b l) : (windowChanged s).stands b l := by
  unfold windowChanged
  split
  · exact handOn_stands (evaluateAll_stands h)
  · exact h

theorem lowWater_stands (h : s.stands b l) : (lowWater s).stands b l := by
  unfold lowWater
  split
  · exact raise_stands _ h
  · exact h

theorem consumeHead_stands (h : s.stands b l) : (consumeHead s).stands b l := by
  unfold consumeHead
  split
  · exact h
  · exact lowWater_stands h

theorem discardHead_stands (h : s.stands b l) : (discardHead s).stands b l := by
  unfold discardHead
  split
  · exact h
  · exact lowWater_stands h

theorem formHead_stands (h : s.stands b l) : (formHead s).stands b l := by
  unfold formHead
  split
  · split
    · exact consumeHead_stands h
    · exact h
    · exact h
  · exact h

theorem queueCompletes_stands (h : s.stands b l) : (queueCompletes s).1.stands b l := by
  unfold queueCompletes
  split
  · exact h
  · split
    · dsimp only
      split
      · exact h
      · exact formHead_stands (discardHead_stands h)
    · exact formHead_stands (consumeHead_stands h)

theorem queueLeavesRun_stands (h : s.stands b l) : (queueLeavesRun s).stands b l := by
  have hdiscard : (discardAll s).stands b l := lowWater_stands h
  unfold queueLeavesRun
  dsimp only
  split
  · exact windowChanged_stands hdiscard
  · exact hdiscard

theorem changeMode_stands (m : Mode) (h : s.stands b l) : (changeMode m s).stands b l := by
  have hraise : (raise (.modeChanged s.sp.mode m) { s with sp := { s.sp with mode := m } }).stands b l :=
    raise_stands _ h
  have hdrive := driveLines_stands (ite_stands (p := s.sp.mode = .offline) (callUrgent_stands hraise) hraise)
  exact ite_stands (announce_stands _ (ite_stands (queueLeavesRun_stands hdrive) hdrive)) hdrive

theorem endStop_stands (h : s.stands b l) : (endStop s).stands b l := by
  unfold endStop
  split
  · exact changeMode_stands _ h
  · exact h

theorem enterFaulted_stands (f : ReleaseFault) (a : Bool) (h : s.stands b l) : (enterFaulted f a s).stands b l :=
  endStop_stands (windowChanged_stands (announce_stands _ (raise_stands _ h)))

theorem startCopy_stands (c : Copy) (again : Bool) (g : Option Legend) (h : s.stands b l) :
    (startCopy c again g s).stands b l := by
  exact windowChanged_stands (announce_stands _ (ite_stands (raise_stands _ (raise_stands _ h)) (raise_stands _ h)))

theorem afterCompletion_stands (o : Option (Seq × Nat)) (a : Bool) (h : s.stands b l) :
    (afterCompletion o a s).stands b l := by
  unfold afterCompletion
  split
  · exact enterFaulted_stands _ _ h
  · exact endStop_stands (windowChanged_stands (announce_stands _ h))

theorem stockEffect_stands (c : SegContent) (h : s.stands b l) : (stockEffect c s).stands b l := by
  have hretire : (retireBed s).stands b l := by
    unfold retireBed
    split
    · exact raise_stands _ h
    · exact h
  cases c with
  | nestEnd => exact hretire
  | remnant serial len wid notch => exact stands_of_eq h (by simp [stockEffect]) (by simp [stockEffect])
  | _ => exact h

theorem releaseNest_stands (c : Copy) (h : s.stands b l) : (releaseNest c s).stands b l :=
  afterCompletion_stands _ _ (queueCompletes_stands (stockEffect_stands _ (raise_stands _ h)))

theorem judgeOnce_stands (h : s.stands b l) : (judgeOnce s).1.stands b l := by
  unfold judgeOnce
  split
  · split
    · split
      · split
        · exact enterFaulted_stands _ _ h
        · split
          · exact releaseNest_stands _ h
          · exact startCopy_stands _ _ _ h
      · exact h
    · split
      · exact startCopy_stands _ _ _ h
      · exact h
    · exact h
  · exact h

theorem settleFor_stands (n : Nat) (h : s.stands b l) : (settleFor n s).stands b l := by
  induction n generalizing s with
  | zero => exact h
  | succ n ih =>
    have hj := judgeOnce_stands h
    unfold settleFor
    split
    · exact ih (by simpa [*] using hj)
    · simpa [*] using hj

theorem settle_stands (h : s.stands b l) : (settle s).stands b l := settleFor_stands _ h

/-- What the envelope unit makes of a peer entry's change keeps the table but for the results, and the notices. -/
theorem envPeer_stands (n : Nat) (roles : List Role) (h : s.stands b l) : (envPeer n roles s).stands b l := by
  unfold envPeer
  split
  · split
    · exact settle_stands (handOn_stands (evaluateOne_stands n h))
    · exact h
  · split
    · exact craneEvaluates_stands h
    · exact h
  · exact h

/-- So does an evaluation of every entry. -/
theorem envStep_stands (h : s.stands b l) : (envStep s).stands b l := by
  unfold envStep
  split
  · exact settle_stands (windowChanged_stands h)
  · exact craneEvaluates_stands h
  · exact h

end

/-! ### A result handed on (R83, R89, R90) -/

/-- Nothing is judged while no copy waits to go (R83): in IDLE and IN_FLIGHT, and in BROKEN before the controller has
halted. -/
theorem judgeOnce_noWait {s : State} (h : s.rc.release = .idle ∨ s.rc.release = .inFlight
    ∨ (s.rc.release = .broken ∧ ∃ c, s.rc.current = some c ∧ c.halted = false)) : judgeOnce s = (s, false) := by
  unfold judgeOnce
  split
  · rcases h with h | h | ⟨h, c, hc, hh⟩ <;> simp [*]
  · rfl

theorem settle_noWait {s : State} (h : s.rc.release = .idle ∨ s.rc.release = .inFlight
    ∨ (s.rc.release = .broken ∧ ∃ c, s.rc.current = some c ∧ c.halted = false)) : settle s = s := by
  simp only [settle, settleFor, judgeOnce_noWait h]

/-- A result that breaks the arc copy in flight is the break cause (R89). -/
theorem resultBreaks_eq_some {v : State} {c : Current} (hrel : v.rc.release = .inFlight)
    (hcur : v.rc.current = some c) (harc : c.copy.content.isArc = true) (cause : BreakCause) :
    v.resultBreaks = some cause ↔ v.breaks c cause := by
  unfold State.resultBreaks State.breaks
  simp only [hrel, hcur, harc, if_true]
  cases v.env.station with
  | clear => simp
  | hold =>
    by_cases hb : v.cfg.params.breakMode = .breakFirst ∧ c.copy.content.kind = .cut ∧ ¬ c.brokenBefore
    · simpa [hb] using eq_comm
    · simp only [if_neg hb]
      simp_all
  | cutoff => simpa using eq_comm

/-- A CLEAR result breaks no copy (R89). -/
theorem handOn_clear {s : State} (h : s.env.station = .clear) : handOn s = s := by
  have hnote : noteResult s = s := by simp [noteResult, h]
  have hbreaks : s.resultBreaks = none := by
    unfold State.resultBreaks
    split
    · simp [h]
    · rfl
  simp only [handOn, hnote, hbreaks]

/-- A result is noted once in a millisecond: noting it again changes nothing (R83). -/
theorem noteResult_again {s : State} (hlast : s.rc.lastNonclear = some s.time)
    (htimer : s.rc.resumeTimer = s.timer s.cfg.params.resumeDelay) : noteResult s = s := by
  rcases noteResult_cases s with ⟨-, h⟩ | ⟨-, h⟩
  · exact h
  · rw [h, ← hlast, ← htimer]

/-- A break writes the mark log alone: only a DONE entry marks its remnant (R112, R113). -/
theorem logMark_broken (c : Current) (s : State) :
    logMark c .broken s = { s with lc := s.lc.entered c .broken } := by
  rcases c with ⟨⟨seq, content, k, copies, window⟩, cause, before, halted, flushed, legend⟩
  cases content with
  | mark tool w budget template target part =>
    cases legend with
    | none => rfl
    | some g => cases tool <;> rfl
  | _ => rfl

/-- A change of the arc state calls for an urgent beacon, and the live window is formed again (R52, R100). -/
theorem announce_true (s : State) : announce true s = { s with
    flc := (callUrgent s).flc
    rc := { s.rc with live := s.formLive } } := by
  have hflc : (callUrgent { s with rc := { s.rc with live := s.formLive } }).flc = (callUrgent s).flc :=
    callUrgent_congr rfl rfl rfl rfl
  simp only [announce, true_or, if_true]
  rw [callUrgent_eq, hflc]

theorem raise_eq (d : NoticeData) (s : State) : raise d s = { s with sp := (raise d s).sp } := by
  unfold raise
  split <;> rfl

/-- What a notice changes at the port is read off the port and the time. -/
theorem raise_sp_congr {s t : State} (d : NoticeData) (hsp : t.sp = s.sp) (htime : t.time = s.time) :
    (raise d t).sp = (raise d s).sp := by
  simp only [raise, hsp, htime]
  split <;> rfl

/-- What RC keeps of a copy that it breaks (R90). -/
def Current.broken (c : Current) (cause : BreakCause) : Current :=
  { c with cause := some cause, brokenBefore := true, halted := false }

/-- What a break writes in the release controller, in the mark log, at the port and on the line, before the floor link
and the envelope unit act (R90). -/
def State.brokenBy (v : State) (c : Current) (cause : BreakCause) : State :=
  { v with
    rc := { v.rc with
      release := .broken
      current := some (c.broken cause)
      flightTimer := none
      haltTimer := some ⟨v.time, 2000⟩ }
    lc := v.lc.entered c .broken
    sp := (raise (.segmentBreak c.copy.seq c.copy.k cause) v).sp
    lu := { v.lu with arcPermit := false } }

theorem brokenBy_callUrgent (v : State) (c : Current) (cause : BreakCause) :
    (callUrgent (v.brokenBy c cause)).flc = (callUrgent v).flc :=
  callUrgent_congr rfl rfl rfl (by simp [State.brokenBy])

/-- Breaking the current copy (R90): what the break writes, an urgent beacon with the live window formed again, and an
evaluation that is noted. -/
theorem breakCopy_eq {v : State} {c : Current} (hcur : v.rc.current = some c) (cause : BreakCause) :
    breakCopy cause v = noteResult (evaluateAll (announce true (v.brokenBy c cause))) := by
  let stopped : State := { v with
    lu := { v.lu with arcPermit := false }
    rc := { v.rc with
      release := .broken
      current := some (c.broken cause)
      flightTimer := none
      haltTimer := v.timer 2000 } }
  have hraise : raise (.segmentBreak c.copy.seq c.copy.k cause) stopped
      = { stopped with sp := (raise (.segmentBreak c.copy.seq c.copy.k cause) v).sp } := by
    rw [raise_eq, raise_sp_congr (s := v) (t := stopped) _ rfl rfl]
  have hmark : logMark (c.broken cause) .broken (raise (.segmentBreak c.copy.seq c.copy.k cause) stopped)
      = v.brokenBy c cause := by
    rw [hraise, logMark_broken]
    rfl
  rw [← hmark]
  simp only [breakCopy, hcur]
  rfl

/-- A result of HOLD or CUTOFF noted in the release controller (R83). -/
def State.noted (v : State) : State :=
  { v with rc := { v.rc with lastNonclear := some v.time, resumeTimer := some ⟨v.time, v.cfg.params.resumeDelay⟩ } }

theorem noteResult_nonclear {v : State} (h : v.env.station ≠ .clear) : noteResult v = v.noted := by
  rcases noteResult_cases v with ⟨hc, -⟩ | ⟨-, he⟩
  · exact absurd hc h
  · exact he

/-- What a station result does to the arc copy in flight once it is handed on and judged (R83, R89, R90). -/
theorem handOn_meets {v : State} {c : Current} (hrole : v.role = .cutter) (hrel : v.rc.release = .inFlight)
    (hcur : v.rc.current = some c) (harc : c.copy.content.isArc = true) : v.meets c (.next (settle (handOn v))) := by
  have hiff := resultBreaks_eq_some (v := v.noted) hrel hcur harc
  refine ⟨fun hclear => ?_, fun hne hnone => ?_, fun cause hcause => ?_⟩
  · rw [handOn_clear hclear, settle_noWait (.inr (.inl hrel))]
  · have hbreaks : v.noted.resultBreaks = none :=
      Option.eq_none_iff_forall_ne_some.2 fun cause h => hnone cause ((hiff cause).1 h)
    simp only [handOn, noteResult_nonclear hne, hbreaks]
    rw [settle_noWait (s := v.noted) (.inr (.inl hrel))]
    rfl
  · have hne : v.env.station ≠ .clear := by rcases hcause with ⟨h, -⟩ | ⟨h, -⟩ <;> simp [h]
    have hsp := raise_sp_congr (s := v) (t := v.noted) (.segmentBreak c.copy.seq c.copy.k cause) rfl rfl
    have hflc : (callUrgent (v.noted.brokenBy c cause)).flc = (callUrgent v).flc :=
      (brokenBy_callUrgent ..).trans (callUrgent_congr rfl rfl rfl rfl)
    have hdone : settle (handOn v) = evaluateAll (announce true (v.noted.brokenBy c cause)) := by
      simp only [handOn, noteResult_nonclear hne, (hiff cause).2 hcause]
      rw [breakCopy_eq (v := v.noted) hcur, noteResult_again, settle_noWait]
      · exact .inr (.inr ⟨by simp [announce_rc, State.brokenBy], c.broken cause,
          by simp [announce_rc, State.brokenBy], rfl⟩)
      · simp [announce_rc, State.brokenBy, State.noted]
      · simp [announce_rc, State.brokenBy, State.noted, State.timer]
    rw [hdone, announce_true, hflc]
    refine ⟨_, rfl, evaluateAll_told _, ?_, ?_⟩
    · rw [evaluateAll_cutter (by exact hrole)]
      rfl
    · rw [evaluateAll_cutter (by exact hrole), ← hsp]
      rfl

end Sys2Proof.Machine
end

section
/-! PROOF. Beacons and the peer table (chapter 2). -/

namespace Sys2Proof.Machine

/-! ### What the envelope unit makes of a peer entry's change (R14, R20, R35) -/

theorem modifyAt_eq_self {α : Type} {l : List (Option α)} {n : Nat} {f : α → α}
    (h : ∀ e, entryAt l n = some e → f e = e) : modifyAt l n f = l := by
  apply List.ext_getElem?
  intro m
  simp only [modifyAt, List.getElem?_modify]
  split
  · rename_i hm
    subst hm
    rcases hl : l[n]? with _ | _ | e
    · rfl
    · rfl
    · simp [h e (entryAt_eq_some.2 hl)]
  · simp

/-- An entry that stands in a position just written is the one written. -/
theorem eq_of_entryAt_set {α : Type} {l : List (Option α)} {n : Nat} {o : Option α} {e : α}
    (h : entryAt (l.set n o) n = some e) : o = some e := by
  rw [entryAt_eq_some, List.getElem?_set_self'] at h
  obtain ⟨x, -, hx⟩ := Option.map_eq_some_iff.1 h
  exact hx

section
variable {s : State} {n : Nat} {roles : List Role}

/-- A crane reads cutter entries alone, a cutter crane entries, and a rack none (R14, R20). -/
theorem envPeer_unread (h : s.role = .rack ∨ (s.role = .crane ∧ .cutter ∉ roles)
    ∨ (s.role = .cutter ∧ .crane ∉ roles)) : envPeer n roles s = s := by
  rcases h with h | ⟨h, hr⟩ | ⟨h, hr⟩ <;> simp [envPeer, *]

theorem envPeer_crane (h : s.role = .crane) (hr : .cutter ∈ roles) : envPeer n roles s = craneEvaluates s := by
  simp [envPeer, h, hr]

theorem envPeer_cutter (h : s.role = .cutter) (hr : .crane ∈ roles) :
    envPeer n roles s = settle (handOn (evaluateOne n s)) := by
  simp [envPeer, h, hr]

/-- Without a copy a cutter drops the entry's result, and its station result is CLEAR (R12). -/
theorem envPeer_idle (h : s.role = .cutter) (hidle : s.rc.release = .idle) (hr : .crane ∈ roles) :
    envPeer n roles s = { s with
      pt := { s.pt with entries := modifyAt s.pt.entries n PeerEntry.told }
      env := { s.env with station := .clear } } := by
  have hw : s.windowUnderTest = none := windowUnderTest_none (.inl hidle)
  have htold : s.evaluateEntry = PeerEntry.told := funext fun e => evaluateEntry_none e hw
  have hone : evaluateOne n s = { s with
      pt := { s.pt with entries := modifyAt s.pt.entries n PeerEntry.told }
      env := { s.env with station := .clear } } := by
    simp only [evaluateOne, h, if_true, htold, formStation]
    rw [if_neg]
    exact fun hsome => Option.isSome_iff_ne_none.1 hsome hw
  rw [envPeer_cutter h hr, hone, handOn_clear rfl, settle_noWait (by exact .inl hidle)]

/-- What the envelope unit makes of a state `u` in which a peer entry that has, or had, one of `roles` has changed: it
evaluates what it reads (R12, R14, R20). -/
def State.sees (u : State) (roles : List Role) (t : State) : Prop :=
  (u.role = .rack ∨ (u.role = .crane ∧ .cutter ∉ roles) ∨ (u.role = .cutter ∧ .crane ∉ roles) → t = u)
    ∧ (u.role = .crane → .cutter ∈ roles → t = craneEvaluates u)
    ∧ (u.role = .cutter → .crane ∈ roles → u.rc.release = .idle →
        t = { u with env := { u.env with station := .clear } })

/-- The envelope unit takes a position whose entry holds no result yet. -/
theorem envPeer_sees (h : ∀ e, entryAt s.pt.entries n = some e → e.result = none) :
    s.sees roles (envPeer n roles s) := by
  refine ⟨envPeer_unread, envPeer_crane, fun hrole hr hidle => ?_⟩
  have hsame : modifyAt s.pt.entries n PeerEntry.told = s.pt.entries :=
    modifyAt_eq_self fun e he => by rw [PeerEntry.told, ← h e he]
  rw [envPeer_idle hrole hidle hr, hsame]

/-- The crane's evaluation neither reads nor changes the notices. -/
theorem raise_craneEvaluates (d : NoticeData) (h : s.role = .crane) :
    raise d (craneEvaluates s) = craneEvaluates (raise d s) := by
  rw [craneEvaluates_crane h, craneEvaluates_crane (s := raise d s) (by simpa [State.role] using h)]
  unfold raise
  dsimp only
  split <;> rfl

/-- A notice may come before or after what the envelope unit does (R35, log 12). -/
theorem raise_sees {t : State} (d : NoticeData) (h : s.sees roles t) : (raise d s).sees roles (raise d t) := by
  obtain ⟨hunread, hcrane, hidle⟩ := h
  have hrole : (raise d s).role = s.role := by simp [State.role]
  have hrel : (raise d s).rc.release = s.rc.release := by simp
  unfold State.sees
  rw [hrole, hrel]
  refine ⟨fun h => by rw [hunread h], fun h hr => ?_, fun h hr hi => ?_⟩
  · rw [hcrane h hr, raise_craneEvaluates d h]
  · rw [hidle h hr hi]
    unfold raise
    dsimp only
    split <;> rfl

end

/-! ### The entry of a beacon (R27, R29) -/

@[simp] theorem readBeacon_role (p : Params) (role : Role) (station : Nat) (bs : List Byte) :
    (readBeacon p role station bs).role = role := by
  cases role <;> rfl

@[simp] theorem freshEntry_role (p : Params) (now : Count) (role : Role) (station : Nat) (seq : Byte) (bs : List Byte)
    (pinned : Bool) : (freshEntry p now role station seq bs pinned).data.role = role := readBeacon_role ..

/-- The peer table once an entry is stored (R27): the entry in its position, the stored count, and the evictions. -/
def State.storing (s : State) (k : Nat) (e : PeerEntry) (evictions : Nat) : State :=
  { s with pt := { s.pt with
    entries := s.pt.entries.set k (some e)
    stored := bump s.pt.stored
    evictions := evictions } }

theorem storing_result {s : State} {k : Nat} {e : PeerEntry} {evictions : Nat} (h : e.result = none) :
    ∀ x, entryAt (s.storing k e evictions).pt.entries k = some x → x.result = none := by
  intro x hx
  rw [← Option.some.inj (eq_of_entryAt_set hx), h]

theorem storing_bare (s : State) (k : Nat) (e : PeerEntry) (evictions : Nat) :
    (s.storing k e evictions).pt.bare = { s.pt.bare with
      entries := s.pt.bare.entries.set k (some e.told)
      stored := bump s.pt.bare.stored
      evictions := evictions } := by
  simp [State.storing, PeerTable.bare, PeerTable.told, List.map_set]

theorem putPeer_bare (n : Nat) (o : Option PeerEntry) (s : State) :
    (putPeer n o s).pt.bare = { s.pt.bare with entries := s.pt.bare.entries.set n (o.map PeerEntry.told) } := by
  simp [putPeer, PeerTable.bare, PeerTable.told, List.map_set]

/-- The table a stored entry leaves depends on the table before it alone, apart from the results. -/
theorem storing_congr {s t : State} (h : t.pt.bare = s.pt.bare) (k : Nat) (e : PeerEntry) (evictions : Nat) :
    (t.storing k e evictions).pt.bare = (s.storing k e evictions).pt.bare := by
  rw [storing_bare, storing_bare, h]

theorem envPeer_bare (n : Nat) (roles : List Role) (s : State) : (envPeer n roles s).pt.bare = s.pt.bare :=
  (envPeer_stands n roles (stands_refl s)).1

/-- A stored beacon is handed on from the table that holds it (R27, R35). -/
theorem storeBeacon_eq (k : Nat) (e : PeerEntry) (s : State) :
    storeBeacon k e s = envPeer k [e.data.role] (s.storing k e s.pt.evictions) := rfl

/-- A beacon stored after an eviction is counted with it (R28). -/
theorem storeBeacon_evicted (k : Nat) (e : PeerEntry) (s : State) :
    storeBeacon k e (countPeer (fun t => { t with evictions := bump t.evictions }) s)
      = envPeer k [e.data.role] (s.storing k e (bump s.pt.evictions)) := rfl

/-! ### A beacon of another role (R30) -/

/-- The notice and the envelope unit's part of a change of role come in either order (R30, R35; log 12). -/
theorem changeRole_eq (n : Nat) (old e : PeerEntry) (s : State) :
    changeRole n old e s
      = if Config.firstHandOn s.freeCount then
          raise (.peerRoleChanged e.station old.data.role e.data.role)
            (envPeer n [old.data.role, e.data.role]
              { s.storing n e s.pt.evictions with freeCount := s.freeCount + 1 })
        else
          envPeer n [old.data.role, e.data.role]
            (raise (.peerRoleChanged e.station old.data.role e.data.role)
              { s.storing n e s.pt.evictions with freeCount := s.freeCount + 1 }) := rfl

theorem changeRole_sees {n : Nat} {old e : PeerEntry} {s : State} (h : e.result = none) :
    (raise (.peerRoleChanged e.station old.data.role e.data.role)
      { s.storing n e s.pt.evictions with freeCount := s.freeCount + 1 }).sees
        [old.data.role, e.data.role] (changeRole n old e s) := by
  rw [changeRole_eq]
  split
  · exact raise_sees _ (envPeer_sees (storing_result h))
  · exact envPeer_sees (by simpa using storing_result h)

theorem raise_pt (d : NoticeData) (s : State) : (raise d s).pt = s.pt := by simp

theorem changeRole_bare (n : Nat) (old e : PeerEntry) (s : State) :
    (changeRole n old e s).pt.bare = (s.storing n e s.pt.evictions).pt.bare := by
  rw [changeRole_eq]
  split
  · rw [raise_pt, envPeer_bare]
  · rw [envPeer_bare, raise_pt]

/-- A notice raised is held, or the queue of 32 is full (R170). -/
theorem raise_held (d : NoticeData) (s : State) :
    32 ≤ (raise d s).sp.notices.length ∨ (⟨s.time, d⟩ : Notice) ∈ (raise d s).sp.notices := by
  rcases raise_cases d s with ⟨-, h⟩ | ⟨hfull, h⟩ <;> rw [h]
  · exact .inr (List.mem_append_right _ (List.mem_singleton.2 rfl))
  · exact .inl hfull

theorem changeRole_notice (n : Nat) (old e : PeerEntry) (s : State) :
    32 ≤ (changeRole n old e s).sp.notices.length
      ∨ (⟨s.time, .peerRoleChanged e.station old.data.role e.data.role⟩ : Notice)
        ∈ (changeRole n old e s).sp.notices := by
  rw [changeRole_eq]
  split
  · have htime := (envPeer_frame n [old.data.role, e.data.role]
      { s.storing n e s.pt.evictions with freeCount := s.freeCount + 1 }).2.1
    have hheld := raise_held (.peerRoleChanged e.station old.data.role e.data.role)
      (envPeer n [old.data.role, e.data.role] { s.storing n e s.pt.evictions with freeCount := s.freeCount + 1 })
    rwa [htime] at hheld
  · have hheld := raise_held (.peerRoleChanged e.station old.data.role e.data.role)
      { s.storing n e s.pt.evictions with freeCount := s.freeCount + 1 }
    have hprefix := (envPeer_stands n [old.data.role, e.data.role] (stands_refl (raise
      (.peerRoleChanged e.station old.data.role e.data.role)
      { s.storing n e s.pt.evictions with freeCount := s.freeCount + 1 }))).2
    exact hheld.imp (fun h => h.trans hprefix.length_le) (fun h => hprefix.subset h)

/-! ### Eviction (R28) -/

/-- One entry goes before another when the table is full: the larger receipt age, then the lower station (R28). -/
def evictsBefore (now : Count) (a b : PeerEntry) : Prop :=
  b.receiptAge now < a.receiptAge now ∨ (b.receiptAge now = a.receiptAge now ∧ a.station < b.station)

theorem evictFirst_some (now : Count) (b c : Nat × PeerEntry) :
    (evictsBefore now c.2 b.2 ∧ evictFirst now (some b) c = some c)
      ∨ (¬ evictsBefore now c.2 b.2 ∧ evictFirst now (some b) c = some b) := by
  unfold evictsBefore
  simp only [evictFirst]
  split
  · exact .inl ⟨‹_›, rfl⟩
  · exact .inr ⟨‹_›, rfl⟩

theorem evictsBefore_asymm {now : Count} {a b : PeerEntry} (h : evictsBefore now a b) : ¬ evictsBefore now b a := by
  unfold evictsBefore at *
  omega

/-- The candidate that goes before every other one is chosen (R28). -/
theorem foldl_evictFirst {now : Count} {best : Nat × PeerEntry} (l : List (Nat × PeerEntry))
    (start : Option (Nat × PeerEntry)) (hmem : best ∈ l ∨ start = some best)
    (hlist : ∀ c ∈ l, c = best ∨ evictsBefore now best.2 c.2)
    (hstart : ∀ c, start = some c → c = best ∨ evictsBefore now best.2 c.2) :
    l.foldl (evictFirst now) start = some best := by
  induction l generalizing start with
  | nil => simpa using hmem
  | cons c l ih =>
    have hc := hlist c List.mem_cons_self
    have hrest := fun d hd => hlist d (List.mem_cons_of_mem c hd)
    cases start with
    | none =>
      refine ih (some c) ?_ hrest (fun d hd => Option.some.inj hd ▸ hc)
      exact (List.mem_cons.1 (hmem.resolve_right (by simp))).symm.imp_right fun h => congrArg some h.symm
    | some b =>
      have hb := hstart b rfl
      rcases evictFirst_some now b c with ⟨hbefore, he⟩ | ⟨hbefore, he⟩ <;> rw [List.foldl_cons, he]
      · refine ih (some c) ?_ hrest (fun d hd => Option.some.inj hd ▸ hc)
        rcases hmem with h | h
        · exact (List.mem_cons.1 h).symm.imp_right fun h => congrArg some h.symm
        · obtain rfl := Option.some.inj h
          exact .inr (congrArg some (hc.resolve_right fun h' => evictsBefore_asymm h' hbefore))
      · refine ih (some b) ?_ hrest (fun d hd => Option.some.inj hd ▸ hb)
        rcases hmem with h | h
        · rcases List.mem_cons.1 h with rfl | h
          · exact .inr (congrArg some (hb.resolve_right hbefore))
          · exact .inl h
        · exact .inr h

/-- The unpinned entries of a table, by position. -/
theorem mem_unpinned {t : PeerTable} (h : t.entries.length = 48) {n : Nat} {e : PeerEntry} :
    (n, e) ∈ t.unpinned ↔ entryAt t.entries n = some e ∧ e.pinned = false := by
  simp only [PeerTable.unpinned, List.mem_filterMap, List.mem_range, Option.bind_eq_some_iff]
  constructor
  · rintro ⟨m, -, x, hx, hp⟩
    split at hp
    · exact absurd hp (by simp)
    · simp_all
  · rintro ⟨hx, hp⟩
    exact ⟨n, h ▸ lt_length_of_entryAt hx, e, hx, by simp [hp]⟩

/-- The entry R28 evicts is the unpinned one that goes before every other unpinned one. -/
theorem evictee_eq {t : PeerTable} {now : Count} {k : Nat} {old : PeerEntry} (hlen : t.entries.length = 48)
    (hk : entryAt t.entries k = some old) (hpin : old.pinned = false)
    (hbest : ∀ m e, entryAt t.entries m = some e → e.pinned = false → m ≠ k → evictsBefore now old e) :
    t.evictee now = some (k, old) := by
  refine foldl_evictFirst _ none (.inl ((mem_unpinned hlen).2 ⟨hk, hpin⟩)) (fun c hc => ?_) (by simp)
  obtain ⟨m, e⟩ := c
  obtain ⟨he, hp⟩ := (mem_unpinned hlen).1 hc
  by_cases hm : m = k
  · subst hm
    rw [Option.some.inj (he.symm.trans hk)]
    exact .inl rfl
  · exact .inr (hbest m e he hp hm)

/-- A table of pinned entries has none to evict (R28). -/
theorem evictee_none {t : PeerTable} (h : ∀ k e, entryAt t.entries k = some e → e.pinned = true) (now : Count) :
    t.evictee now = none := by
  have hnone : t.unpinned = [] := by
    simp only [PeerTable.unpinned, List.filterMap_eq_nil_iff, Option.bind_eq_none_iff]
    intro n _ e he
    simp [h n e he]
  simp [PeerTable.evictee, hnone]

/-! ### The entry an evicted one makes room for -/

theorem filterMap_set_congr {α β : Type} (f : α → Option β) (l : List α) (k : Nat) {a b : α} (h : f a = f b) :
    (l.set k a).filterMap f = (l.set k b).filterMap f := by
  induction l generalizing k with
  | nil => rfl
  | cons x l ih => cases k <;> simp [List.filterMap_cons, h, ih]

/-- An entry that supplies no window is to the crane as an empty position (R16). -/
theorem cutterWindows_storing (s : State) (k : Nat) {e : PeerEntry} (h : e.craneWindow = none) (evictions : Nat) :
    (s.storing k e evictions).cutterWindows = (putPeer k none s).cutterWindows := by
  simp only [State.cutterWindows, State.storing, putPeer, entriesOf, List.filterMap_filterMap]
  exact filterMap_set_congr _ _ _ h

theorem craneWindow_none {e : PeerEntry} (h : e.data.role ≠ .cutter) : e.craneWindow = none := by
  unfold PeerEntry.craneWindow
  cases hd : e.data with
  | cutter d => simp [hd, PeerData.role] at h
  | crane d => rfl
  | rack n => rfl

/-- The crane's last evaluation decides (R20). -/
theorem craneEvaluates_again {u : State} (h : u.role = .crane) (p : PeerTable) :
    craneEvaluates { craneEvaluates u with pt := p } = craneEvaluates { u with pt := p } := by
  rw [craneEvaluates_crane h, craneEvaluates_crane (by exact h), craneEvaluates_crane (by exact h)]
  rfl

/-- A change of the table that supplies the same windows leaves the crane's evaluation as it was. -/
theorem craneEvaluates_pt {u : State} (h : u.role = .crane) {p : PeerTable}
    (hw : { u with pt := p }.cutterWindows = u.cutterWindows) :
    { craneEvaluates u with pt := p } = craneEvaluates { u with pt := p } := by
  rw [craneEvaluates_crane h, craneEvaluates_crane (by exact h), hw]
  rfl

/-- A position is emptied by an eviction whose station no other block acts on (R28, R33). -/
theorem removePeer_eq {s : State} {k : Nat} {old : PeerEntry} (h : ∀ u : State, u.role = s.role → u.mu = s.mu →
    stationLost old.station u = u) : removePeer k old s = envPeer k [old.data.role] (putPeer k none s) := by
  have hput : putPeer k none (putPeer k (some { old with state := .lost }) s) = putPeer k none s := by simp [putPeer]
  rw [removePeer, h _ (by exact rfl) (by exact rfl), hput]

/-- Storing an entry after the crane's evaluation changes the table alone. -/
theorem storing_craneEvaluates (s : State) (k : Nat) (e : PeerEntry) (evictions : Nat) :
    (craneEvaluates s).storing k e evictions = { craneEvaluates s with pt := (s.storing k e evictions).pt } := by
  simp [State.storing]

/-- The emptied position of an evicted entry takes the new one (R28). -/
theorem storing_putPeer (s : State) (k : Nat) (e : PeerEntry) (evictions : Nat) :
    (putPeer k none s).storing k e evictions = s.storing k e evictions := by
  simp [State.storing, putPeer]

/-- A crane that has read the evicted entry and then reads, or cannot read, the new one ends as if it had evaluated
once, from the table with the new entry (R16, R20). -/
theorem craneEvaluates_evicted {s : State} (hrole : s.role = .crane) (k : Nat) (e : PeerEntry) (evictions : Nat) :
    (e.data.role ≠ .cutter → (craneEvaluates (putPeer k none s)).storing k e evictions
        = craneEvaluates (s.storing k e evictions))
      ∧ craneEvaluates ((craneEvaluates (putPeer k none s)).storing k e evictions)
        = craneEvaluates (s.storing k e evictions) := by
  have hbase : (putPeer k none s).role = .crane := hrole
  rw [storing_craneEvaluates, storing_putPeer]
  refine ⟨fun h => craneEvaluates_pt hbase ?_, craneEvaluates_again hbase _⟩
  exact cutterWindows_storing s k (craneWindow_none h) evictions

/-- The entry stored in an evicted one's position, whose station no other block acts on (R28, R35): the envelope unit
takes the evicted entry and then the new one. -/
theorem evict_sees {s : State} {k : Nat} {old e : PeerEntry} (he : e.result = none)
    (h : ∀ u : State, u.role = s.role → u.mu = s.mu → stationLost old.station u = u) :
    (s.storing k e (bump s.pt.evictions)).sees [old.data.role, e.data.role]
      (storeBeacon k e (countPeer (fun t => { t with evictions := bump t.evictions }) (removePeer k old s))) := by
  have hev : (envPeer k [old.data.role] (putPeer k none s)).pt.evictions = s.pt.evictions :=
    (congrArg PeerTable.evictions (envPeer_bare k [old.data.role] (putPeer k none s)) :)
  have hfirst : (putPeer k none s).sees [old.data.role] (envPeer k [old.data.role] (putPeer k none s)) :=
    envPeer_sees fun x hx => absurd (eq_of_entryAt_set hx) (by simp)
  rw [removePeer_eq h, storeBeacon_evicted, hev]
  generalize envPeer k [old.data.role] (putPeer k none s) = first at hfirst
  have hsecond : (first.storing k e (bump s.pt.evictions)).sees [e.data.role]
      (envPeer k [e.data.role] (first.storing k e (bump s.pt.evictions))) := envPeer_sees (storing_result he)
  generalize envPeer k [e.data.role] (first.storing k e (bump s.pt.evictions)) = second at hsecond
  obtain ⟨hunread₁, hcrane₁, hidle₁⟩ := hfirst
  obtain ⟨hunread₂, hcrane₂, hidle₂⟩ := hsecond
  have hmem : ∀ r, r ∈ [old.data.role, e.data.role] ↔ r ∈ [old.data.role] ∨ r ∈ [e.data.role] := by simp
  refine ⟨fun hun => ?_, fun hrole hr => ?_, fun hrole hr hidle => ?_⟩
  · simp only [hmem, not_or] at hun
    obtain rfl := hunread₁ (hun.imp_right (Or.imp (And.imp_right And.left) (And.imp_right And.left)))
    rw [hunread₂ (hun.imp_right (Or.imp (And.imp_right And.right) (And.imp_right And.right))), storing_putPeer]
  · have hrole : s.role = .crane := hrole
    obtain ⟨hother, hagain⟩ := craneEvaluates_evicted (s := s) hrole k e (bump s.pt.evictions)
    by_cases hold : .cutter ∈ [old.data.role]
    · obtain rfl := hcrane₁ hrole hold
      have hrole' : (craneEvaluates (putPeer k none s)).role = .crane := by simpa [State.role] using hrole
      by_cases hnew : .cutter ∈ [e.data.role]
      · rw [hcrane₂ hrole' hnew, hagain]
      · rw [hunread₂ (.inr (.inl ⟨hrole', hnew⟩)), hother fun h => hnew (by simp [h])]
    · obtain rfl := hunread₁ (.inr (.inl ⟨hrole, hold⟩))
      rw [hcrane₂ hrole (((hmem _).1 hr).resolve_left hold), storing_putPeer]
  · by_cases hold : .crane ∈ [old.data.role]
    · obtain rfl := hidle₁ hrole hold hidle
      by_cases hnew : .crane ∈ [e.data.role]
      · rw [hidle₂ hrole hnew hidle, ← storing_putPeer s]
        rfl
      · rw [hunread₂ (.inr (.inr ⟨hrole, hnew⟩)), ← storing_putPeer s]
        rfl
    · obtain rfl := hunread₁ (.inr (.inr ⟨hrole, hold⟩))
      rw [hidle₂ hrole (((hmem _).1 hr).resolve_left hold) hidle, storing_putPeer]

theorem stationLost_pt (station : Nat) (s : State) : (stationLost station s).pt = s.pt := by simp

/-- A removed entry leaves its position empty, and nothing else of the table changed but results (R33). -/
theorem removePeer_bare (k : Nat) (old : PeerEntry) (s : State) :
    (removePeer k old s).pt.bare = (putPeer k none s).pt.bare := by
  rw [removePeer, envPeer_bare, putPeer_bare, stationLost_pt, putPeer_bare, putPeer_bare]
  simp

/-- The table an eviction and the storing leave, apart from the results (R28). -/
theorem evict_bare (k : Nat) (old e : PeerEntry) (s : State) :
    (storeBeacon k e (countPeer (fun t => { t with evictions := bump t.evictions }) (removePeer k old s))).pt.bare
      = (s.storing k e (bump s.pt.evictions)).pt.bare := by
  have hremove := removePeer_bare k old s
  have hev : (removePeer k old s).pt.evictions = s.pt.evictions := (congrArg PeerTable.evictions hremove :)
  rw [storeBeacon_evicted, envPeer_bare, hev, storing_congr hremove, storing_putPeer]

/-! ### The beacon taken (R26 to R30) -/

/-- No block acts on a lost station in the CRANE role, nor in the CUTTER role without a move (R35, R159). -/
theorem stationLost_unheeded {s : State} (station : Nat)
    (h : s.role = .crane ∨ (s.role = .cutter ∧ ∀ n, entryAt s.mu.moves n = none)) :
    stationLost station s = s := by
  rcases h with h | ⟨h, hmoves⟩
  · simp [stationLost, h]
  · have hat : ∀ n, loseCraneAt station n s = s := fun n => by simp [loseCraneAt, hmoves n]
    simp only [stationLost, h, loseCrane, reduceCtorEq, if_false]
    exact List.foldl_fixed' hat _

section
variable {s : State} {role : Role} {source : Nat} {seq : Byte} {bs : List Byte}

theorem takeBeacon_source (h : inRange 1 62 source = false) : takeBeacon role source seq bs s
    = { s with pt := { s.pt with sourceDiscards := bump s.pt.sourceDiscards } } := by
  simp [takeBeacon, h, countPeer]

theorem takeBeacon_known {k : Nat} {old : PeerEntry} (h : inRange 1 62 source = true)
    (hown : source ≠ s.cfg.params.station) (hfind : s.pt.find source = some k)
    (hold : entryAt s.pt.entries k = some old) : takeBeacon role source seq bs s
      = if old.data.role ≠ role then
          changeRole k old (freshEntry s.cfg.params s.time role source seq bs old.pinned) s
        else if old.state = .fresh ∧ ¬ newerSequence old.sequence seq then
          countPeer (fun t => { t with seqDiscards := bump t.seqDiscards }) s
        else storeBeacon k (freshEntry s.cfg.params s.time role source seq bs old.pinned) s := by
  simp only [takeBeacon, h, hown, hfind, hold, not_true_eq_false, if_false]

theorem takeBeacon_new (h : inRange 1 62 source = true) (hown : source ≠ s.cfg.params.station)
    (hfind : s.pt.find source = none) : takeBeacon role source seq bs s
      = createPeer (freshEntry s.cfg.params s.time role source seq bs false) s := by
  simp only [takeBeacon, h, hown, hfind, not_true_eq_false, if_false]

end

theorem createPeer_free {s : State} {k : Nat} (h : lowestEmpty s.pt.entries = some k) (e : PeerEntry) :
    createPeer e s = storeBeacon k e s := by
  simp only [createPeer, h]

theorem createPeer_evicts {s : State} {k : Nat} {old : PeerEntry} (h : lowestEmpty s.pt.entries = none)
    (hold : s.pt.evictee s.time = some (k, old)) (e : PeerEntry) : createPeer e s
      = storeBeacon k e (countPeer (fun t => { t with evictions := bump t.evictions }) (removePeer k old s)) := by
  simp only [createPeer, h, hold]

theorem createPeer_full {s : State} (h : lowestEmpty s.pt.entries = none) (hold : s.pt.evictee s.time = none)
    (e : PeerEntry) : createPeer e s = { s with pt := { s.pt with tableFull := bump s.pt.tableFull } } := by
  simp only [createPeer, h, hold, countPeer]

/-- A beacon that is delivered goes to the peer table with its role (R26, R40). -/
theorem exec_beacon {s : State} {t : Telegram} {role : Role} {c : Instr}
    (hc : (c = .beaconCutter t ∧ role = .cutter) ∨ (c = .beaconCrane t ∧ role = .crane)
      ∨ (c = .beaconRack t ∧ role = .rack)) (h : s.delivers (beaconKind role) t) :
    exec c s = .next (takeBeacon role t.source.toNat t.seq t.payload s.heard) := by
  rcases hc with ⟨rfl, rfl⟩ | ⟨rfl, rfl⟩ | ⟨rfl, rfl⟩ <;>
    exact congrArg Host.Outcome.next (receiveKind_delivers h _)

/-- A state whose peer table alone differs from that of a cutter with an arc copy in flight: one entry is evaluated, and
the result is handed on and judged (R14, R89, R90). -/
theorem evaluateOne_meets {s u : State} {c : Current} (hu : u.role = s.role) (hrc : u.rc = s.rc) (k : Nat)
    (hrole : s.role = .cutter) (hrel : s.rc.release = .inFlight) (hcur : s.rc.current = some c)
    (harc : c.copy.content.isArc = true) :
    (evaluateOne k u).meets c (.next (settle (handOn (evaluateOne k u)))) :=
  handOn_meets (by simpa [State.role] using hu.trans hrole) (by simpa [hrc] using hrel) (by simpa [hrc] using hcur) harc

/-- Settles O23: a beacon is discarded, or stored in its own entry, in a free position or in an evicted one's, and the
envelope unit takes it from there. -/
theorem beaconsFillThePeerTable : Obligations.BeaconsFillThePeerTable := by
  unfold Obligations.BeaconsFillThePeerTable
  intro s t role c hc hdel station fresh filled stored seen
  have hexec := exec_beacon hc hdel
  obtain ⟨-, -, -, -, -, hown, -⟩ := hdel
  obtain ⟨-, htime, hcfg, -, -, hsu, -⟩ := takeBeacon_frame role station t.seq t.payload s.heard
  have hstored : ∀ k pinned evictions,
      (takeBeacon role station t.seq t.payload s.heard).pt.bare = (filled k pinned evictions).pt.bare →
      stored k pinned evictions := by
    intro k pinned evictions hbare
    obtain ⟨htold, hpt⟩ := PeerTable.bare_eq_iff.1 hbare
    exact ⟨_, hexec, htold, hpt, hcfg, hsu, htime⟩
  have hseen : ∀ roles (u : State), u.role = s.role → u.rc.release = s.rc.release →
      u.sees roles (takeBeacon role station t.seq t.payload s.heard) → seen roles u := by
    intro roles u hrole hrel hsees
    unfold State.sees at hsees
    rw [hrole, hrel] at hsees
    obtain ⟨hunread, hcrane, hidle⟩ := hsees
    exact ⟨fun h => by rw [hexec, hunread h], fun h hr => by rw [hexec, hcrane h hr],
      fun h hr hi => by rw [hexec, hidle h hr hi]⟩
  have hkept : ∀ k pinned,
      takeBeacon role station t.seq t.payload s.heard = storeBeacon k (fresh pinned) s.heard →
      stored k pinned s.pt.evictions ∧ seen [role] (filled k pinned s.pt.evictions) := by
    intro k pinned htake
    rw [storeBeacon_eq, freshEntry_role] at htake
    refine ⟨hstored _ _ _ ?_, hseen _ _ rfl rfl ?_⟩ <;> rw [htake]
    · exact envPeer_bare ..
    · exact envPeer_sees (storing_result rfl)
  refine ⟨fun hsrc => by rw [hexec, takeBeacon_source hsrc]; rfl,
    fun hsrc => ⟨fun k old hfind hold => ?_, fun hfind => ?_⟩⟩
  · have hknown := takeBeacon_known (role := role) (seq := t.seq) (bs := t.payload) (s := s.heard) hsrc hown hfind hold
    refine ⟨fun hrole hst hnew => ?_, fun hrole hnew => ?_, fun hrole => ?_⟩
    · rw [hexec, hknown, if_neg (not_not.2 hrole), if_pos ⟨hst, fun h => Bool.false_ne_true (hnew.symm.trans h)⟩]
      rfl
    · rw [if_neg (not_not.2 hrole), if_neg fun h => h.2 (hnew h.1)] at hknown
      obtain ⟨hs, hsees⟩ := hkept k old.pinned hknown
      refine ⟨hs, hsees, fun hcutter hcrane d hrel hcur harc => ?_⟩
      rw [hexec, hknown, storeBeacon_eq, freshEntry_role, envPeer_cutter (by exact hcutter) (by simp [hcrane])]
      exact evaluateOne_meets rfl rfl k hcutter hrel hcur harc
    · rw [if_pos hrole] at hknown
      have hsees := changeRole_sees (n := k) (old := old) (e := fresh old.pinned) (s := s.heard) rfl
      have hnotice := changeRole_notice k old (fresh old.pinned) s.heard
      rw [freshEntry_role] at hsees hnotice
      refine ⟨hstored _ _ _ (by rw [hknown]; exact changeRole_bare ..), hseen _ _ ?_ ?_ (by rw [hknown]; exact hsees),
        _, hexec, by rw [hknown]; exact hnotice⟩
      · simp [State.role, filled, State.heard]
      · simp [filled, State.heard]
  · have hnew := takeBeacon_new (role := role) (seq := t.seq) (bs := t.payload) (s := s.heard) hsrc hown hfind
    refine ⟨fun k hfree => hkept k false (hnew.trans (createPeer_free (s := s.heard) hfree _)),
      fun hfull hpinned => ?_,
      fun k old hfull hlen hold hpin hbest => ?_⟩
    · rw [hexec, hnew, createPeer_full (s := s.heard) hfull (evictee_none hpinned _)]
      rfl
    · have hevict := evictee_eq (t := s.pt) (now := s.time) hlen hold hpin fun m e he hp hm => hbest m e he hp hm
      rw [createPeer_evicts (s := s.heard) hfull hevict] at hnew
      refine ⟨hstored _ _ _ (by rw [hnew]; exact evict_bare ..), fun hcrane => hseen _ _ rfl rfl ?_⟩
      have hlost : ∀ u : State, u.role = s.role → u.mu = s.mu → stationLost old.station u = u := fun u hu hmu =>
        stationLost_unheeded _ (by rw [hu, hmu]; exact hcrane)
      have hsees := evict_sees (s := s.heard) (k := k) (old := old) (e := fresh false) rfl hlost
      rw [freshEntry_role] at hsees
      rw [hnew]
      exact hsees

end Sys2Proof.Machine
end

section
/-! PROOF. A lost crane's moves (R159). -/

namespace Sys2Proof.Machine

/-! ### Telegrams the link takes (R42, R154) -/

section
variable {s : State} {n : Nat} {e : MoveEntry}

theorem sendMove_taken {dest : Nat} {m : Message} (h : s.linkTakes dest m) :
    sendMove dest m s = ({ s with flc := s.flc.sending dest m }, false) := by
  simp [sendMove, offer_taken h]

/-- A revocation that the link takes is counted as sent (R156, R159). -/
theorem sendRevoke_taken {crane : Nat} {tag : Byte} (h : s.linkTakes crane (.moveRevoke tag)) :
    (sendRevoke crane tag s).1 = { s with
      flc := s.flc.sending crane (.moveRevoke tag)
      mu := { s.mu with counts := { s.mu.counts with revocationsSent := bump s.mu.counts.revocationsSent } } } := by
  simp [sendRevoke, sendMove_taken h, countMove]

/-- A call that the link takes (R154). -/
theorem makeCall_taken (h : s.linkTakes s.callDest (.moveCall e.tag (e.callNumber + 1) e.info)) :
    makeCall n e s = { s with
      flc := s.flc.sending s.callDest (.moveCall e.tag (e.callNumber + 1) e.info)
      mu := { s.mu with
        moves := s.mu.moves.set n (some { e with
          callNumber := e.callNumber + 1
          crane := none
          bids := []
          windowTimer := some ⟨s.time, s.cfg.params.bidWindow⟩
          replyTimer := none })
        counts := { s.mu.counts with callsMade := bump s.mu.counts.callsMade } } } := by
  have hsend := sendMove_taken (s := putMove n (e.called (s.timer s.cfg.params.bidWindow)) s) h
  exact congrArg (fun p => countMove (fun c => { c with callsMade := bump c.callsMade }) p.1) hsend

/-- A move that ends: MOVE_STATE is raised, and the entry keeps its end's number (R152, R153). -/
theorem endMove_eq {st : MoveStanding} (h : st ≠ e.state) (reason : Option MoveReason) (taker : Option Nat) :
    endMove n e st reason taker s = raise (.moveState e.tag st none reason taker) { s with mu := { s.mu with
      moves := s.mu.moves.set n (some { e with
        state := st
        crane := none
        bids := []
        windowTimer := none
        replyTimer := none
        cancelPending := false
        reason := reason
        endOrder := s.mu.endCount })
      endCount := s.mu.endCount + 1 } } := by
  have hstate : (e.ended st reason s.mu.endCount).state ≠ e.state := h
  simp only [endMove, changeMove, hstate, if_false]
  rfl

/-- A notice may come before or after a call. -/
theorem makeCall_raise (d : NoticeData)
    (h : s.linkTakes s.callDest (.moveCall e.tag (e.callNumber + 1) e.info)) :
    makeCall n e (raise d s) = raise d (makeCall n e s) := by
  have hdest : (raise d s).callDest = s.callDest := by simp [State.callDest]
  have htakes : (raise d s).linkTakes (raise d s).callDest (.moveCall e.tag (e.callNumber + 1) e.info) := by
    simpa [State.linkTakes, hdest] using h
  rw [makeCall_taken htakes, makeCall_taken h, hdest]
  unfold raise
  dsimp only
  split <;> rfl

/-! ### An award passes down, a move is called again (R156, R159) -/

theorem passDown_awards {b : Bid} {rest : List Bid} (h : e.bids = b :: rest)
    (htakes : s.linkTakes b.crane (.moveAward e.tag e.info)) :
    passDown n e s = { s with
      flc := s.flc.sending b.crane (.moveAward e.tag e.info)
      mu := { s.mu with
        moves := s.mu.moves.set n (some { e with
          bids := rest
          crane := some b.crane
          windowTimer := none
          replyTimer := some ⟨s.time, s.cfg.params.bidWindow⟩ })
        counts := { s.mu.counts with awardsSent := bump s.mu.counts.awardsSent } } } := by
  rw [passDown, h]
  simp only [actOnBids, sendMove_taken htakes]
  rfl

theorem passDown_calls (h : e.bids = []) (hcalls : e.callNumber < 3) : passDown n e s = makeCall n e s := by
  rw [passDown, h]
  exact if_pos hcalls

theorem passDown_fails (h : e.bids = []) (hcalls : 3 ≤ e.callNumber) :
    passDown n e s = endMove n e .failed (some .noCrane) none s := by
  rw [passDown, h]
  exact if_neg (Nat.not_lt.2 hcalls)

/-- The award of an OPEN move passes down its list once the crane that kept it waiting is left out (R156). -/
theorem passDown_passes {u : State} (hopen : e.state = .opened) (htime : u.time = s.time) (hcfg : u.cfg = s.cfg)
    (hmoves : u.mu.moves = s.mu.moves) (hend : u.mu.endCount = s.mu.endCount) :
    s.passes n e u (.next (passDown n { e with replyTimer := none, crane := none } u)) := by
  have hdest : u.callDest = s.callDest := by rw [State.callDest, State.callDest, hcfg]
  unfold State.passes
  rw [← hdest, ← htime, ← hcfg, ← hmoves, ← hend]
  refine ⟨fun b rest hbids htakes => ?_, fun hbids hcalls htakes => ?_, fun hbids hcalls => ?_⟩
  · rw [passDown_awards (by exact hbids) (by exact htakes)]
  · rw [passDown_calls (by exact hbids) (by exact hcalls), makeCall_taken (by exact htakes)]
  · rw [passDown_fails (by exact hbids) (by exact hcalls), endMove_eq (by simp [hopen])]

/-- A move whose cancellation was asked for ends as FAILED (R159). -/
theorem reopenMove_cancelled (hstate : e.state = .awarded) (h : e.cancelPending = true) :
    reopenMove n e s = raise (.moveState e.tag .failed none (some .cancelled) none) { s with mu := { s.mu with
      moves := s.mu.moves.set n (some { e with
        state := .failed
        crane := none
        bids := []
        windowTimer := none
        replyTimer := none
        cancelPending := false
        reason := some .cancelled
        endOrder := s.mu.endCount })
      endCount := s.mu.endCount + 1 } } := by
  rw [reopenMove, if_pos h, endMove_eq (by simp [hstate])]

/-- An awarded move that is open again makes its first call (R159). -/
theorem reopenMove_called (hstate : e.state = .awarded) (h : e.cancelPending = false)
    (htakes : s.linkTakes s.callDest (.moveCall e.tag 1 e.info)) :
    reopenMove n e s = raise (.moveState e.tag .opened none none none) { s with
      flc := s.flc.sending s.callDest (.moveCall e.tag 1 e.info)
      mu := { s.mu with
        moves := s.mu.moves.set n (some { e with
          state := .opened
          crane := none
          callNumber := 1
          bids := []
          windowTimer := some ⟨s.time, s.cfg.params.bidWindow⟩
          replyTimer := none
          reason := none })
        counts := { s.mu.counts with callsMade := bump s.mu.counts.callsMade } } } := by
  let opened : MoveEntry := { e with
    state := .opened
    crane := none
    callNumber := 0
    bids := []
    windowTimer := none
    replyTimer := none
    reason := none }
  have hchange : changeMove n e opened none s
      = raise (.moveState e.tag .opened none none none) (putMove n opened s) := by
    simp only [changeMove, opened, hstate, reduceCtorEq, if_false]
    rfl
  have hcall : reopenMove n e s = makeCall n opened (changeMove n e opened none s) := by
    simp only [reopenMove, h, hstate, opened, reduceCtorEq, if_false, Bool.false_eq_true]
  have htakes' : (putMove n opened s).linkTakes (putMove n opened s).callDest
      (.moveCall opened.tag (opened.callNumber + 1) opened.info) := htakes
  rw [hcall, hchange, makeCall_raise _ htakes', makeCall_taken htakes']
  simp only [putMove, List.set_set]
  rfl

end

/-! ### The move at one position (R159) -/

section
variable {s : State} {g n : Nat} {e : MoveEntry}

theorem loseCraneAt_empty (h : entryAt s.mu.moves n = none) : loseCraneAt g n s = s := by
  simp only [loseCraneAt, h]

theorem loseCraneAt_awarded (h : entryAt s.mu.moves n = some e) (hstate : e.state = .awarded)
    (hcrane : e.crane = some g) : loseCraneAt g n s = reopenMove n e (sendRevoke g e.tag s).1 := by
  simp only [loseCraneAt, h, hstate, hcrane, if_true]

/-- The crane that keeps an award waiting is lost: it is revoked, its bids leave, and the award passes down (R159). -/
theorem loseCraneAt_awaiting (h : entryAt s.mu.moves n = some e) (hstate : e.state = .opened)
    (htimer : e.replyTimer ≠ none) (hcrane : e.crane = some g) :
    loseCraneAt g n s = passDown n { e with
      bids := e.bids.filter (fun b => decide (b.crane ≠ g))
      replyTimer := none
      crane := none } (sendRevoke g e.tag s).1 := by
  have hwaits : e.replyTimer.isSome ∧ e.crane = some g := ⟨Option.isSome_iff_ne_none.2 htimer, hcrane⟩
  simp only [loseCraneAt, h, hstate, hwaits, and_self, if_true]

/-- The bids of a lost crane leave an OPEN move that does not wait for it (R159). -/
theorem loseCraneAt_opened (h : entryAt s.mu.moves n = some e) (hstate : e.state = .opened)
    (hwaits : e.replyTimer = none ∨ e.crane ≠ some g) :
    loseCraneAt g n s = putMove n { e with bids := e.bids.filter (fun b => decide (b.crane ≠ g)) } s := by
  have hnot : ¬ (e.replyTimer.isSome ∧ e.crane = some g) := by
    rintro ⟨hsome, hcrane⟩
    exact hwaits.elim (Option.isSome_iff_ne_none.1 hsome) (fun hne => hne hcrane)
  simp only [loseCraneAt, h, hstate, hnot, if_false]

theorem loseCraneAt_other (h : entryAt s.mu.moves n = some e) (hopen : e.state ≠ .opened)
    (hawarded : e.state ≠ .awarded ∨ e.crane ≠ some g) : loseCraneAt g n s = s := by
  simp only [loseCraneAt, h]
  cases hstate : e.state with
  | opened => exact absurd hstate hopen
  | awarded => exact if_neg (hawarded.resolve_left (not_not.2 hstate))
  | started => rfl
  | done => rfl
  | failed => rfl

end

end Sys2Proof.Machine
end

section
/-! PROOF. What the move unit does does not depend on the peer table, the envelope unit or the free values. -/

namespace Sys2Proof.Machine

/-- The same state with another peer table, another envelope unit and another count of free values. -/
def State.withPeers (s : State) (p : PeerTable) (v : Env) (f : Nat) : State :=
  { s with pt := p, env := v, freeCount := f }

section
variable (p : PeerTable) (v : Env) (f : Nat)

theorem raise_withPeers (d : NoticeData) (s : State) : raise d (s.withPeers p v f) = (raise d s).withPeers p v f := by
  unfold raise State.withPeers
  dsimp only
  split <;> rfl

theorem offer_withPeers (dest : Nat) (m : Message) (s : State) :
    offer dest m (s.withPeers p v f) = ((offer dest m s).1.withPeers p v f, (offer dest m s).2) := by
  unfold offer State.withPeers
  dsimp only
  cases s.flc.link with
  | isolated cause => rfl
  | normal =>
    dsimp only
    split
    · rfl
    · split <;> rfl

theorem sendMove_withPeers (dest : Nat) (m : Message) (s : State) :
    sendMove dest m (s.withPeers p v f) = ((sendMove dest m s).1.withPeers p v f, (sendMove dest m s).2) := by
  simp only [sendMove, offer_withPeers]
  split <;> rfl

theorem sendRevoke_withPeers (dest : Nat) (tag : Byte) (s : State) :
    sendRevoke dest tag (s.withPeers p v f)
      = ((sendRevoke dest tag s).1.withPeers p v f, (sendRevoke dest tag s).2) := by
  simp only [sendRevoke, sendMove_withPeers]
  split <;> rfl

theorem changeMove_withPeers (n : Nat) (old e : MoveEntry) (taker : Option Nat) (s : State) :
    changeMove n old e taker (s.withPeers p v f) = (changeMove n old e taker s).withPeers p v f := by
  unfold changeMove
  dsimp only
  split
  · rfl
  · exact raise_withPeers p v f (e.report taker) (putMove n e s)

theorem endMove_withPeers (n : Nat) (e : MoveEntry) (st : MoveStanding) (reason : Option MoveReason)
    (taker : Option Nat) (s : State) :
    endMove n e st reason taker (s.withPeers p v f) = (endMove n e st reason taker s).withPeers p v f :=
  changeMove_withPeers p v f n e _ taker { s with mu := { s.mu with endCount := s.mu.endCount + 1 } }

theorem makeCall_withPeers (n : Nat) (e : MoveEntry) (s : State) :
    makeCall n e (s.withPeers p v f) = (makeCall n e s).withPeers p v f := by
  have hsend := sendMove_withPeers p v f s.callDest (e.called (s.timer s.cfg.params.bidWindow)).call
    (putMove n (e.called (s.timer s.cfg.params.bidWindow)) s)
  exact congrArg (fun r => countMove (fun c => { c with callsMade := bump c.callsMade }) r.1) hsend

theorem actOnBids_withPeers (n : Nat) (e : MoveEntry) (bids : List Bid) (s : State) :
    actOnBids n e bids (s.withPeers p v f) = (actOnBids n e bids s).withPeers p v f := by
  induction bids generalizing s with
  | nil =>
    unfold actOnBids
    split
    · exact makeCall_withPeers ..
    · exact endMove_withPeers ..
  | cons b rest ih =>
    simp only [actOnBids, sendMove_withPeers]
    split
    · exact ih _
    · rfl

theorem reopenMove_withPeers (n : Nat) (e : MoveEntry) (s : State) :
    reopenMove n e (s.withPeers p v f) = (reopenMove n e s).withPeers p v f := by
  unfold reopenMove
  split
  · exact endMove_withPeers ..
  · dsimp only
    rw [changeMove_withPeers, makeCall_withPeers]

theorem loseCraneAt_withPeers (station n : Nat) (s : State) :
    loseCraneAt station n (s.withPeers p v f) = (loseCraneAt station n s).withPeers p v f := by
  have hmu : (s.withPeers p v f).mu = s.mu := rfl
  simp only [loseCraneAt, hmu, sendRevoke_withPeers]
  cases entryAt s.mu.moves n with
  | none => rfl
  | some e =>
    dsimp only
    split
    · split
      · exact reopenMove_withPeers ..
      · rfl
    · split
      · exact actOnBids_withPeers ..
      · rfl
    · rfl
    · rfl
    · rfl

theorem loseCrane_withPeers (station : Nat) (s : State) :
    loseCrane station (s.withPeers p v f) = (loseCrane station s).withPeers p v f := by
  have hfold (l : List Nat) : l.foldl (fun t n => loseCraneAt station n t) (s.withPeers p v f)
      = (l.foldl (fun t n => loseCraneAt station n t) s).withPeers p v f := by
    induction l generalizing s with
    | nil => rfl
    | cons n l ih => rw [List.foldl_cons, List.foldl_cons, loseCraneAt_withPeers, ih]
  have hrole : (s.withPeers p v f).role = s.role := rfl
  simp only [loseCrane, hrole]
  split
  · rfl
  · exact hfold _

end

/-! ### States that differ in the peer table, the envelope unit and the free values alone -/

/-- `t` differs from `s` in the peer table, the envelope unit and the free values alone. -/
def State.besides (t s : State) : Prop := t = s.withPeers t.pt t.env t.freeCount

theorem besides_iff {s t : State} : t.besides s ↔ ∃ p v f, t = s.withPeers p v f :=
  ⟨fun h => ⟨_, _, _, h⟩, by rintro ⟨p, v, f, rfl⟩; rfl⟩

theorem besides_trans {s t u : State} (h : u.besides t) (h' : t.besides s) : u.besides s := by
  obtain ⟨p, v, f, rfl⟩ := besides_iff.1 h
  obtain ⟨q, w, g, rfl⟩ := besides_iff.1 h'
  rfl

theorem loseCrane_besides {s t : State} (h : t.besides s) (station : Nat) :
    (loseCrane station t).besides (loseCrane station s) := by
  obtain ⟨p, v, f, rfl⟩ := besides_iff.1 h
  rw [loseCrane_withPeers]
  rfl

/-- A part whose peer entries' changes reach the table and the results alone: a cutter without a copy, or a rack. -/
def State.quiet (s : State) : Prop := (s.role = .cutter ∧ s.rc.release = .idle) ∨ s.role = .rack

theorem quiet_of_besides {s t : State} (h : t.besides s) (hq : s.quiet) : t.quiet := by
  obtain ⟨p, v, f, rfl⟩ := besides_iff.1 h
  exact hq

theorem loseCrane_quiet {s : State} (h : s.quiet) (station : Nat) : (loseCrane station s).quiet := by
  simpa [State.quiet, State.role] using h

theorem envPeer_besides {s : State} (h : s.quiet) (n : Nat) (roles : List Role) : (envPeer n roles s).besides s := by
  rcases h with ⟨hrole, hidle⟩ | hrole
  · by_cases hr : .crane ∈ roles
    · rw [envPeer_idle hrole hidle hr]
      rfl
    · rw [envPeer_unread (.inr (.inr ⟨hrole, hr⟩))]
      rfl
  · rw [envPeer_unread (.inl hrole)]
    rfl

theorem envStep_besides {s : State} (h : s.quiet) : (envStep s).besides s := by
  rcases h with ⟨hrole, hidle⟩ | hrole
  · have hclear : (evaluateAll s).env.station = .clear :=
      (evaluateAll_none hrole (windowUnderTest_none (.inl hidle))).1
    have hstep : envStep s = evaluateAll s := by
      simp only [envStep, hrole, windowChanged, if_true]
      rw [handOn_clear hclear, settle_noWait (.inl (by simpa using hidle))]
    rw [hstep, evaluateAll_cutter hrole]
    rfl
  · simp only [envStep, hrole]
    rfl

/-- A rack that holds no reservation for a station clears none (R149). -/
theorem dropReservations_none {s : State} {station : Nat}
    (h : ∀ n r, entryAt s.st.records n = some r → r.piece.reservation ≠ some station) :
    dropReservations station s = s := by
  have hnone : (entriesOf s.st.records).filter (fun r => decide (r.piece.reservation = some station)) = [] := by
    rw [List.filter_eq_nil_iff]
    intro r hr
    obtain ⟨n, hn⟩ := mem_entriesOf.1 hr
    simpa using h n r hn
  simp [dropReservations, hnone]

/-- The lost station reaches the move unit alone (R35, R149, R159). -/
theorem stationLost_besides {s : State} {station : Nat} (h : s.role = .cutter ∨ (s.role = .rack
    ∧ ∀ n r, entryAt s.st.records n = some r → r.piece.reservation ≠ some station)) :
    (stationLost station s).besides (loseCrane station s) := by
  rcases h with hrole | ⟨hrole, hst⟩
  · simp only [stationLost, hrole]
    rfl
  · have hcount : { s with freeCount := s.freeCount + 1 }.besides s := rfl
    have hlose := loseCrane_besides hcount station
    simp only [stationLost, hrole, unordered]
    split
    · rwa [dropReservations_none (by exact hst)]
    · rwa [dropReservations_none (by simpa using hst)]

end Sys2Proof.Machine
end

section
/-! PROOF. The aging step (R31 to R33, R89, R159). -/

namespace Sys2Proof.Machine

/-! ### Changing one position of a table -/

theorem modify_bind_none {α : Type} {l : List (Option α)} {n : Nat} (h : entryAt l n = none) (f : α → Option α) :
    l.modify n (fun o => o.bind f) = l := by
  apply List.ext_getElem?
  intro m
  rw [List.getElem?_modify]
  split
  · rename_i hm
    subst hm
    rcases hl : l[n]? with _ | _ | e
    · rfl
    · rfl
    · rw [entryAt_eq_some.2 hl] at h
      cases h
  · simp

theorem modify_bind_some {α : Type} {l : List (Option α)} {n : Nat} {e : α} (h : entryAt l n = some e)
    (f : α → Option α) : l.modify n (fun o => o.bind f) = l.set n (f e) := by
  apply List.ext_getElem?
  intro m
  rw [List.getElem?_modify, List.getElem?_set]
  split
  · rename_i hm
    subst hm
    have hlt := lt_length_of_entryAt h
    rw [entryAt_eq_some.1 h]
    simp [hlt]
  · simp

theorem set_entryAt {α : Type} {l : List (Option α)} {n : Nat} {e : α} (h : entryAt l n = some e) :
    l.set n (some e) = l := by
  rw [← modify_bind_some h some]
  simp only [Option.bind_fun_some]
  exact List.modify_id n l

/-- Changing each position in turn changes every one. -/
theorem foldl_modify_range {α : Type} (f : α → α) (l : List α) :
    (List.range l.length).foldl (fun l n => l.modify n f) l = l.map f := by
  have hupTo (m : Nat) (i : Nat) : ((List.range m).foldl (fun l n => l.modify n f) l)[i]?
      = if i < m then l[i]?.map f else l[i]? := by
    induction m with
    | zero => simp
    | succ m ih =>
      rw [List.range_succ, List.foldl_append, List.foldl_cons, List.foldl_nil, List.getElem?_modify, ih]
      by_cases hi : m = i
      · simp [hi]
      · have : i < m + 1 ↔ i < m := by omega
        simp [hi, this]
  apply List.ext_getElem?
  intro i
  rw [hupTo, List.getElem?_map]
  split
  · rfl
  · rw [List.getElem?_eq_none (by omega)]
    rfl

/-! ### One entry's part of an aging step, apart from the results (R31 to R33) -/

/-- A FRESH entry whose stale time is reached is STALE (R32). -/
def PeerEntry.staled (p : Params) (now : Count) (e : PeerEntry) : PeerEntry :=
  if e.state = .fresh ∧ p.staleTime e.data.role ≤ e.receiptAge now then { e with state := .stale } else e

/-- A STALE entry whose lost time is reached is LOST, or leaves the table if it is not pinned (R32, R33). -/
def PeerEntry.losing (p : Params) (now : Count) (e : PeerEntry) : Option PeerEntry :=
  if e.state = .stale ∧ p.lostTime e.data.role ≤ e.receiptAge now then
    if e.pinned then some { e with state := .lost } else none
  else some e

/-- The three parts of an entry's step together (R31). -/
def PeerEntry.agedTold (p : Params) (now : Count) (e : PeerEntry) : Option PeerEntry :=
  ((holdAge now e).staled p now).losing p now

theorem holdAge_told (now : Count) (e : PeerEntry) : holdAge now e.told = (holdAge now e).told := by
  have hage : e.told.receiptAge now = e.receiptAge now := rfl
  unfold holdAge
  rw [hage]
  split <;> rfl

theorem holdAge_eq (now : Count) (e : PeerEntry) :
    holdAge now e = { e with ageHeld := e.ageHeld || decide (e.receiptAge now = 65535) } := by
  unfold holdAge
  split <;> simp [*]

/-- Holding the age, and the state, leave the receipt age as it is (R31). -/
theorem receiptAge_held (now : Count) (e : PeerEntry) (st : PeerState) :
    ({ e with state := st, ageHeld := e.ageHeld || decide (e.receiptAge now = 65535) } : PeerEntry).receiptAge now
      = e.receiptAge now := by
  cases h : e.ageHeld
  · by_cases ha : ageOf now e.received = 65535 <;> simp [PeerEntry.receiptAge, h, ha]
  · simp [PeerEntry.receiptAge, h]

theorem staled_told (p : Params) (now : Count) (e : PeerEntry) : e.told.staled p now = (e.staled p now).told := by
  change (if e.state = .fresh ∧ p.staleTime e.data.role ≤ e.receiptAge now then { e.told with state := .stale }
    else e.told) = _
  unfold PeerEntry.staled
  split <;> rfl

theorem losing_told (p : Params) (now : Count) (e : PeerEntry) :
    e.told.losing p now = (e.losing p now).map PeerEntry.told := by
  change (if e.state = .stale ∧ p.lostTime e.data.role ≤ e.receiptAge now then
    if e.pinned then some { e.told with state := .lost } else none else some e.told) = _
  unfold PeerEntry.losing
  split
  · split <;> rfl
  · rfl

/-- The standing of an entry once its stale time is judged (R32). -/
def PeerEntry.standing (p : Params) (now : Count) (e : PeerEntry) : PeerState :=
  if e.state = .fresh ∧ p.staleTime e.data.role ≤ e.receiptAge now then .stale else e.state

theorem standing_lost {p : Params} {now : Count} {e : PeerEntry} : e.standing p now = .lost ↔ e.state = .lost := by
  unfold PeerEntry.standing
  split
  · simp_all
  · rfl

theorem staled_holdAge (p : Params) (now : Count) (e : PeerEntry) : (holdAge now e).staled p now = { e with
    state := e.standing p now
    ageHeld := e.ageHeld || decide (e.receiptAge now = 65535) } := by
  have hage : (holdAge now e).receiptAge now = e.receiptAge now := by
    rw [holdAge_eq]
    exact receiptAge_held now e e.state
  rw [PeerEntry.staled, hage, holdAge_eq, PeerEntry.standing]
  dsimp only
  split <;> rfl

/-- The three parts are the step of an entry as `PeerEntry.aged` puts it (R31 to R33). -/
theorem agedTold_told (p : Params) (now : Count) (e : PeerEntry) : e.told.agedTold p now = e.aged p now := by
  rw [PeerEntry.agedTold, holdAge_told, staled_told, losing_told, staled_holdAge, PeerEntry.losing, receiptAge_held]
  change _ = (if (if e.standing p now = PeerState.stale ∧ p.lostTime e.data.role ≤ e.receiptAge now
      then PeerState.lost else e.standing p now) = .lost ∧ e.state ≠ .lost ∧ e.pinned = false then none
    else some { e.told with
      state := if e.standing p now = PeerState.stale ∧ p.lostTime e.data.role ≤ e.receiptAge now then .lost
        else e.standing p now
      ageHeld := e.ageHeld || decide (e.receiptAge now = 65535) })
  by_cases hdue : e.standing p now = .stale ∧ p.lostTime e.data.role ≤ e.receiptAge now
  · have hlost : e.state ≠ .lost := fun h => by simp [standing_lost.2 h] at hdue
    cases hpin : e.pinned <;> simp [hdue, hlost, hpin, PeerEntry.told]
  · have hstays : ¬ (e.standing p now = .lost ∧ e.state ≠ .lost ∧ e.pinned = false) :=
      fun ⟨hlost, hnot, _⟩ => hnot (standing_lost.1 hlost)
    simp only [if_neg hdue, if_neg hstays]
    rfl

/-- An entry apart from its result, at a position of the bare table. -/
theorem entryAt_bare (t : PeerTable) (n : Nat) : entryAt t.bare.entries n = (entryAt t.entries n).map PeerEntry.told :=
  entryAt_map ..

theorem holdAge_bare (n : Nat) (s : State) :
    ({ s with pt := { s.pt with entries := modifyAt s.pt.entries n (holdAge s.time) } } : State).pt.bare
      = { s.pt.bare with
        entries := s.pt.bare.entries.modify n (fun o => o.bind fun e => some (holdAge s.time e)) } := by
  cases h : entryAt s.pt.entries n with
  | none =>
    rw [modify_bind_none (by rw [entryAt_bare, h]; rfl), modifyAt_eq_self (by simp [h])]
  | some e =>
    rw [modify_bind_some (e := e.told) (by rw [entryAt_bare, h]; rfl), modifyAt_eq h]
    rw [holdAge_told]
    exact putPeer_bare n (some (holdAge s.time e)) s

theorem ageToStale_bare (n : Nat) (s : State) : (ageToStale n s).pt.bare = { s.pt.bare with
    entries := s.pt.bare.entries.modify n (fun o => o.bind fun e => some (e.staled s.cfg.params s.time)) } := by
  cases h : entryAt s.pt.entries n with
  | none =>
    rw [modify_bind_none (by rw [entryAt_bare, h]; rfl)]
    simp only [ageToStale, h]
  | some e =>
    have hb : entryAt s.pt.bare.entries n = some e.told := by rw [entryAt_bare, h]; rfl
    rw [modify_bind_some hb, staled_told]
    by_cases hdue : e.state = .fresh ∧ s.cfg.params.staleTime e.data.role ≤ e.receiptAge s.time
    · simp only [ageToStale, h, PeerEntry.staled, if_pos hdue]
      rw [envPeer_bare, putPeer_bare]
      rfl
    · simp only [ageToStale, h, PeerEntry.staled, if_neg hdue]
      rw [set_entryAt hb]

theorem unordered_bare (n : Nat) (roles : List Role) (station : Nat) (s : State) :
    (unordered (envPeer n roles) (stationLost station) s).pt.bare = s.pt.bare := by
  unfold unordered
  dsimp only
  split
  · rw [stationLost_pt, envPeer_bare]
  · rw [envPeer_bare, stationLost_pt]

theorem ageToLost_bare (n : Nat) (s : State) : (ageToLost n s).pt.bare = { s.pt.bare with
    entries := s.pt.bare.entries.modify n (fun o => o.bind (PeerEntry.losing s.cfg.params s.time)) } := by
  cases h : entryAt s.pt.entries n with
  | none =>
    rw [modify_bind_none (by rw [entryAt_bare, h]; rfl)]
    simp only [ageToLost, h]
  | some e =>
    have hb : entryAt s.pt.bare.entries n = some e.told := by rw [entryAt_bare, h]; rfl
    rw [modify_bind_some hb]
    rw [losing_told]
    by_cases hdue : e.state = .stale ∧ s.cfg.params.lostTime e.data.role ≤ e.receiptAge s.time
    · cases hpin : e.pinned
      · simp only [ageToLost, h, PeerEntry.losing, if_pos hdue, hpin, Bool.false_eq_true, if_false]
        rw [removePeer_bare, putPeer_bare]
      · simp only [ageToLost, h, PeerEntry.losing, if_pos hdue, hpin, if_true]
        rw [unordered_bare, putPeer_bare]
    · simp only [ageToLost, h, PeerEntry.losing, if_neg hdue]
      rw [Option.map_some, set_entryAt hb]

/-- One entry's part of an aging step changes its own position alone, apart from the results. -/
theorem agePeer_bare (s : State) (n : Nat) : (agePeer s n).pt.bare = { s.pt.bare with
    entries := s.pt.bare.entries.modify n (fun o => o.bind (PeerEntry.agedTold s.cfg.params s.time)) } := by
  have hcfg (u : State) : (ageToStale n u).cfg = u.cfg := by simp
  have htime (u : State) : (ageToStale n u).time = u.time := by simp
  rw [agePeer, ageToLost_bare, ageToStale_bare, hcfg, htime, holdAge_bare]
  simp only [List.modify_modify_eq]
  congr 2
  funext o
  cases o <;> rfl

/-- The entries in any order: each position's part in turn. -/
theorem foldl_agePeer_bare (l : List Nat) (s : State) :
    (l.foldl agePeer s).cfg = s.cfg ∧ (l.foldl agePeer s).su = s.su ∧ (l.foldl agePeer s).time = s.time
      ∧ (l.foldl agePeer s).pt.bare = { s.pt.bare with
        entries := l.foldl (fun es n => es.modify n (fun o => o.bind (PeerEntry.agedTold s.cfg.params s.time)))
          s.pt.bare.entries } := by
  induction l generalizing s with
  | nil => exact ⟨rfl, rfl, rfl, rfl⟩
  | cons n l ih =>
    have hcfg : (agePeer s n).cfg = s.cfg := by simp
    have hsu : (agePeer s n).su = s.su := by simp
    have htime : (agePeer s n).time = s.time := by simp
    have h := ih (agePeer s n)
    rwa [hcfg, hsu, htime, agePeer_bare] at h

/-- The table an aging step leaves, apart from the results (R31 to R33). -/
theorem agingStep_bare {s : State} (hlen : s.pt.entries.length = 48) : (agingStep s).pt.bare = { s.pt.bare with
    entries := s.pt.entries.map (fun o => o.bind (PeerEntry.aged s.cfg.params s.time)) } := by
  have hbare : s.pt.bare.entries.length = 48 := by simp [PeerTable.bare, PeerTable.told, hlen]
  obtain ⟨-, -, -, hfold⟩ := foldl_agePeer_bare (List.range 48) s
  have hstep : (agingStep s).pt.bare = ((List.range 48).foldl agePeer s).pt.bare := (envStep_stands (stands_refl _)).1
  rw [hstep, hfold, ← hbare, foldl_modify_range]
  simp only [PeerTable.bare, PeerTable.told, List.map_map]
  congr 1
  apply List.map_congr_left
  intro o _
  cases o with
  | none => rfl
  | some e => exact agedTold_told s.cfg.params s.time e

theorem agingStep_frame (s : State) :
    (agingStep s).cfg = s.cfg ∧ (agingStep s).su = s.su ∧ (agingStep s).time = s.time := by
  obtain ⟨hcfg, hsu, htime, -⟩ := foldl_agePeer_bare (List.range 48) s
  simp [agingStep, hcfg, hsu, htime]

/-! ### A crane's aging step (R20) -/

theorem envPeer_crane_station {s : State} (h : s.role = .crane) (n : Nat) (roles : List Role) :
    (envPeer n roles s).env.station = s.env.station := by
  by_cases hr : .cutter ∈ roles
  · rw [envPeer_crane h hr, craneEvaluates_crane h]
  · rw [envPeer_unread (.inr (.inl ⟨h, hr⟩))]

/-- Aging a crane's peers leaves its station result. -/
theorem agePeer_crane_station {s : State} (h : s.role = .crane) (n : Nat) :
    (agePeer s n).env.station = s.env.station := by
  have henv (u : State) (hu : u.role = .crane) (roles : List Role) :
      (envPeer n roles u).env.station = u.env.station := envPeer_crane_station hu n roles
  have hlose (u : State) (hu : u.role = .crane) (station : Nat) : stationLost station u = u :=
    stationLost_unheeded station (.inl hu)
  have hstale (u : State) (hu : u.role = .crane) : (ageToStale n u).env.station = u.env.station := by
    unfold ageToStale
    split
    · split
      · exact (henv _ (by exact hu) _).trans rfl
      · rfl
    · rfl
  have hlost (u : State) (hu : u.role = .crane) : (ageToLost n u).env.station = u.env.station := by
    unfold ageToLost
    split
    · split
      · split
        · unfold unordered
          dsimp only
          split
          · rw [hlose _ (by simpa [State.role] using hu)]
            exact (henv _ (by exact hu) _).trans rfl
          · rw [hlose _ (by exact hu)]
            exact (henv _ (by exact hu) _).trans rfl
        · rw [removePeer, hlose _ (by exact hu)]
          exact (henv _ (by exact hu) _).trans rfl
      · rfl
    · rfl
  rw [agePeer, hlost _ (by simpa [State.role] using h)]
  exact hstale _ h

theorem foldl_agePeer_crane {s : State} (h : s.role = .crane) (l : List Nat) :
    (l.foldl agePeer s).role = .crane ∧ (l.foldl agePeer s).env.station = s.env.station
      ∧ (l.foldl agePeer s).env.own = s.env.own := by
  induction l generalizing s with
  | nil => exact ⟨h, rfl, rfl⟩
  | cons n l ih =>
    obtain ⟨hrole, hstation, hown⟩ := ih (s := agePeer s n) (by simpa [State.role] using h)
    exact ⟨hrole, hstation.trans (agePeer_crane_station h n), hown.trans (by simp)⟩

/-- A crane's aging step forms its five results from the table as it stands (R20). -/
theorem agingStep_crane {s : State} (h : s.role = .crane) : (agingStep s).env = { s.env with
    permits := cranePermits s.cfg.params s.time s.env.own (agingStep s).cutterWindows } := by
  obtain ⟨hrole, hstation, hown⟩ := foldl_agePeer_crane h (List.range 48)
  obtain ⟨hcfg, -, htime, -⟩ := foldl_agePeer_bare (List.range 48) s
  have hstep : agingStep s = craneEvaluates ((List.range 48).foldl agePeer s) := by
    simp only [agingStep, envStep, hrole]
  generalize (List.range 48).foldl agePeer s = x at *
  have hwindows : (craneEvaluates x).cutterWindows = x.cutterWindows := by simp [State.cutterWindows]
  have hpermits (v w : Env) (r : Permits) (hst : v.station = w.station) (ho : v.own = w.own) :
      ({ v with permits := r } : Env) = { w with permits := r } := by
    cases v
    cases w
    simp_all
  rw [hstep, hwindows, craneEvaluates_crane hrole, hcfg, htime, hown]
  exact hpermits _ _ _ hstation hown

/-! ### Entries that a step leaves as they stand (R31) -/

theorem holdAge_steady {s : State} {e : PeerEntry} (h : s.steady e) : holdAge s.time e = e := by
  obtain ⟨-, -, hheld⟩ := h
  have hsame : (e.ageHeld || decide (e.receiptAge s.time = 65535)) = e.ageHeld := by
    by_cases hage : e.receiptAge s.time = 65535
    · simp [hage, hheld hage]
    · simp [hage]
  rw [holdAge_eq, hsame]

theorem agePeer_steady {s : State} {n : Nat} (h : ∀ e, entryAt s.pt.entries n = some e → s.steady e) :
    agePeer s n = s := by
  have hhold : modifyAt s.pt.entries n (holdAge s.time) = s.pt.entries :=
    modifyAt_eq_self fun e he => holdAge_steady (h e he)
  have hstale : ageToStale n s = s := by
    unfold ageToStale
    split
    · rename_i e he
      exact if_neg fun hdue => Nat.not_le.2 ((h e he).1 hdue.1) hdue.2
    · rfl
  have hlost : ageToLost n s = s := by
    unfold ageToLost
    split
    · rename_i e he
      exact if_neg fun hdue => Nat.not_le.2 ((h e he).2.1 hdue.1) hdue.2
    · rfl
  rw [agePeer, hhold]
  exact (congrArg (ageToLost n) hstale).trans hlost

/-- Steps that leave the state as it is. -/
theorem foldl_agePeer_fixed {s : State} {l : List Nat} (h : ∀ n ∈ l, agePeer s n = s) : l.foldl agePeer s = s := by
  induction l with
  | nil => rfl
  | cons n l ih =>
    rw [List.foldl_cons, h n List.mem_cons_self]
    exact ih fun m hm => h m (List.mem_cons_of_mem n hm)

/-- Where the step reaches one entry alone, it is that entry's step. -/
theorem foldl_agePeer_one {s : State} {k : Nat} {l : List Nat} (hk : k ∈ l) (hl : l.Nodup)
    (hbefore : ∀ n, n ≠ k → agePeer s n = s) (hafter : ∀ n, n ≠ k → agePeer (agePeer s k) n = agePeer s k) :
    l.foldl agePeer s = agePeer s k := by
  obtain ⟨l₁, l₂, rfl⟩ := List.append_of_mem hk
  obtain ⟨-, hnodup, hdisj⟩ := List.nodup_append.1 hl
  have hl₁ : ∀ n ∈ l₁, n ≠ k := fun n hn => hdisj n hn k List.mem_cons_self
  have hl₂ : ∀ n ∈ l₂, n ≠ k := by
    rintro n hn rfl
    exact (List.nodup_cons.1 hnodup).1 hn
  rw [List.foldl_append, List.foldl_cons, foldl_agePeer_fixed fun n hn => hbefore n (hl₁ n hn),
    foldl_agePeer_fixed fun n hn => hafter n (hl₂ n hn)]

/-- An entry's step leaves every other position steady. -/
theorem agePeer_keeps_steady {s : State} {k n : Nat} (hn : n ≠ k)
    (h : ∀ e, entryAt s.pt.entries n = some e → s.steady e) :
    ∀ e, entryAt (agePeer s k).pt.entries n = some e → (agePeer s k).steady e := by
  intro e he
  have hbare : entryAt (agePeer s k).pt.bare.entries n = entryAt s.pt.bare.entries n := by
    rw [agePeer_bare]
    simp [entryAt, hn.symm]
  rw [entryAt_bare, entryAt_bare, he] at hbare
  obtain ⟨x, hx, htold⟩ := Option.map_eq_some_iff.1 hbare.symm
  have hsteady : s.steady x.told := h x hx
  have hcfg : (agePeer s k).cfg = s.cfg := by simp
  have htime : (agePeer s k).time = s.time := by simp
  rw [htold] at hsteady
  unfold State.steady
  rw [hcfg, htime]
  exact hsteady

/-! ### A station that becomes LOST (R33, R35, R159) -/

/-- A STALE entry whose lost time is reached: beside the table and the results, the move unit alone is told. -/
theorem ageToLost_besides {s u : State} {k : Nat} {e : PeerEntry} (hq : s.quiet)
    (hrack : s.role = .rack → ∀ n r, entryAt s.st.records n = some r → r.piece.reservation ≠ some e.station)
    (hu : u.besides s) (he : entryAt u.pt.entries k = some e)
    (hdue : e.state = .stale ∧ u.cfg.params.lostTime e.data.role ≤ e.receiptAge u.time) :
    (ageToLost k u).besides (loseCrane e.station s) := by
  have htold (w : State) (hw : w.besides s) : (stationLost e.station w).besides (loseCrane e.station s) := by
    obtain ⟨p, v, f, rfl⟩ := besides_iff.1 hw
    refine besides_trans (stationLost_besides ?_) (loseCrane_besides hw e.station)
    exact hq.imp (fun h => h.1) (fun h => ⟨h, hrack h⟩)
  have hgone (w : State) (hw : w.besides (loseCrane e.station s)) :
      (envPeer k [e.data.role] w).besides (loseCrane e.station s) :=
    besides_trans (envPeer_besides (quiet_of_besides hw (loseCrane_quiet hq e.station)) k _) hw
  obtain ⟨p, v, f, rfl⟩ := besides_iff.1 hu
  simp only [ageToLost, he, if_pos hdue]
  split
  · unfold unordered
    dsimp only
    split
    · exact htold _ (besides_trans (envPeer_besides (s := { (putPeer k _ (s.withPeers p v f)) with
        freeCount := _ }) hq k _) rfl)
    · exact hgone _ (htold _ rfl)
  · exact hgone _ (besides_trans (t := stationLost e.station _) rfl (htold _ rfl))

/-- An entry's step at its loss, the end of its receipt age held first (R31). -/
theorem agePeer_lost {s : State} {k : Nat} {e : PeerEntry} (hq : s.quiet)
    (hrack : s.role = .rack → ∀ n r, entryAt s.st.records n = some r → r.piece.reservation ≠ some e.station)
    (he : entryAt s.pt.entries k = some e) (hstate : e.state = .stale)
    (hdue : s.cfg.params.lostTime e.data.role ≤ e.receiptAge s.time) :
    (agePeer s k).besides (loseCrane e.station s) := by
  have hage : (holdAge s.time e).receiptAge s.time = e.receiptAge s.time := by
    rw [holdAge_eq]
    exact receiptAge_held s.time e e.state
  have hheld : (holdAge s.time e).state = .stale ∧ (holdAge s.time e).data = e.data
      ∧ (holdAge s.time e).station = e.station := by
    rw [holdAge_eq]
    exact ⟨hstate, rfl, rfl⟩
  obtain ⟨hstale, hdata, hstation⟩ := hheld
  have hat : entryAt (modifyAt s.pt.entries k (holdAge s.time)) k = some (holdAge s.time e) := by
    rw [modifyAt_eq he, entryAt_eq_some]
    simp [lt_length_of_entryAt he]
  let held : State := { s with pt := { s.pt with entries := modifyAt s.pt.entries k (holdAge s.time) } }
  have hkeep : ageToStale k held = held := by
    simp only [ageToStale, held, hat, hstale, reduceCtorEq, false_and, if_false]
  rw [← hstation] at hrack ⊢
  refine (congrArg (fun t => (ageToLost k t).besides _) hkeep).mpr (ageToLost_besides hq hrack rfl hat ⟨hstale, ?_⟩)
  rw [hage, hdata]
  exact hdue

/-- The aging step in which one entry alone is due, and that for its loss (R33, R35, R159). -/
theorem agingStep_besides {s : State} {k : Nat} {e : PeerEntry} (hq : s.quiet)
    (hrack : s.role = .rack → ∀ n r, entryAt s.st.records n = some r → r.piece.reservation ≠ some e.station)
    (hlen : s.pt.entries.length = 48) (he : entryAt s.pt.entries k = some e) (hstate : e.state = .stale)
    (hdue : s.cfg.params.lostTime e.data.role ≤ e.receiptAge s.time)
    (hsteady : ∀ n x, n ≠ k → entryAt s.pt.entries n = some x → s.steady x) :
    (agingStep s).besides (loseCrane e.station s) := by
  have hk : k ∈ List.range 48 := by
    rw [List.mem_range, ← hlen]
    exact lt_length_of_entryAt he
  have hfold : (List.range 48).foldl agePeer s = agePeer s k := foldl_agePeer_one hk List.nodup_range
    (fun n hn => agePeer_steady fun x => hsteady n x hn)
    (fun n hn => agePeer_steady (agePeer_keeps_steady hn fun x => hsteady n x hn))
  have hlost : (agePeer s k).besides (loseCrane e.station s) := agePeer_lost hq hrack he hstate hdue
  rw [agingStep, hfold]
  exact besides_trans (envStep_besides (quiet_of_besides hlost (loseCrane_quiet hq e.station))) hlost

/-! ### The aging step taken (R31) -/

theorem exec_agingStep {s : State} {t : Timer} (ht : s.pt.agingTimer = some t) (hexp : s.expired (some t) = true) :
    exec .agingStep s = .next (agingStep { s with pt := { s.pt with agingTimer := some t.again } }) := by
  change execAgingStep s = _
  simp only [execAgingStep, ht, hexp, if_true]

theorem exec_agingStep_early {s : State} (h : s.expired s.pt.agingTimer = false) : exec .agingStep s = .next s := by
  change execAgingStep s = _
  cases ht : s.pt.agingTimer with
  | none => simp only [execAgingStep, ht]
  | some t =>
    rw [ht] at h
    simp only [execAgingStep, ht, h, Bool.false_eq_true, if_false]

/-- Settles O24: the parts of an aging step for the table, the copy in flight, one lost station and its moves. -/
theorem agingStepAgesEveryEntry : Obligations.AgingStepAgesEveryEntry := by
  refine ⟨fun s => ⟨fun t ht hexp hlen => ?_, exec_agingStep_early⟩, ?_, ?_, ?_⟩
  · let again : State := { s with pt := { s.pt with agingTimer := some t.again } }
    obtain ⟨hcfg, hsu, htime⟩ := agingStep_frame again
    have hbare := agingStep_bare (s := again) hlen
    have hcrane (h : s.role = .crane) := agingStep_crane (s := again) h
    refine ⟨agingStep again, exec_agingStep ht hexp, ?_⟩
    generalize agingStep again = u at *
    exact ⟨congrArg PeerTable.entries hbare, congrArg PeerTable.agingTimer hbare, (congrArg PeerTable.stored hbare :),
      (congrArg PeerTable.evictions hbare :), hcfg, hsu, htime, hcrane⟩
  · intro s t c ht hexp hrole hrel hcur harc hsteady
    let again : State := { s with pt := { s.pt with agingTimer := some t.again } }
    have hfold : (List.range 48).foldl agePeer again = again :=
      foldl_agePeer_fixed fun n _ => agePeer_steady (s := again) (hsteady n)
    have hstep : agingStep again = settle (handOn (evaluateAll again)) := by
      have hcutter : again.role = .cutter := hrole
      simp only [agingStep, hfold, envStep, hcutter, windowChanged, if_true]
    rw [exec_agingStep ht hexp]
    change (evaluateAll again).meets c (.next (agingStep again))
    rw [hstep]
    exact handOn_meets (by simpa [State.role] using hrole) (by simpa using hrel) (by simpa using hcur) harc
  · intro s t k e ht hexp hlen he hstate hdue hsteady hpart
    let again : State := { s with pt := { s.pt with agingTimer := some t.again } }
    have hnot : s.role ≠ .crane := by
      rcases hpart with ⟨h, -⟩ | ⟨h, -⟩ <;> simp [h]
    have hq : again.quiet := hpart.imp_right (fun h => h.1)
    have hrack (hr : s.role = .rack) : ∀ n r, entryAt s.st.records n = some r →
        r.piece.reservation ≠ some e.station := by
      rcases hpart with ⟨h, -⟩ | ⟨-, h⟩
      · simp [h] at hr
      · exact h
    have hstep : (agingStep again).besides (loseCrane e.station s) :=
      besides_trans (agingStep_besides hq hrack hlen he hstate hdue hsteady)
        (loseCrane_besides (s := s) (t := again) rfl e.station)
    have hlose : (List.range 8).foldl (fun u n => loseCraneAt e.station n u) s = loseCrane e.station s :=
      (if_neg hnot).symm
    obtain ⟨p, v, f, hu⟩ := besides_iff.1 hstep
    obtain ⟨-, htime, hcfg, -, -, -, hsq, hrc, hlc, hst, hsu, -, -, -, hlu, -⟩ := loseCrane_frame e.station s
    dsimp only
    rw [hlose]
    exact ⟨_, (exec_agingStep ht hexp).trans (congrArg _ hu), rfl, rfl, rfl, hst, hsq, hrc, hlc, hsu, hlu, hcfg,
      htime⟩
  · intro s g n
    refine ⟨loseCraneAt_empty, fun e he => ⟨fun hstate hcrane htakes =>
      ⟨fun hcancel => ?_, fun hkept hcall => ?_⟩,
      fun hstate htimer hcrane htakes => ?_, loseCraneAt_opened he, loseCraneAt_other he⟩⟩
    · rw [loseCraneAt_awarded he hstate hcrane, sendRevoke_taken htakes, reopenMove_cancelled hstate hcancel]
    · rw [loseCraneAt_awarded he hstate hcrane, sendRevoke_taken htakes, reopenMove_called hstate hkept hcall]
      rfl
    · rw [loseCraneAt_awaiting he hstate htimer hcrane, sendRevoke_taken htakes]
      exact passDown_passes (e := { e with bids := e.bids.filter (fun b => decide (b.crane ≠ g)) })
        hstate rfl rfl rfl rfl

end Sys2Proof.Machine
end

section
/-! PROOF. What the invariants on sizes, wear and the peer table read of a state, and what notices, telegrams offered and
isolation keep of it (R22, R42, R44, R95, R170). -/

namespace Sys2Proof.Machine

/-! ### The tally of a state -/

/-- The stations of the peer table's entries, by position (R22). -/
def PeerTable.stations (t : PeerTable) : List (Option Nat) := t.entries.map (fun o => o.map PeerEntry.station)

/-- At most one position per station, none of the part's own, each in 1..62 (R22). -/
def stationsSound (own : Nat) (l : List (Option Nat)) : Prop :=
  (∀ m n k, entryAt l m = some k → entryAt l n = some k → m = n)
    ∧ ∀ n k, entryAt l n = some k → k ≠ own ∧ inRange 1 62 k = true

theorem entryAt_stations {t : PeerTable} {n k : Nat} :
    entryAt t.stations n = some k ↔ ∃ e, entryAt t.entries n = some e ∧ e.station = k := by
  rw [PeerTable.stations, entryAt_map, Option.map_eq_some_iff]

theorem peersSound_iff (s : State) : s.peersSound ↔ stationsSound s.cfg.params.station s.pt.stations := by
  simp only [State.peersSound, stationsSound, entryAt_stations]
  constructor
  · rintro ⟨hone, hrange⟩
    exact ⟨fun m n _ ⟨a, ha, hk⟩ ⟨b, hb, hk'⟩ => hone m n a b ha hb (hk.trans hk'.symm),
      fun n _ ⟨e, he, hk⟩ => hk ▸ hrange n e he⟩
  · rintro ⟨hone, hrange⟩
    exact ⟨fun m n a b ha hb hk => hone m n _ ⟨a, ha, hk⟩ ⟨b, hb, rfl⟩, fun n e he => hrange n _ ⟨e, he, rfl⟩⟩

/-- How many telegrams a class queue holds at most (R42, R44). -/
def TxClass.bound : TxClass → Nat
  | .urgent => 2
  | .custody => 8
  | .search => 8
  | .periodic => 2

/-- What the fixed sizes, the wear limit and the soundness of the peer table are about. -/
structure Tally where
  station     : Nat
  pierceLimit : Nat
  pierces     : Nat
  peers       : List (Option Nat)
  records     : Nat
  retired     : Nat
  moves       : Nat
  queued      : Nat
  replies     : Nat
  notices     : Nat
  lost        : Nat
  marks       : Nat
  classes     : TxClass → Nat

/-- The tally of a state. -/
def State.tally (s : State) : Tally where
  station := s.cfg.params.station
  pierceLimit := s.cfg.params.pierceLimit
  pierces := s.rc.pierces
  peers := s.pt.stations
  records := s.st.records.length
  retired := s.st.retired.length
  moves := s.mu.moves.length
  queued := s.mu.queue.length
  replies := s.sp.buffer.length
  notices := s.sp.notices.length
  lost := s.sp.lost
  marks := s.lc.log.length
  classes := fun c => (s.flc.queueOf c).length

/-- No bound that the tally `a` meets is broken in `b`. The replies are the port's own: an operation adds none. -/
structure Tally.keeps (a b : Tally) : Prop where
  table   : a.peers.length = 48 → b.peers.length = 48
  peers   : stationsSound a.station a.peers → stationsSound b.station b.peers
  wear    : a.pierces ≤ a.pierceLimit → b.pierces ≤ b.pierceLimit
  records : a.records = 96 → b.records = 96
  retired : a.retired ≤ 64 → b.retired ≤ 64
  moves   : a.moves = 8 → b.moves = 8
  queued  : a.queued ≤ 8 → b.queued ≤ 8
  replies : b.replies ≤ a.replies
  notices : a.notices ≤ 32 → b.notices ≤ 32
  lost    : a.lost ≤ 255 → b.lost ≤ 255
  marks   : a.marks ≤ 32 → b.marks ≤ 32
  classes : ∀ c, a.classes c ≤ c.bound → b.classes c ≤ c.bound

/-- From `s` an operation has led to `t`, and every bound that `s` meets holds in `t`. An update of what the tally does
not read keeps them by `rfl`, so that a proof passes over it. -/
abbrev State.keeps (s t : State) : Prop := s.tally.keeps t.tally

theorem keeps_refl (s : State) : s.keeps s :=
  ⟨id, id, id, id, id, id, id, le_rfl, id, id, id, fun _ => id⟩

theorem sized_iff (s : State) : s.sized ↔
    s.tally.peers.length = 48 ∧ s.tally.records = 96 ∧ s.tally.retired ≤ 64 ∧ s.tally.moves = 8 ∧ s.tally.queued ≤ 8
      ∧ s.tally.replies ≤ 4 ∧ s.tally.notices ≤ 32 ∧ s.tally.lost ≤ 255 ∧ s.tally.marks ≤ 32
      ∧ ∀ c, s.tally.classes c ≤ c.bound := by
  have hclasses : (∀ c, s.tally.classes c ≤ c.bound) ↔ s.flc.class0.length ≤ 2 ∧ s.flc.class1.length ≤ 8
      ∧ s.flc.class2.length ≤ 8 ∧ s.flc.class3.length ≤ 2 :=
    ⟨fun h => ⟨h .urgent, h .custody, h .search, h .periodic⟩, fun ⟨h0, h1, h2, h3⟩ c => by
      cases c <;> assumption⟩
  rw [hclasses]
  simp only [State.sized, State.tally, PeerTable.stations, List.length_map]
  tauto

section
variable {s t : State}

theorem ite_keeps {p : Prop} [Decidable p] {u v : State} (hu : s.keeps u) (hv : s.keeps v) :
    s.keeps (if p then u else v) := by
  split <;> assumption

/-! ### Notices (R170) -/

theorem raise_keeps (d : NoticeData) (h : s.keeps t) : s.keeps (raise d t) := by
  rcases raise_cases d t with ⟨hroom, he⟩ | ⟨-, he⟩ <;> rw [he]
  · exact { h with notices := fun _ => by simpa [State.tally] using hroom }
  · exact { h with lost := fun _ => Nat.min_le_right _ _ }

/-! ### The class queues (R42, R44) -/

theorem setQueue_keeps (c : TxClass) {q : List Queued} (h : s.keeps t)
    (hq : (t.flc.queueOf c).length ≤ c.bound → q.length ≤ c.bound) :
    s.keeps { t with flc := t.flc.setQueue c q } := by
  refine { h with classes := fun d hd => ?_ }
  have hold : (t.flc.queueOf d).length ≤ d.bound := h.classes d hd
  change ((t.flc.setQueue c q).queueOf d).length ≤ d.bound
  by_cases hdc : d = c
  · subst hdc
    rw [setQueue_queueOf]
    exact hq hold
  · rwa [setQueue_queueOf_other _ _ hdc]

theorem popFront_keeps (c : TxClass) (h : s.keeps t) : s.keeps { t with flc := t.flc.popFront c } :=
  setQueue_keeps c h fun hq => by rw [List.length_tail]; omega

theorem onLine_le (f : Flc) (c : TxClass) : f.onLine c ≤ 1 := by
  unfold Flc.onLine
  split
  · split <;> omega
  · omega

/-- A class of beacons holds one on the line and one that waits (R44). -/
theorem placeBeacon_keeps {c : TxClass} (hc : c.bound = 2) (h : s.keeps t) :
    s.keeps { t with flc := placeBeacon c t.flc } := by
  have hline := onLine_le t.flc c
  unfold placeBeacon
  dsimp only
  split
  · rename_i hwaiting
    have := List.drop_eq_nil_iff.1 hwaiting
    exact setQueue_keeps c h fun _ => by simp; omega
  · rename_i x rest hwaiting
    have := congrArg List.length hwaiting
    exact setQueue_keeps (q := _ ++ _ :: rest) c h fun _ => by simp at *; omega

theorem callUrgent_keeps (h : s.keeps t) : s.keeps (callUrgent t) := by
  unfold callUrgent
  split
  · split
    · exact placeBeacon_keeps rfl h
    · exact h
  · exact h

theorem txClass_bound (m : Message) : m.txClass.bound = 8 := by
  cases m <;> rfl

theorem offer_keeps (dest : Nat) (m : Message) (h : s.keeps t) : s.keeps (offer dest m t).1 := by
  rcases offer_cases dest m t with ⟨-, he⟩ | ⟨-, -, he⟩ | ⟨-, -, he⟩ | ⟨⟨-, -, hroom⟩, he⟩ <;> rw [he]
  · exact h
  · exact h
  · exact h
  · exact setQueue_keeps m.txClass h fun _ => by rw [txClass_bound]; simpa using hroom

/-! ### The crane's queue and isolation (R48, R160, R165) -/

theorem setMoveQueue_keeps {q : List QueuedMove} (h : s.keeps t)
    (hq : t.mu.queue.length ≤ 8 → q.length ≤ 8) : s.keeps (setMoveQueue q t) := by
  have hput : s.keeps { t with mu := { t.mu with queue := q } } := { h with queued := fun hs => hq (h.queued hs) }
  unfold setMoveQueue
  exact ite_keeps hput (raise_keeps _ hput)

theorem dropUnstarted_keeps (h : s.keeps t) : s.keeps (dropUnstarted t) := by
  unfold dropUnstarted
  refine setMoveQueue_keeps (ite_keeps (raise_keeps _ h) h) fun hq => (List.length_filter_le ..).trans ?_
  split at hq
  · simpa using hq
  · exact hq

theorem isolate_keeps (cause : IsolationCause) (h : s.keeps t) : s.keeps (isolate cause t) := by
  have hempty : s.keeps { t with flc := t.flc.isolate cause t.time } :=
    { h with classes := fun c _ => by cases c <;> exact Nat.zero_le _ }
  have hraise := raise_keeps (.linkIsolated cause) hempty
  exact ite_keeps (dropUnstarted_keeps hraise) hraise

theorem duplicate_keeps (h : s.keeps t) : s.keeps (duplicate t) := by
  unfold duplicate
  split
  · exact isolate_keeps _ h
  · exact h
  · exact raise_keeps _ h

end

end Sys2Proof.Machine
end

section
/-! PROOF. What the stock table, the segment queue, the envelope unit and the release controller keep of the sizes, the
wear and the peer table (R12, R72 to R99, R111, R117, R120). -/

namespace Sys2Proof.Machine

/-! ### Updates of the stock table (R117, R119, R120) -/

@[simp] theorem enter_sizes (t : Stock) (r : StockRecord) :
    (t.enter r).records.length = t.records.length ∧ (t.enter r).retired = t.retired := by
  unfold Stock.enter
  split <;> simp

@[simp] theorem setMarked_sizes (t : Stock) (i : StockId) :
    (t.setMarked i).records.length = t.records.length ∧ (t.setMarked i).retired = t.retired := by
  unfold Stock.setMarked
  split <;> simp

@[simp] theorem setSlot_sizes (t : Stock) (n : Nat) (o : Option HeldOffer) :
    (t.setSlot n o).records = t.records ∧ (t.setSlot n o).retired = t.retired := by
  unfold Stock.setSlot
  split <;> simp

section
variable {s t : State}

/-- A stock table with as many positions, and no more retired IDs than 64, may take the place of the one before. -/
theorem stock_keeps {v : Stock} (h : s.keeps t) (hrecords : v.records.length = t.st.records.length)
    (hretired : t.st.retired.length ≤ 64 → v.retired.length ≤ 64) : s.keeps { t with st := v } :=
  { h with
    records := fun hs => hrecords.trans (h.records hs)
    retired := fun hs => hretired (h.retired hs) }

theorem enter_keeps (r : StockRecord) (h : s.keeps t) : s.keeps { t with st := t.st.enter r } :=
  stock_keeps h (by simp) (by simp)

theorem setSlot_keeps (n : Nat) (o : Option HeldOffer) (h : s.keeps t) : s.keeps { t with st := t.st.setSlot n o } :=
  stock_keeps h (by simp) (by simp)

theorem update_keeps (n : Nat) (f : StockRecord → StockRecord) (h : s.keeps t) :
    s.keeps { t with st := t.st.update n f } :=
  stock_keeps h (by simp [Stock.update]) id

theorem remove_keeps (n : Nat) (h : s.keeps t) : s.keeps { t with st := t.st.remove n } :=
  stock_keeps h (by simp [Stock.remove]) id

theorem retireBed_keeps (h : s.keeps t) : s.keeps (retireBed t) := by
  unfold retireBed
  split
  · exact raise_keeps _ (stock_keeps h (by simp [Stock.retire, Stock.remove]) fun _ => List.length_take_le ..)
  · exact h

theorem createRemnant_keeps (serial len wid : Nat) (notch : Option Notch) (h : s.keeps t) :
    s.keeps (createRemnant serial len wid notch t) := by
  unfold createRemnant
  split
  · exact enter_keeps _ h
  · exact h

theorem stockEffect_keeps (c : SegContent) (h : s.keeps t) : s.keeps (stockEffect c t) := by
  cases c with
  | nestEnd => exact retireBed_keeps h
  | remnant serial len wid notch => exact createRemnant_keeps serial len wid notch h
  | _ => exact h

/-! ### The mark log (R111 to R113) -/

theorem logMark_keeps (c : Current) (o : MarkOutcome) (h : s.keeps t) : s.keeps (logMark c o t) := by
  unfold logMark
  split
  · rename_i tool _ _ _ target _ g _ _
    have hwrite : s.keeps { t with lc := t.lc.write c.copy.seq c.copy.k tool target g o } :=
      { h with marks := fun _ => List.length_take_le .. }
    dsimp only
    split
    · exact stock_keeps hwrite (by simp) (by simp)
    all_goals exact hwrite
  · exact h

/-! ### Evaluations (R12 to R14, R20) -/

theorem driveLines_keeps (h : s.keeps t) : s.keeps (driveLines t) := by
  unfold driveLines
  split
  · split
    · exact h
    · split <;> exact h
  · exact h

theorem craneEvaluates_keeps (h : s.keeps t) : s.keeps (craneEvaluates t) := driveLines_keeps h

/-- A table of the same stations may take the place of the one before. -/
theorem peers_keeps {p : PeerTable} (h : s.keeps t) (hp : p.stations = t.pt.stations) : s.keeps { t with pt := p } :=
  { h with
    table := fun hs => by
      change p.stations.length = 48
      rw [hp]
      exact h.table hs
    peers := fun hs => by
      change stationsSound t.cfg.params.station p.stations
      rw [hp]
      exact h.peers hs }

@[simp] theorem evaluateEntry_station (u : State) (e : PeerEntry) : (u.evaluateEntry e).station = e.station := by
  unfold State.evaluateEntry
  split <;> rfl

/-- Changing an entry and not its station leaves the stations. -/
theorem modifyAt_stations (p : PeerTable) (n : Nat) {f : PeerEntry → PeerEntry} (hf : ∀ e, (f e).station = e.station) :
    ({ p with entries := modifyAt p.entries n f } : PeerTable).stations = p.stations := by
  apply List.ext_getElem?
  intro m
  simp only [PeerTable.stations, modifyAt, List.getElem?_map, List.getElem?_modify]
  split <;> simp [Function.comp_def, hf]

theorem evaluateAll_keeps (h : s.keeps t) : s.keeps (evaluateAll t) := by
  unfold evaluateAll
  split
  · have hsame : ({ t.pt with entries := t.evaluated } : PeerTable).stations = t.pt.stations := by
      simp [PeerTable.stations, State.evaluated, Function.comp_def]
    exact (peers_keeps h hsame :)
  · exact h

theorem evaluateOne_keeps (n : Nat) (h : s.keeps t) : s.keeps (evaluateOne n t) := by
  unfold evaluateOne
  split
  · exact (peers_keeps h (modifyAt_stations t.pt n (evaluateEntry_station t)) :)
  · exact h

/-! ### Results handed on, and breaks (R83, R89, R90) -/

theorem announce_keeps (a : Bool) (h : s.keeps t) : s.keeps (announce a t) := by
  unfold announce
  exact ite_keeps (callUrgent_keeps h) h

theorem noteResult_keeps (h : s.keeps t) : s.keeps (noteResult t) := by
  rcases noteResult_cases t with ⟨-, he⟩ | ⟨-, he⟩ <;> rw [he] <;> exact h

theorem breakCopy_keeps (cause : BreakCause) (h : s.keeps t) : s.keeps (breakCopy cause t) := by
  unfold breakCopy
  split
  · exact noteResult_keeps (evaluateAll_keeps (announce_keeps _ (logMark_keeps _ _ (raise_keeps _ h))))
  · exact h

theorem handOn_keeps (h : s.keeps t) : s.keeps (handOn t) := by
  unfold handOn
  dsimp only
  split
  · exact breakCopy_keeps _ (noteResult_keeps h)
  · exact noteResult_keeps h

theorem windowChanged_keeps (h : s.keeps t) : s.keeps (windowChanged t) :=
  ite_keeps (handOn_keeps (evaluateAll_keeps h)) h

/-! ### The segment queue (R67 to R74) -/

theorem lowWater_keeps (h : s.keeps t) : s.keeps (lowWater t) := ite_keeps (raise_keeps _ h) h

theorem consumeHead_keeps (h : s.keeps t) : s.keeps (consumeHead t) := by
  unfold consumeHead
  split
  · exact h
  · exact lowWater_keeps h

theorem discardHead_keeps (h : s.keeps t) : s.keeps (discardHead t) := by
  unfold discardHead
  split
  · exact h
  · exact lowWater_keeps h

theorem discardAll_keeps (h : s.keeps t) : s.keeps (discardAll t) := lowWater_keeps h

theorem formHead_keeps (h : s.keeps t) : s.keeps (formHead t) := by
  unfold formHead
  split
  · split
    · exact consumeHead_keeps h
    · exact h
    · exact h
  · exact h

theorem queueCompletes_keeps (h : s.keeps t) : s.keeps (queueCompletes t).1 := by
  unfold queueCompletes
  split
  · exact h
  · split
    · dsimp only
      split
      · exact h
      · exact formHead_keeps (discardHead_keeps h)
    · exact formHead_keeps (consumeHead_keeps h)

/-! ### Changes of station mode and faults (R72, R92, R99, R171) -/

theorem queueLeavesRun_keeps (h : s.keeps t) : s.keeps (queueLeavesRun t) := by
  unfold queueLeavesRun
  exact ite_keeps (windowChanged_keeps (discardAll_keeps h)) (discardAll_keeps h)

theorem changeMode_keeps (m : Mode) (h : s.keeps t) : s.keeps (changeMode m t) := by
  have hraise : s.keeps (raise (.modeChanged t.sp.mode m) { t with sp := { t.sp with mode := m } }) := raise_keeps _ h
  have hdrive := driveLines_keeps (ite_keeps (p := t.sp.mode = .offline) (callUrgent_keeps hraise) hraise)
  exact ite_keeps (announce_keeps _ (ite_keeps (queueLeavesRun_keeps hdrive) hdrive)) hdrive

theorem endStop_keeps (h : s.keeps t) : s.keeps (endStop t) := ite_keeps (changeMode_keeps _ h) h

theorem enterFaulted_keeps (f : ReleaseFault) (a : Bool) (h : s.keeps t) : s.keeps (enterFaulted f a t) :=
  endStop_keeps (windowChanged_keeps (announce_keeps _ (raise_keeps _ h)))

/-! ### Wear, release and completion (R84 to R87, R95) -/

theorem addArc_keeps (ms : Nat) (h : s.keeps t) : s.keeps (addArc ms t) := ite_keeps (raise_keeps _ h) h

/-- A pierce is released only below the pierce limit (R80, condition 7). -/
theorem pierces_lt_of_mayRelease {c : SegContent} {again : Bool} (h : t.mayRelease c again = true)
    (hpierce : c.pierceBearing again = true) : t.rc.pierces < t.cfg.params.pierceLimit := by
  cases c with
  | cut current pierce window budget part =>
    have harc : (SegContent.cut current pierce window budget part).isArc = true := by
      by_cases hc : current ≤ 130 <;> simp [SegContent.isArc, SegContent.fume, hc]
    simp only [State.mayRelease, harc, hpierce, Bool.not_true, Bool.false_or, Bool.and_eq_true, decide_eq_true_eq] at h
    obtain ⟨-, -, -, hlt⟩ := h
    exact hlt
  | _ => cases hpierce

theorem startCopy_keeps {c : Copy} {again : Bool} (legend : Option Legend) (h : s.keeps t)
    (hmay : t.mayRelease c.content again = true) : s.keeps (startCopy c again legend t) := by
  have hcount : t.rc.pierces ≤ t.cfg.params.pierceLimit →
      t.rc.pierces + (if c.content.pierceBearing again then 1 else 0) ≤ t.cfg.params.pierceLimit := fun hw => by
    split
    · exact pierces_lt_of_mayRelease hmay ‹_›
    · exact hw
  have hgo : s.keeps (raise (goNotice c again legend) { t with
      lu := { t.lu with arcPermit := c.content.isArc }
      rc := { t.rc with
        release := .inFlight
        head := if again then t.rc.head else none
        current := some (releasedCopy t.rc.current c again legend)
        pierces := t.rc.pierces + (if c.content.pierceBearing again then 1 else 0)
        flightTimer := t.timer (flightTime t.cfg.params c.content again) } }) :=
    raise_keeps _ { h with wear := fun hs => hcount (h.wear hs) }
  exact windowChanged_keeps (announce_keeps _ (ite_keeps (raise_keeps _ hgo) hgo))

theorem afterCompletion_keeps (overrun : Option (Seq × Nat)) (a : Bool) (h : s.keeps t) :
    s.keeps (afterCompletion overrun a t) := by
  unfold afterCompletion
  split
  · exact enterFaulted_keeps _ _ h
  · exact endStop_keeps (windowChanged_keeps (announce_keeps _ h))

theorem releaseNest_keeps (c : Copy) (h : s.keeps t) : s.keeps (releaseNest c t) :=
  afterCompletion_keeps _ _ (queueCompletes_keeps (stockEffect_keeps _ (raise_keeps _ h)))

theorem completeCurrent_keeps (c : Current) (ms : Nat) (h : s.keeps t) : s.keeps (completeCurrent c ms t) := by
  have harc : s.keeps (if c.copy.content.isArc = true then addArc ms { t with
      lu := { t.lu with arcPermit := false }
      rc := { t.rc with flightTimer := none, haltTimer := none } }
    else { t with
      lu := { t.lu with arcPermit := false }
      rc := { t.rc with flightTimer := none, haltTimer := none } }) := ite_keeps (addArc_keeps ms h) h
  have hlog := logMark_keeps c .done harc
  unfold completeCurrent
  dsimp only
  split
  · exact afterCompletion_keeps _ _ hlog
  · exact afterCompletion_keeps _ _ (queueCompletes_keeps hlog)

/-! ### Judgement (R83) -/

theorem judgeOnce_keeps (h : s.keeps t) : s.keeps (judgeOnce t).1 := by
  unfold judgeOnce
  split
  · split
    · split
      · split
        · exact enterFaulted_keeps _ _ h
        · split
          · exact releaseNest_keeps _ h
          · exact startCopy_keeps _ h ‹_›
      · exact h
    · split
      · rename_i hmay
        exact startCopy_keeps _ h hmay.2
      · exact h
    · exact h
  · exact h

theorem settleFor_keeps (n : Nat) (h : s.keeps t) : s.keeps (settleFor n t) := by
  induction n generalizing t with
  | zero => exact h
  | succ n ih =>
    have hj := judgeOnce_keeps h
    unfold settleFor
    split
    · exact ih (by simpa [*] using hj)
    · simpa [*] using hj

theorem settle_keeps (h : s.keeps t) : s.keeps (settle t) := settleFor_keeps _ h

theorem rcSettles_keeps (before : State) (h : s.keeps t) : s.keeps (rcSettles before t) :=
  ite_keeps (settle_keeps (windowChanged_keeps (announce_keeps _ h))) (announce_keeps _ h)

end

end Sys2Proof.Machine
end

section
/-! PROOF. What the move unit keeps of the sizes, the wear and the peer table (R152 to R164). -/

namespace Sys2Proof.Machine

section
variable {s t : State}

/-! ### Telegrams offered (R42, R154) -/

theorem sendMove_keeps (dest : Nat) (m : Message) (h : s.keeps t) : s.keeps (sendMove dest m t).1 := by
  have ho := offer_keeps dest m h
  unfold sendMove
  dsimp only
  split <;> exact ho

theorem sendRevoke_keeps (dest : Nat) (tag : Byte) (h : s.keeps t) : s.keeps (sendRevoke dest tag t).1 := by
  have ho := sendMove_keeps dest (.moveRevoke tag) h
  unfold sendRevoke
  dsimp only
  split <;> exact ho

/-! ### The requester's move list (R152 to R159) -/

theorem putMove_keeps (n : Nat) (e : MoveEntry) (h : s.keeps t) : s.keeps (putMove n e t) :=
  { h with moves := fun hs => (List.length_set ..).trans (h.moves hs) }

theorem changeMove_keeps (n : Nat) (old e : MoveEntry) (taker : Option Nat) (h : s.keeps t) :
    s.keeps (changeMove n old e taker t) :=
  ite_keeps (putMove_keeps n e h) (raise_keeps _ (putMove_keeps n e h))

theorem endMove_keeps (n : Nat) (e : MoveEntry) (st : MoveStanding) (reason : Option MoveReason) (taker : Option Nat)
    (h : s.keeps t) : s.keeps (endMove n e st reason taker t) :=
  changeMove_keeps _ _ _ _ h

theorem makeCall_keeps (n : Nat) (e : MoveEntry) (h : s.keeps t) : s.keeps (makeCall n e t) :=
  sendMove_keeps _ _ (putMove_keeps n _ h)

theorem actOnBids_keeps (n : Nat) (e : MoveEntry) (bids : List Bid) (h : s.keeps t) :
    s.keeps (actOnBids n e bids t) := by
  induction bids generalizing t with
  | nil => exact ite_keeps (makeCall_keeps n e h) (endMove_keeps _ _ _ _ _ h)
  | cons b rest ih =>
    have ho := sendMove_keeps b.crane (.moveAward e.tag e.info) h
    exact ite_keeps (ih ho) (putMove_keeps n _ ho)

theorem passDown_keeps (n : Nat) (e : MoveEntry) (h : s.keeps t) : s.keeps (passDown n e t) :=
  actOnBids_keeps n e e.bids h

theorem reopenMove_keeps (n : Nat) (e : MoveEntry) (h : s.keeps t) : s.keeps (reopenMove n e t) :=
  ite_keeps (endMove_keeps _ _ _ _ _ h) (makeCall_keeps _ _ (changeMove_keeps _ _ _ _ h))

theorem startedWith_keeps (n : Nat) (e : MoveEntry) (crane : Nat) (h : s.keeps t) :
    s.keeps (startedWith n e crane t) := by
  unfold startedWith
  dsimp only
  split
  · exact ite_keeps (sendRevoke_keeps _ _ (changeMove_keeps _ _ _ _ h)) (changeMove_keeps _ _ _ _ h)
  · exact changeMove_keeps _ _ _ _ h

theorem loseCraneAt_keeps (station n : Nat) (h : s.keeps t) : s.keeps (loseCraneAt station n t) := by
  unfold loseCraneAt
  split
  · exact h
  · split
    · exact ite_keeps (reopenMove_keeps _ _ (sendRevoke_keeps _ _ h)) h
    · exact ite_keeps (passDown_keeps _ _ (sendRevoke_keeps _ _ h)) (putMove_keeps _ _ h)
    all_goals exact h

theorem foldl_keeps {α : Type} {f : State → α → State} (hf : ∀ {u : State} (a : α), s.keeps u → s.keeps (f u a))
    (l : List α) (h : s.keeps t) : s.keeps (l.foldl f t) := by
  induction l generalizing t with
  | nil => exact h
  | cons a l ih => exact ih (hf a h)

theorem loseCrane_keeps (station : Nat) (h : s.keeps t) : s.keeps (loseCrane station t) :=
  ite_keeps h (foldl_keeps (fun n hu => loseCraneAt_keeps station n hu) _ h)

/-! ### The crane's move queue (R160 to R164) -/

theorem startQueued_keeps (i : Nat) (h : s.keeps t) : s.keeps (startQueued i t) := by
  unfold startQueued
  split
  · rename_i m hm
    have hi : i < t.mu.queue.length := (List.getElem?_eq_some_iff.1 hm).1
    refine sendMove_keeps _ _ (setMoveQueue_keeps h fun hq => ?_)
    rw [List.length_cons, List.length_eraseIdx_of_lt hi]
    omega
  · exact h

theorem acceptedLoad_keeps (id : StockId) (h : s.keeps t) : s.keeps (acceptedLoad id t) := by
  unfold acceptedLoad
  dsimp only
  split
  · exact ite_keeps (raise_keeps _ h) (startQueued_keeps _ h)
  · exact raise_keeps _ h

theorem clearRises_keeps (h : s.keeps t) : s.keeps (clearRises t) := by
  unfold clearRises
  split
  · exact ite_keeps (startQueued_keeps _ h) h
  · exact h

theorem completeLeave_keeps (h : s.keeps t) : s.keeps (completeLeave t) := ite_keeps (changeMode_keeps _ h) h

theorem finishMove_keeps (carried : Bool) (taker : Option Nat) (h : s.keeps t) :
    s.keeps (finishMove carried taker t) := by
  unfold finishMove
  split
  · exact h
  · rename_i m rest hq
    refine completeLeave_keeps (setMoveQueue_keeps (sendMove_keeps _ _ h) fun hlen => ?_)
    simp only [sendMove_frame, hq, List.length_cons] at hlen
    omega

theorem recordLeaves_keeps (id : StockId) (carried : Bool) (taker : Option Nat) (h : s.keeps t) :
    s.keeps (recordLeaves id carried taker t) := by
  unfold recordLeaves
  split
  · exact ite_keeps (finishMove_keeps _ _ h) h
  · exact h

theorem filterQueue_keeps (p : QueuedMove → Bool) (h : s.keeps t) :
    s.keeps (setMoveQueue (t.mu.queue.filter p) t) :=
  setMoveQueue_keeps h fun hq => (List.length_filter_le ..).trans hq

theorem returnMoves_keeps (ms : List QueuedMove) (h : s.keeps t) : s.keeps (returnMoves ms t) := by
  induction ms generalizing t with
  | nil => exact h
  | cons m rest ih =>
    have hsent := sendMove_keeps m.requester (.moveReturn m.tag) h
    exact ih (filterQueue_keeps _ hsent)

theorem craneLeaves_keeps (h : s.keeps t) : s.keeps (craneLeaves t).1 := by
  have hreturn := returnMoves_keeps (t.mu.queue.filter (fun m => !m.started)) h
  unfold craneLeaves
  dsimp only
  split
  · exact hreturn
  · exact changeMode_keeps _ hreturn

/-! ### Move telegrams (R154 to R163) -/

theorem takeCall_keeps (tag : Byte) (call : Nat) (m : MoveInfo) (source : Nat) (h : s.keeps t) :
    s.keeps (takeCall tag call m source t) :=
  ite_keeps h (ite_keeps (sendMove_keeps _ _ h) h)

theorem insertQueued_length (m : QueuedMove) (q : List QueuedMove) : (insertQueued m q).length = q.length + 1 := by
  induction q with
  | nil => rfl
  | cons x q ih =>
    unfold insertQueued
    split
    · rfl
    · simp [ih]

/-- An award joins a queue with room for it (R160). -/
theorem joinQueue_keeps (tag : Byte) (m : MoveInfo) (source : Nat) (h : s.keeps t) (hmay : t.mayTake = true) :
    s.keeps (joinQueue tag m source t) := by
  refine setMoveQueue_keeps h fun _ => ?_
  rw [insertQueued_length]
  simp only [State.mayTake, Bool.and_eq_true, decide_eq_true_eq] at hmay
  exact hmay.2

theorem takeAward_keeps (tag : Byte) (m : MoveInfo) (source : Nat) (h : s.keeps t) :
    s.keeps (takeAward tag m source t) := by
  unfold takeAward
  split
  · exact h
  · split
    · exact sendMove_keeps _ _ h
    · split
      · exact sendMove_keeps _ _ (joinQueue_keeps _ _ _ h ‹_›)
      · exact sendMove_keeps _ _ h

theorem takeRevoke_keeps (tag : Byte) (source : Nat) (h : s.keeps t) : s.keeps (takeRevoke tag source t) :=
  ite_keeps h (ite_keeps (sendMove_keeps _ _ h) (sendMove_keeps _ _ (filterQueue_keeps _ h)))

theorem takeMoveBid_keeps (tag : Byte) (call bid source : Nat) (h : s.keeps t) :
    s.keeps (takeMoveBid tag call bid source t) := by
  unfold takeMoveBid
  split
  · exact ite_keeps (ite_keeps (putMove_keeps _ _ h) (putMove_keeps _ _ h)) h
  · exact h

theorem takeAwardReply_keeps (tag : Byte) (taken : Bool) (source : Nat) (h : s.keeps t) :
    s.keeps (takeAwardReply tag taken source t) := by
  have hrevoke := sendRevoke_keeps source tag h
  unfold takeAwardReply
  split
  · exact h
  · split
    · exact ite_keeps (ite_keeps (changeMove_keeps _ _ _ _ h) (passDown_keeps _ _ h)) (ite_keeps hrevoke h)
    · exact ite_keeps hrevoke h

theorem takeStarted_keeps (tag : Byte) (source : Nat) (h : s.keeps t) : s.keeps (takeStarted tag source t) := by
  unfold takeStarted
  split
  · exact ite_keeps h (startedWith_keeps _ _ _ h)
  · exact h

theorem takeDone_keeps (tag : Byte) (carried : Bool) (taker : Option Nat) (source : Nat) (h : s.keeps t) :
    s.keeps (takeDone tag carried taker source t) := by
  unfold takeDone
  split
  · split
    · exact h
    · dsimp only
      split
      · exact ite_keeps (endMove_keeps _ _ _ _ _ (startedWith_keeps _ _ _ h))
          (endMove_keeps _ _ _ _ _ (startedWith_keeps _ _ _ h))
      · exact startedWith_keeps _ _ _ h
  · exact h

theorem takeReturn_keeps (tag : Byte) (source : Nat) (h : s.keeps t) : s.keeps (takeReturn tag source t) := by
  unfold takeReturn
  split
  · exact ite_keeps (reopenMove_keeps _ _ h) h
  · exact h

theorem takeRevokeReply_keeps (tag : Byte) (late : Bool) (source : Nat) (h : s.keeps t) :
    s.keeps (takeRevokeReply tag late source t) := by
  unfold takeRevokeReply
  split
  · exact takeStarted_keeps _ _ h
  · split
    · exact ite_keeps (endMove_keeps _ _ _ _ _ h) h
    · exact h

/-! ### Move requests and timers (R153, R156, R158, R162) -/

theorem cancelUnanswered_keeps (n : Nat) (e : MoveEntry) (h : s.keeps t) : s.keeps (cancelUnanswered n e t) :=
  raise_keeps _ (putMove_keeps _ _ h)

theorem cancelAwarded_keeps (n : Nat) (e : MoveEntry) (crane : Nat) (h : s.keeps t) :
    s.keeps (cancelAwarded n e crane t) := by
  have hrevoke := sendRevoke_keeps crane e.tag h
  exact ite_keeps (cancelUnanswered_keeps _ _ hrevoke) (putMove_keeps _ _ hrevoke)

theorem cancelLive_keeps (n : Nat) (e : MoveEntry) (h : s.keeps t) : s.keeps (cancelLive n e t) := by
  unfold cancelLive
  split
  · exact ite_keeps (endMove_keeps _ _ _ _ _ (sendRevoke_keeps _ _ h)) (endMove_keeps _ _ _ _ _ h)
  · exact ite_keeps h (cancelAwarded_keeps _ _ _ h)
  · exact endMove_keeps _ _ _ _ _ h
  · exact h
  · exact h

end

end Sys2Proof.Machine
end

section
/-! PROOF. What the peer table keeps of the sizes, the wear and its stations (R22, R26 to R35). -/

namespace Sys2Proof.Machine

/-! ### Positions written (R22) -/

/-- The position found by a test holds an entry that meets it. -/
theorem findPos_some {α : Type} {p : α → Bool} {l : List (Option α)} {n : Nat} {e : α} (h : findPos p l = some n)
    (he : entryAt l n = some e) : p e = true := by
  obtain ⟨hn, hany, -⟩ := List.findIdx?_eq_some_iff_getElem.1 h
  obtain ⟨_, hl⟩ := List.getElem?_eq_some_iff.1 (entryAt_eq_some.1 he)
  simpa [hl] using hany

/-- A test that finds no position is met by no entry. -/
theorem findPos_none {α : Type} {p : α → Bool} {l : List (Option α)} (h : findPos p l = none) {n : Nat} {e : α}
    (he : entryAt l n = some e) : p e = false := by
  have hall := List.findIdx?_eq_none_iff.1 h
  simpa using hall (some e) (List.mem_of_getElem? (entryAt_eq_some.1 he))

theorem find_station {p : PeerTable} {k n : Nat} {e : PeerEntry} (h : p.find k = some n)
    (he : entryAt p.entries n = some e) : e.station = k := by
  simpa using findPos_some h he

theorem find_none {p : PeerTable} {k n : Nat} {e : PeerEntry} (h : p.find k = none)
    (he : entryAt p.entries n = some e) : e.station ≠ k := by
  simpa using findPos_none h he

/-- An entry of a table with one position written is the one written there, or was there before. -/
theorem entryAt_set_cases {α : Type} {l : List (Option α)} {n m : Nat} {o : Option α} {k : α}
    (h : entryAt (l.set n o) m = some k) : (m = n ∧ o = some k) ∨ (m ≠ n ∧ entryAt l m = some k) := by
  by_cases hm : m = n
  · subst hm
    exact .inl ⟨rfl, eq_of_entryAt_set h⟩
  · rw [entryAt_eq_some, List.getElem?_set_ne (Ne.symm hm), ← entryAt_eq_some] at h
    exact .inr ⟨hm, h⟩

theorem stationsSound_set {own n : Nat} {l : List (Option Nat)} {o : Option Nat} (h : stationsSound own l)
    (ho : ∀ k, o = some k → (k ≠ own ∧ inRange 1 62 k = true) ∧ ∀ m, m ≠ n → entryAt l m ≠ some k) :
    stationsSound own (l.set n o) := by
  obtain ⟨hone, hrange⟩ := h
  constructor
  · intro i j k hi hj
    rcases entryAt_set_cases hi with ⟨hin, hk⟩ | ⟨hin, hi'⟩ <;>
      rcases entryAt_set_cases hj with ⟨hjn, hk'⟩ | ⟨hjn, hj'⟩
    · exact hin.trans hjn.symm
    · exact absurd hj' ((ho k hk).2 j hjn)
    · exact absurd hi' ((ho k hk').2 i hin)
    · exact hone i j k hi' hj'
  · intro i k hi
    rcases entryAt_set_cases hi with ⟨-, hk⟩ | ⟨-, hi⟩
    · exact (ho k hk).1
    · exact hrange i k hi

theorem putPeer_stations (n : Nat) (o : Option PeerEntry) (s : State) :
    (putPeer n o s).pt.stations = s.pt.stations.set n (o.map PeerEntry.station) := by
  simp [PeerTable.stations, putPeer, List.map_set]

section
variable {s t : State}

/-- A position may be written that gives no station twice and none out of range. -/
theorem putPeer_keeps {n : Nat} {o : Option PeerEntry} (h : s.keeps t)
    (ho : stationsSound t.cfg.params.station t.pt.stations → ∀ k, o.map PeerEntry.station = some k →
      (k ≠ t.cfg.params.station ∧ inRange 1 62 k = true) ∧ ∀ m, m ≠ n → entryAt t.pt.stations m ≠ some k) :
    s.keeps (putPeer n o t) :=
  { h with
    table := fun hs => by
      change (putPeer n o t).pt.stations.length = 48
      rw [putPeer_stations, List.length_set]
      exact h.table hs
    peers := fun hs => by
      change stationsSound t.cfg.params.station (putPeer n o t).pt.stations
      rw [putPeer_stations]
      exact stationsSound_set (h.peers hs) (ho (h.peers hs)) }

/-- An entry may leave its position. -/
theorem clearPeer_keeps (n : Nat) (h : s.keeps t) : s.keeps (putPeer n none t) :=
  putPeer_keeps h fun _ _ hk => by cases hk

/-- A position's entry may be replaced by one of the same station. -/
theorem rewritePeer_keeps {n : Nat} {old e : PeerEntry} (h : s.keeps t) (hold : entryAt t.pt.entries n = some old)
    (he : e.station = old.station) : s.keeps (putPeer n (some e) t) := by
  have hat : entryAt t.pt.stations n = some old.station := entryAt_stations.2 ⟨old, hold, rfl⟩
  refine putPeer_keeps h fun hsound k hk => ?_
  cases hk
  rw [he]
  exact ⟨hsound.2 n _ hat, fun m hm hmk => hm (hsound.1 m n _ hmk hat)⟩

/-- The entry of a station that the table does not hold may enter it. -/
theorem newPeer_keeps {n : Nat} {e : PeerEntry} (h : s.keeps t) (hown : e.station ≠ t.cfg.params.station)
    (hrange : inRange 1 62 e.station = true) (hnew : ∀ m, m ≠ n → entryAt t.pt.stations m ≠ some e.station) :
    s.keeps (putPeer n (some e) t) :=
  putPeer_keeps h fun _ k hk => by
    cases hk
    exact ⟨⟨hown, hrange⟩, hnew⟩

/-! ### Handing on (R35) -/

theorem envPeer_keeps (n : Nat) (roles : List Role) (h : s.keeps t) : s.keeps (envPeer n roles t) := by
  unfold envPeer
  split
  · exact ite_keeps (settle_keeps (handOn_keeps (evaluateOne_keeps n h))) h
  · exact ite_keeps (craneEvaluates_keeps h) h
  · exact h

theorem envStep_keeps (h : s.keeps t) : s.keeps (envStep t) := by
  unfold envStep
  split
  · exact settle_keeps (windowChanged_keeps h)
  · exact craneEvaluates_keeps h
  · exact h

theorem unordered_keeps {f g : State → State} (hf : ∀ {u : State}, s.keeps u → s.keeps (f u))
    (hg : ∀ {u : State}, s.keeps u → s.keeps (g u)) (h : s.keeps t) : s.keeps (unordered f g t) :=
  ite_keeps (hg (hf h)) (hf (hg h))

theorem dropReservations_keeps (station : Nat) (h : s.keeps t) : s.keeps (dropReservations station t) := by
  unfold dropReservations
  exact ite_keeps h (raise_keeps _ (stock_keeps h (by simp) id))

theorem stationLost_keeps (station : Nat) (h : s.keeps t) : s.keeps (stationLost station t) := by
  unfold stationLost
  split
  · exact loseCrane_keeps station h
  · exact h
  · exact unordered_keeps (dropReservations_keeps station) (loseCrane_keeps station) h

theorem removePeer_keeps {n : Nat} {e : PeerEntry} (h : s.keeps t) (he : entryAt t.pt.entries n = some e) :
    s.keeps (removePeer n e t) :=
  envPeer_keeps _ _ (clearPeer_keeps n (stationLost_keeps _ (rewritePeer_keeps h he rfl)))

/-! ### Storing a beacon (R26 to R30) -/

/-- The stations do not depend on the results that the envelope unit keeps in the table. -/
theorem stations_congr {p q : PeerTable} (h : p.bare = q.bare) : p.stations = q.stations := by
  have hbare : ∀ r : PeerTable, r.stations = r.bare.stations := fun r => by
    simp [PeerTable.stations, PeerTable.bare, PeerTable.told, Function.comp_def, PeerEntry.told]
  rw [hbare p, hbare q, h]

theorem removePeer_stations (n : Nat) (e : PeerEntry) (u : State) :
    (removePeer n e u).pt.stations = u.pt.stations.set n none :=
  (stations_congr (removePeer_bare n e u)).trans (putPeer_stations n none u)

theorem evictee_entry {p : PeerTable} {now : Count} {n : Nat} {e : PeerEntry} (h : p.evictee now = some (n, e)) :
    entryAt p.entries n = some e := by
  have hbest (l : List (Nat × PeerEntry)) (best : Option (Nat × PeerEntry))
      (hl : ∀ c ∈ l, entryAt p.entries c.1 = some c.2) (hb : ∀ c, best = some c → entryAt p.entries c.1 = some c.2) :
      ∀ c, l.foldl (evictFirst now) best = some c → entryAt p.entries c.1 = some c.2 := by
    induction l generalizing best with
    | nil => exact hb
    | cons a l ih =>
      refine ih _ (fun c hc => hl c (List.mem_cons_of_mem _ hc)) fun c hc => ?_
      have ha := hl a List.mem_cons_self
      cases best with
      | none => cases hc; exact ha
      | some b =>
        rcases evictFirst_some now b a with ⟨-, he⟩ | ⟨-, he⟩ <;> rw [he] at hc
        · cases hc; exact ha
        · exact hb c hc
  refine hbest _ none (fun c hc => ?_) (by simp) _ h
  obtain ⟨m, -, hm⟩ := List.mem_filterMap.1 hc
  obtain ⟨x, hx, hp⟩ := Option.bind_eq_some_iff.1 hm
  split at hp <;> cases hp
  exact hx

theorem storeBeacon_keeps {n : Nat} {e : PeerEntry} (h : s.keeps (putPeer n (some e) t)) :
    s.keeps (storeBeacon n e t) :=
  envPeer_keeps _ _ h

/-- A new station's beacon takes a free position, or the one that an eviction frees (R27, R28). -/
theorem createPeer_keeps {e : PeerEntry} (h : s.keeps t) (hown : e.station ≠ t.cfg.params.station)
    (hrange : inRange 1 62 e.station = true) (hnew : ∀ m, entryAt t.pt.stations m ≠ some e.station) :
    s.keeps (createPeer e t) := by
  unfold createPeer
  split
  · exact storeBeacon_keeps (newPeer_keeps h hown hrange fun m _ => hnew m)
  · split
    · rename_i n old hold
      have hremove : s.keeps (removePeer n old t) := removePeer_keeps h (evictee_entry hold)
      refine storeBeacon_keeps (newPeer_keeps (t := countPeer _ _) hremove (by simpa using hown) hrange
        fun m hm hat => ?_)
      have hat' : entryAt (removePeer n old t).pt.stations m = some e.station := hat
      rw [removePeer_stations] at hat'
      rcases entryAt_set_cases hat' with ⟨hmn, -⟩ | ⟨-, hbefore⟩
      · exact hm hmn
      · exact hnew m hbefore
    · exact h

theorem changeRole_keeps {n : Nat} {old e : PeerEntry} (h : s.keeps (putPeer n (some e) t)) :
    s.keeps (changeRole n old e t) :=
  unordered_keeps (envPeer_keeps _ _) (raise_keeps _) h

theorem takeBeacon_keeps (role : Role) (source : Nat) (seq : Byte) (bs : List Byte) (h : s.keeps t) :
    s.keeps (takeBeacon role source seq bs t) := by
  unfold takeBeacon
  dsimp only
  split
  · exact h
  · rename_i hrange
    split
    · exact h
    · rename_i hown
      split
      · rename_i hfind
        refine createPeer_keeps h hown (not_not.1 hrange) fun m hm => ?_
        obtain ⟨e, he, hstation⟩ := entryAt_stations.1 hm
        exact find_none hfind he hstation
      · rename_i n hfind
        split
        · exact h
        · rename_i old hold
          have hstation : old.station = source := find_station hfind hold
          have hfresh : s.keeps (putPeer n
              (some (freshEntry t.cfg.params t.time role source seq bs old.pinned)) t) :=
            rewritePeer_keeps h hold hstation.symm
          exact ite_keeps (changeRole_keeps hfresh) (ite_keeps h (storeBeacon_keeps hfresh))

/-! ### Aging (R31 to R33) -/

theorem ageToStale_keeps (n : Nat) (h : s.keeps t) : s.keeps (ageToStale n t) := by
  unfold ageToStale
  split
  · rename_i e he
    exact ite_keeps (envPeer_keeps _ _ (rewritePeer_keeps h he rfl)) h
  · exact h

theorem ageToLost_keeps (n : Nat) (h : s.keeps t) : s.keeps (ageToLost n t) := by
  unfold ageToLost
  split
  · rename_i e he
    exact ite_keeps (ite_keeps
      (unordered_keeps (envPeer_keeps _ _) (stationLost_keeps _) (rewritePeer_keeps h he rfl))
      (removePeer_keeps h he)) h
  · exact h

theorem holdAge_station (now : Count) (e : PeerEntry) : (holdAge now e).station = e.station := by
  rw [holdAge_eq]

theorem agePeer_keeps (n : Nat) (h : s.keeps t) : s.keeps (agePeer t n) :=
  ageToLost_keeps n (ageToStale_keeps n (peers_keeps h (modifyAt_stations t.pt n (holdAge_station t.time))))

theorem agingStep_keeps (h : s.keeps t) : s.keeps (agingStep t) :=
  envStep_keeps (foldl_keeps (fun n hu => agePeer_keeps n hu) _ h)

end

end Sys2Proof.Machine
end

section
/-! PROOF. What the receive path, the custody handover, the stock search, the link's own events and the sensed lines keep
of the sizes, the wear and the peer table (R39 to R53, R97, R121 to R149, R172). -/

namespace Sys2Proof.Machine

section
variable {s t : State}

/-! ### The receive path (R39 to R41) -/

theorem receive_keeps {deliver : State → State} (kind : Byte) (length : Option Nat) (g : Telegram)
    (hd : ∀ {u : State}, s.keeps u → s.keeps (deliver u)) (h : s.keeps t) : s.keeps (receive kind length deliver g t) :=
  ite_keeps h (ite_keeps h (ite_keeps h (ite_keeps h (ite_keeps (duplicate_keeps h) (ite_keeps h
    (ite_keeps h (hd h)))))))

theorem receiveKind_keeps {deliver : State → State} (k : TelegramKind) (g : Telegram)
    (hd : ∀ {u : State}, s.keeps u → s.keeps (deliver u)) (h : s.keeps t) : s.keeps (receiveKind k deliver g t) :=
  receive_keeps _ _ g hd h

theorem takeMessage_keeps {ignore : State → State} {act : Message → State → State} (k : TelegramKind) (g : Telegram)
    (hi : s.keeps (ignore t)) (ha : ∀ m, s.keeps (act m t)) : s.keeps (takeMessage k g ignore act t) := by
  unfold takeMessage
  split
  · exact ha _
  · exact hi

theorem takeCustody_keeps {act : Message → State → State} (k : TelegramKind) (g : Telegram)
    (ha : ∀ m, s.keeps (act m t)) (h : s.keeps t) : s.keeps (takeCustody k g act t) :=
  ite_keeps (takeMessage_keeps k g h ha) h

/-! ### The custody handover (R121 to R132) -/

theorem offerRecord_keeps (n : Nat) (r : StockRecord) (taker : Nat) (h : s.keeps t) :
    s.keeps (offerRecord n r taker t).1 := by
  have ho := offer_keeps taker (.custodyOffer r.piece) h
  unfold offerRecord
  dsimp only
  split
  · exact ho
  · exact update_keeps n _ ho

theorem refuseCustody_keeps (giver : Nat) (i : StockId) (r : CustodyRefusal) (h : s.keeps t) :
    s.keeps (refuseCustody giver i r t) := by
  have ho := offer_keeps giver (.custodyRefuse i r) h
  exact ite_keeps ho ho

theorem sendAccept_keeps (giver : Nat) (i : StockId) (h : s.keeps t) : s.keeps (sendAccept giver i t) := by
  have ho := offer_keeps giver (.custodyAccept i) h
  exact ite_keeps ho ho

theorem sendRelease_keeps (taker : Nat) (i : StockId) (h : s.keeps t) : s.keeps (sendRelease taker i t) := by
  have ho := offer_keeps taker (.custodyRelease i) h
  exact ite_keeps ho ho

theorem acceptOffer_keeps (n : Nat) (o : HeldOffer) (loc : Location) (h : s.keeps t) :
    s.keeps (acceptOffer n o loc t) := by
  have hsent := sendAccept_keeps o.giver o.piece.id (setSlot_keeps n none (enter_keeps (acceptedRecord t o loc) h))
  exact ite_keeps (acceptedLoad_keeps _ hsent) hsent

theorem confirmOffer_keeps (n : Nat) (o : HeldOffer) (loc : Location) (h : s.keeps t) :
    s.keeps (confirmOffer n o loc t).1 := by
  unfold confirmOffer
  split
  · exact refuseCustody_keeps _ _ _ (setSlot_keeps n none h)
  · exact acceptOffer_keeps n o loc h

theorem confirmSlot_keeps (n : Nat) (h : s.keeps t) : s.keeps (confirmSlot n t) := by
  unfold confirmSlot
  split
  · exact confirmOffer_keeps _ _ _ h
  · exact h

theorem confirmHeld_keeps (h : s.keeps t) : s.keeps (confirmHeld t) :=
  ite_keeps (ite_keeps (confirmSlot_keeps 0 (confirmSlot_keeps 1 h)) (confirmSlot_keeps 1 (confirmSlot_keeps 0 h))) h

theorem takeOffer_keeps (p : Piece) (giver : Nat) (h : s.keeps t) : s.keeps (takeOffer p giver t) := by
  have hplace (n : Nat) : s.keeps (placeOffer n p giver t) := setSlot_keeps n _ h
  have hhold : s.keeps (holdOffer p giver t) := by
    unfold holdOffer
    split
    · exact ite_keeps (hplace _) (refuseCustody_keeps _ _ _ h)
    · split
      · exact refuseCustody_keeps _ _ _ h
      · exact ite_keeps (confirmSlot_keeps _ (raise_keeps _ (hplace _))) (raise_keeps _ (hplace _))
  unfold takeOffer
  split
  · exact h
  · split
    · exact refuseCustody_keeps _ _ _ h
    · exact hhold

theorem releaseRecord_keeps (n taker : Nat) (i : StockId) (h : s.keeps t) : s.keeps (releaseRecord n taker i t) := by
  have hsent := sendRelease_keeps taker i (raise_keeps (.handoverDone i taker .giver) (remove_keeps n h))
  exact ite_keeps (recordLeaves_keeps _ _ _ hsent) hsent

theorem takeAccept_keeps (i : StockId) (source : Nat) (h : s.keeps t) : s.keeps (takeAccept i source t) := by
  have hrefuse (r : CustodyRefusal) := refuseCustody_keeps source i r h
  unfold takeAccept
  split
  · split
    · exact ite_keeps (releaseRecord_keeps _ _ _ h) (hrefuse _)
    all_goals exact hrefuse _
  · exact hrefuse _

theorem failOffer_keeps (n : Nat) (r : StockRecord) (reason : HandoverReason) (h : s.keeps t) :
    s.keeps (failOffer n r reason t) :=
  raise_keeps _ (update_keeps n _ h)

theorem takeRelease_keeps (i : StockId) (source : Nat) (h : s.keeps t) : s.keeps (takeRelease i source t) := by
  unfold takeRelease
  split
  · exact ite_keeps (raise_keeps _ (update_keeps _ _ h)) h
  · exact h

theorem rejectRecord_keeps (n giver : Nat) (i : StockId) (reason : CustodyRefusal) (h : s.keeps t) :
    s.keeps (rejectRecord n giver i reason t) := by
  have hraise := raise_keeps (.handoverRejected i giver reason) (remove_keeps n h)
  exact ite_keeps (recordLeaves_keeps _ _ _ hraise) hraise

theorem takeRefusal_keeps (i : StockId) (reason : CustodyRefusal) (source : Nat) (h : s.keeps t) :
    s.keeps (takeRefusal i reason source t) := by
  unfold takeRefusal
  split
  · exact ite_keeps (failOffer_keeps _ _ _ h) (ite_keeps (rejectRecord_keeps _ _ _ _ h) h)
  · exact h

/-! ### The stock search (R140 to R149) -/

theorem takeQuery_keeps (number : Byte) (q : QueryFields) (source : Nat) (h : s.keeps t) :
    s.keeps (takeQuery number q source t) := by
  unfold takeQuery
  split
  · exact h
  · split
    · exact h
    · rename_i r _
      have ho := offer_keeps source (.stockCandidate number (candidateOf t.cfg.params.station r)) h
      exact ite_keeps ho ho

theorem reserveFor_keeps (i : StockId) (station : Option Nat) (h : s.keeps t) :
    s.keeps { t with st := t.st.reserveFor i station } := by
  cases hfind : t.st.find i with
  | none => simpa only [Stock.reserveFor, hfind] using h
  | some n => simpa only [Stock.reserveFor, hfind] using update_keeps n _ h

theorem takeReserve_keeps (number : Byte) (i : StockId) (source : Nat) (h : s.keeps t) :
    s.keeps (takeReserve number i source t) := by
  unfold takeReserve
  split
  · exact h
  · have hcount : s.keeps (countSearch (fun c => c.judged (reserveResult t i source).1 (reserveResult t i source).2) t) :=
      h
    have hset := ite_keeps (p := (reserveResult t i source).2 = true) (reserveFor_keeps i (some source) hcount) hcount
    have ho := offer_keeps source (.reserveReply number i (reserveResult t i source).1) hset
    exact ite_keeps ho ho

theorem takeUnreserve_keeps (i : StockId) (source : Nat) (h : s.keeps t) : s.keeps (takeUnreserve i source t) :=
  ite_keeps (reserveFor_keeps i none h) h

theorem takeCandidate_keeps (number : Byte) (c : Candidate) (h : s.keeps t) : s.keeps (takeCandidate number c t) :=
  ite_keeps h h

theorem tryReserve_keeps (cs : List Candidate) (h : s.keeps t) : s.keeps (tryReserve cs t) := by
  induction cs generalizing t with
  | nil => exact raise_keeps _ h
  | cons c rest ih =>
    have ho := offer_keeps c.rack (.reserve t.su.number c.id t.cfg.params.station) h
    exact ite_keeps (ih ho) ho

theorem sendUnreserve_keeps (rack : Nat) (i : StockId) (h : s.keeps t) : s.keeps (sendUnreserve rack i t) := by
  have ho := offer_keeps rack (.unreserve i) h
  exact ite_keeps ho ho

theorem winReservation_keeps (h : s.keeps t) : s.keeps (winReservation t) := by
  unfold winReservation
  split
  · exact raise_keeps _ h
  · exact h

theorem takeReserveReply_keeps (number : Byte) (i : StockId) (r : ReserveResult) (source : Nat) (h : s.keeps t) :
    s.keeps (takeReserveReply number i r source t) :=
  ite_keeps h (ite_keeps (ite_keeps (winReservation_keeps h) (tryReserve_keeps _ h))
    (ite_keeps (sendUnreserve_keeps _ _ h) h))

/-! ### The link's own events (R43 to R53) -/

theorem startAttempt_keeps (c : TxClass) (h : s.keeps t) : s.keeps (startAttempt c t) := by
  unfold startAttempt
  split
  · exact h
  · rename_i q rest hq
    split
    · exact ite_keeps (popFront_keeps c h) (setQueue_keeps (q := _ :: rest) c h fun hlen => by simpa [hq] using hlen)
    · exact h

theorem restoreLink_keeps (h : s.keeps t) : s.keeps (restoreLink t) :=
  settle_keeps (raise_keeps _ (callUrgent_keeps h))

theorem probeClean_keeps (h : s.keeps t) : s.keeps (probeClean t) := by
  unfold probeClean
  split
  · exact restoreLink_keeps h
  · exact restoreLink_keeps h
  · exact h
  · exact h

theorem collide_keeps {c : TxClass} {q : Queued} {rest : List Queued} (hq : t.flc.queueOf c = q :: rest)
    (h : s.keeps t) : s.keeps (collide c q rest t) := by
  have hback : s.keeps { t with flc := { t.flc.setQueue c ({ q with attempts := q.attempts + 1 } :: rest) with
      attempt := none
      collisionRun := t.flc.collisionRun + 1
      counts := { t.flc.counts with collisions := bump t.flc.counts.collisions } } } :=
    setQueue_keeps (q := _ :: rest) c h fun hlen => by simpa [hq] using hlen
  have hdrop := popFront_keeps c hback
  unfold collide
  dsimp only
  split
  · exact isolate_keeps _ hback
  · split
    · exact ite_keeps hdrop hback
    · exact ite_keeps (raise_keeps _ hdrop) hback

theorem spacingEnds_keeps (h : s.keeps t) : s.keeps (spacingEnds t) :=
  ite_keeps (ite_keeps (placeBeacon_keeps (t := withFlc _ t) rfl h) h) h

/-! ### The sensed lines (R97, R122, R126, R161, R166, R172) -/

theorem estopOn_keeps (h : s.keeps t) : s.keeps (estopOn t) := by
  unfold estopOn
  split
  · exact ite_keeps (breakCopy_keeps _ h) h
  · exact driveLines_keeps h
  · exact h

theorem estopOff_keeps (h : s.keeps t) : s.keeps (estopOff t) := by
  unfold estopOff
  split
  · exact settle_keeps h
  · exact driveLines_keeps h
  · exact h

theorem loadRises_keeps (h : s.keeps t) : s.keeps (loadRises t) :=
  ite_keeps (unordered_keeps confirmHeld_keeps (fun hu => ite_keeps hu (clearRises_keeps hu)) h) h

theorem offerFromHook_keeps (n : Nat) (r : StockRecord) (dest : Nat) (h : s.keeps t) :
    s.keeps (offerFromHook n r dest t) := by
  have ho := offerRecord_keeps n r dest h
  exact ite_keeps (ite_keeps (raise_keeps _ ho) ho) (raise_keeps _ h)

theorem loadFalls_keeps (h : s.keeps t) : s.keeps (loadFalls t) := by
  unfold loadFalls
  split
  · split
    · exact offerFromHook_keeps _ _ _ h
    · exact h
  · exact h

theorem senseEstop_keeps {act : State → State} (level : Bool) (ha : ∀ {u : State}, s.keeps u → s.keeps (act u))
    (h : s.keeps t) : s.keeps (senseEstop level act t) :=
  ite_keeps h (ite_keeps (ha (raise_keeps _ h)) h)

theorem senseLoad_keeps {act : State → State} (level : Bool) (ha : ∀ {u : State}, s.keeps u → s.keeps (act u))
    (h : s.keeps t) : s.keeps (senseLoad level act t) :=
  ite_keeps h (ite_keeps (ha h) h)

end

end Sys2Proof.Machine
end

section
/-! PROOF. What the owners of the requests keep of the sizes, the wear and the peer table (R60 to R66, R87 to R96, R118 to
R171). -/

namespace Sys2Proof.Machine

section
variable {s t : State}

/-- A refused request changes nothing, and one that is judged keeps what its owner keeps. -/
theorem judge_keeps {act : State → State × Answer} (checks : Option ResultCode) (ha : s.keeps (act t).1)
    (h : s.keeps t) : s.keeps (judge checks act t).1 := by
  unfold judge
  split
  · exact h
  · exact ha

/-- An answer that depends on a test keeps what each of the two keeps. -/
theorem ite_answer_keeps {p : Prop} [Decidable p] {a b : State × Answer} (ha : s.keeps a.1) (hb : s.keeps b.1) :
    s.keeps (if p then a else b).1 := by
  split <;> assumption

/-! ### The segment queue (R60 to R66) -/

theorem acceptRecord_keeps (r : SegRecord) (h : s.keeps t) : s.keeps (acceptRecord r t).1 :=
  rcSettles_keeps _ (formHead_keeps h)

theorem admitRecord_keeps (hd : SegHeader) (bs : List Byte) (h : s.keeps t) : s.keeps (admitRecord hd bs t).1 := by
  unfold admitRecord
  split
  · exact h
  · split
    · exact raise_keeps _ h
    · exact acceptRecord_keeps _ h

theorem takeSegment_keeps (bs : List Byte) (h : s.keeps t) : s.keeps (takeSegment bs t).1 := by
  have hheader : s.keeps (useHeader bs t) := ite_keeps h h
  unfold takeSegment
  split
  · exact h
  · dsimp only
    split
    · exact h
    · exact ite_answer_keeps hheader (admitRecord_keeps _ _ hheader)
    · exact admitRecord_keeps _ _ hheader

theorem takeFlush_keeps (h : s.keeps t) : s.keeps (takeFlush t) := by
  unfold takeFlush
  split
  case h_4 => exact endStop_keeps h
  all_goals exact h

theorem flushQueue_keeps (after : SegQueue → SegQueue) (h : s.keeps t) : s.keeps (flushQueue after t).1 := by
  have hdiscard : s.keeps { discardAll t with sq := after (discardAll t).sq } := discardAll_keeps h
  exact rcSettles_keeps _ (takeFlush_keeps hdiscard)

/-! ### The release controller (R87 to R96) -/

theorem takeDoneReport_keeps (seq : Seq) (k ms : Nat) (h : s.keeps t) : s.keeps (takeDoneReport seq k ms t).1 := by
  unfold takeDoneReport
  split
  · exact settle_keeps (completeCurrent_keeps _ _ h)
  · exact h

theorem takeAbort_keeps (seq : Seq) (k ms : Nat) (h : s.keeps t) : s.keeps (takeAbort seq k ms t).1 := by
  unfold takeAbort
  split
  · exact enterFaulted_keeps _ _ (logMark_keeps _ _ (ite_keeps (addArc_keeps _ h) h))
  · exact h

theorem takeHalt_keeps (seq : Seq) (k ms : Nat) (h : s.keeps t) : s.keeps (takeHalt seq k ms t).1 := by
  unfold takeHalt
  split
  · rename_i c _
    have harc := ite_keeps (p := c.copy.content.isArc = true) (addArc_keeps ms h) h
    exact settle_keeps harc
  · exact h

theorem discardFaulted_keeps (h : s.keeps t) : s.keeps (discardFaulted t) :=
  ite_keeps (formHead_keeps (discardHead_keeps h)) h

theorem takeContinue_keeps (h : s.keeps t) : s.keeps (takeContinue t).1 := by
  have hdiscard := discardFaulted_keeps h
  exact ite_answer_keeps h (rcSettles_keeps _ hdiscard)

/-- The wear given is held at the pierce limit (R95, R96). -/
theorem takeWearRestore_keeps (pierces ms : Nat) (h : s.keeps t) : s.keeps (takeWearRestore pierces ms t).1 := by
  have hset : s.keeps { t with rc := { t.rc with
      pierces := min pierces t.cfg.params.pierceLimit
      wearKnown := true } } := { h with wear := fun _ => Nat.min_le_right _ _ }
  have hraise := ite_keeps (p := t.cfg.params.pierceLimit ≤ pierces) (raise_keeps (.wearLimit .pierce) hset) hset
  exact ite_answer_keeps h (settle_keeps (addArc_keeps _ hraise))

theorem takeConsumable_keeps (h : s.keeps t) : s.keeps (takeConsumable t).1 := by
  have hclear : s.keeps { t with rc := { t.rc with pierces := 0, arcMs := 0, wearKnown := true } } :=
    { h with wear := fun _ => Nat.zero_le _ }
  exact ite_answer_keeps h (settle_keeps hclear)

/-! ### The stock table (R118 to R138) -/

theorem takeDeclare_keeps (suits : Bool) (record : List Byte) (location : Option LocationKind) (slot : Nat)
    (h : s.keeps t) : s.keeps (takeDeclare suits record location slot t).1 := by
  unfold takeDeclare
  split
  · exact h
  · split
    · split
      · exact h
      · split
        · exact h
        · exact judge_keeps _ (enter_keeps _ h) h
    · exact h

theorem takeHandOff_keeps (suits : Bool) (i : StockId) (taker : Nat) (h : s.keeps t) :
    s.keeps (takeHandOff suits i taker t).1 := by
  unfold takeHandOff
  refine ite_answer_keeps h (ite_answer_keeps h (ite_answer_keeps h ?_))
  split
  · split
    · exact h
    · rename_i n r _ _ _ _
      have ho := offerRecord_keeps n r taker h
      exact ite_answer_keeps ho ho
  · exact h

theorem takeConfirm_keeps (suits : Bool) (i : StockId) (h : s.keeps t) : s.keeps (takeConfirm suits i t).1 := by
  unfold takeConfirm
  refine ite_answer_keeps h ?_
  split
  · exact ite_answer_keeps (update_keeps _ _ h) h
  · exact h

theorem confirmRequest_keeps (n : Nat) (o : HeldOffer) (loc : Location) (h : s.keeps t) :
    s.keeps (confirmRequest n o loc t).1 := by
  have hconfirm := confirmOffer_keeps n o loc h
  unfold confirmRequest
  split
  all_goals
    rename_i he
    rw [he] at hconfirm
    exact hconfirm

theorem takeBedLoaded_keeps (i : StockId) (h : s.keeps t) : s.keeps (takeBedLoaded i t).1 := by
  unfold takeBedLoaded
  split
  · exact h
  · exact ite_answer_keeps h (confirmRequest_keeps _ _ _ h)

theorem takePlaced_keeps (i : StockId) (slot : Nat) (h : s.keeps t) : s.keeps (takePlaced i slot t).1 := by
  unfold takePlaced
  split
  · exact h
  · exact ite_answer_keeps h (confirmRequest_keeps _ _ _ h)

theorem takeLock_keeps (n : Nat) (h : s.keeps t) : s.keeps (takeLock n t).1 :=
  ite_answer_keeps h (ite_answer_keeps h h)

theorem takeUnlock_keeps (n : Nat) (h : s.keeps t) : s.keeps (takeUnlock n t).1 :=
  ite_answer_keeps h (ite_answer_keeps h h)

/-! ### The search unit (R143, R147) -/

theorem takeQueryStock_keeps (suits : Bool) (q : QueryFields) (h : s.keeps t) :
    s.keeps (takeQueryStock suits q t).1 := by
  have hsend : s.keeps (sendQuery q t).1 := by
    have ho := offer_keeps t.queryDest (.stockQuery (t.su.number + 1) q) (s := s)
      (t := withSearch (fun u => { u with number := t.su.number + 1 }) t) h
    exact ite_answer_keeps ho ho
  exact ite_answer_keeps h (ite_answer_keeps h (ite_answer_keeps h hsend))

theorem takeCancelQuery_keeps (h : s.keeps t) : s.keeps (takeCancelQuery t).1 := by
  unfold takeCancelQuery
  split
  · exact h
  · unfold cancelReserving
    split
    · exact sendUnreserve_keeps _ _ h
    · exact h
  · split
    · exact sendUnreserve_keeps _ _ h
    · exact h

/-! ### The move unit (R153, R158, R162) -/

theorem openMove_keeps (info : MoveInfo) (h : s.keeps t) : s.keeps (openMove info t).1 := by
  unfold openMove
  split
  · exact h
  · dsimp only
    refine ite_answer_keeps (sendMove_keeps _ _ h) (raise_keeps _ (putMove_keeps _ _ ?_))
    exact sendMove_keeps (t := { t with mu := { t.mu with tag := freshTag t.mu.liveTags 8 (t.mu.tag + 1) } }) _ _ h

theorem takeMoveRequest_keeps (suits : Bool) (m : MoveFields) (h : s.keeps t) :
    s.keeps (takeMoveRequest suits m t).1 := by
  unfold takeMoveRequest
  split
  · exact h
  · split
    · exact h
    · refine ite_answer_keeps h (ite_answer_keeps h ?_)
      split
      · exact judge_keeps _ (openMove_keeps _ h) h
      · exact h

theorem takeCancelMove_keeps (tag : Byte) (h : s.keeps t) : s.keeps (takeCancelMove tag t).1 := by
  unfold takeCancelMove
  split
  · exact cancelLive_keeps _ _ h
  · exact h

theorem takeMoveFinish_keeps (h : s.keeps t) : s.keeps (takeMoveFinish t).1 := by
  unfold takeMoveFinish
  split
  · exact ite_answer_keeps (finishMove_keeps _ _ h) h
  · exact h

/-! ### POSITION, SET_MODE and the reads (R15, R171, R173) -/

theorem takePosition_keeps (v : PositionFields) (h : s.keeps t) : s.keeps (takePosition v t).1 := by
  have hown : s.keeps { t with env := { t.env with own := ownPosition t.cfg.params t.time v } } := h
  exact craneEvaluates_keeps (ite_keeps (callUrgent_keeps hown) hown)

theorem leaveRun_keeps (h : s.keeps t) : s.keeps (leaveRun t).1 := by
  unfold leaveRun
  split
  · split
    · exact h
    · exact changeMode_keeps _ h
  · exact craneLeaves_keeps h
  · exact changeMode_keeps _ h

theorem takeSetMode_keeps (target : Mode) (h : s.keeps t) : s.keeps (takeSetMode target t).1 := by
  unfold takeSetMode
  split
  · exact h
  · exact changeMode_keeps _ h
  · exact h
  · exact changeMode_keeps _ h
  · exact h
  · exact settle_keeps (changeMode_keeps _ h)
  · exact h
  · exact ite_answer_keeps h (leaveRun_keeps h)
  · exact ite_answer_keeps h h

theorem judgeSetMode_keeps (suits : Bool) (target : Option Mode) (h : s.keeps t) :
    s.keeps (judgeSetMode suits target t).1 := by
  unfold judgeSetMode
  split
  · exact ite_answer_keeps (takeSetMode_keeps _ h) h
  · exact h

theorem takeStatus_keeps (suits : Bool) (h : s.keeps t) : s.keeps (takeStatus suits t).1 := ite_answer_keeps h h

theorem takeReadTable_keeps (suits : Bool) (table : Option TableName) (i : Nat) (h : s.keeps t) :
    s.keeps (takeReadTable suits table i t).1 := by
  unfold takeReadTable
  split
  · exact ite_answer_keeps h h
  · exact h

end

end Sys2Proof.Machine
end

section
/-! PROOF. What power-on, RESTART and a load keep of the sizes, the wear and the peer table (R34, R102, R136, R174 to
R179). -/

namespace Sys2Proof.Machine

/-! ### The stations of a table without entries, and of the pinned table (R22, R34) -/

theorem entryAt_replicate_none {α : Type} (k n : Nat) : entryAt (List.replicate k (none : Option α)) n = none := by
  unfold entryAt
  rw [List.getElem?_replicate]
  split <;> rfl

theorem reset_stations : PeerTable.reset.stations = List.replicate 48 none := by
  simp [PeerTable.stations, PeerTable.reset]

theorem stationsSound_reset (own : Nat) : stationsSound own PeerTable.reset.stations := by
  have hnone (n k : Nat) : entryAt PeerTable.reset.stations n ≠ some k := by
    rw [reset_stations, entryAt_replicate_none]
    exact Option.some_ne_none k |>.symm
  exact ⟨fun m _ k hm => absurd hm (hnone m k), fun n k hn => absurd hn (hnone n k)⟩

/-- The pinned stations of a parameter set differ, and each is another station's number in 1..62 (R34). -/
def Params.pinsSound (p : Params) : Prop :=
  (p.pins.map (fun i => i.station)).Nodup ∧ ∀ i ∈ p.pins, i.station ≠ p.station ∧ inRange 1 62 i.station = true

theorem pinnedTable_length (p : Params) (now : Count) : (pinnedTable p now).length = 48 := by
  simp [pinnedTable]

theorem entryAt_pinnedTable {p : Params} {now : Count} {n : Nat} {e : PeerEntry}
    (h : entryAt (pinnedTable p now) n = some e) : (p.pins.map (fun i => i.station))[n]? = some e.station ∧
      ∃ i ∈ p.pins, i.station = e.station := by
  rw [entryAt_eq_some, pinnedTable, List.getElem?_append] at h
  split at h
  · obtain ⟨i, hi, he⟩ := List.getElem?_map .. ▸ h |> Option.map_eq_some_iff.1
    cases he
    rw [List.getElem?_take] at hi
    split at hi
    · exact ⟨by simp [hi, pinEntry], i, List.mem_of_getElem? hi, rfl⟩
    · cases hi
  · rw [List.getElem?_replicate] at h
    split at h <;> cases h

theorem stationsSound_pinned {p : Params} (h : p.pinsSound) (t : PeerTable) (now : Count) :
    stationsSound p.station { t with entries := pinnedTable p now }.stations := by
  obtain ⟨hnodup, hrange⟩ := h
  constructor
  · intro m n k hm hn
    obtain ⟨a, ha, hak⟩ := entryAt_stations.1 hm
    obtain ⟨b, hb, hbk⟩ := entryAt_stations.1 hn
    have hma := (entryAt_pinnedTable ha).1
    have hnb := (entryAt_pinnedTable hb).1
    exact (List.getElem?_inj (List.getElem?_eq_some_iff.1 hma).1 hnodup).1 (by rw [hma, hnb, hak, hbk])
  · intro n k hn
    obtain ⟨e, he, hk⟩ := entryAt_stations.1 hn
    obtain ⟨-, i, hi, hie⟩ := entryAt_pinnedTable he
    exact hk ▸ hie ▸ hrange i hi

/-! ### The pinned list of an image (R34, R178) -/

theorem goodPins_sound (own : Nat) (named : List Nat) (l : List Pin) :
    ((goodPins own named l).map (fun i => i.station)).Nodup
      ∧ ∀ i ∈ goodPins own named l, (i.station ≠ own ∧ inRange 1 62 i.station = true) ∧ i.station ∉ named := by
  induction l generalizing named with
  | nil => exact ⟨List.nodup_nil, by simp [goodPins]⟩
  | cons i l ih =>
    unfold goodPins
    split
    · exact ih named
    · rename_i hgood
      obtain ⟨hown, hrange, hnamed⟩ : i.station ≠ own ∧ inRange 1 62 i.station = true ∧ i.station ∉ named := by
        simpa using hgood
      obtain ⟨hnodup, hrest⟩ := ih (i.station :: named)
      constructor
      · refine List.nodup_cons.2 ⟨fun hmem => ?_, hnodup⟩
        obtain ⟨j, hj, hji⟩ := List.mem_map.1 hmem
        exact (hrest j hj).2 (hji ▸ List.mem_cons_self)
      · rintro j (_ | ⟨_, hj⟩)
        · exact ⟨⟨hown, hrange⟩, hnamed⟩
        · exact ⟨(hrest j hj).1, fun hmem => (hrest j hj).2 (List.mem_cons_of_mem _ hmem)⟩

theorem useBlock_pinsSound {name : ImageBlock} {block : Option (List Byte)} {f : Loading → List Byte → Loading}
    {acc : Loading × List ImageBlock} (hf : ∀ l c, l.params.pinsSound → (f l c).params.pinsSound)
    (h : acc.1.params.pinsSound) : (useBlock name block f acc).1.params.pinsSound := by
  unfold useBlock
  split
  · exact hf _ _ h
  · exact h

theorem loadGroups_pinsSound (l : Loading) (bs : List Byte) : (loadGroups l bs).params.pinsSound := by
  obtain ⟨hnodup, hrange⟩ := goodPins_sound l.params.station [] (readPins l.params.xmax
    (min (fieldNat (bs.drop (1 + fieldNat bs 0 1)) 2 1) 16) ((bs.drop (1 + fieldNat bs 0 1)).drop 3))
  exact ⟨hnodup, fun i hi => (hrange i hi).1⟩

theorem adjusted_pinsSound {l : Loading} (h : l.params.pinsSound) :
    (adjust raiseLost (adjust raiseMargins (adjust placeBed l))).params.pinsSound := by
  have hplace : (placeBed l.params).pinsSound := by
    unfold placeBed
    split <;> exact h
  exact hplace

/-- Whatever blocks an image brings, the pinned list is brought into form for the station the image gives. -/
theorem loadImage_pinsSound (role : Role) (station : Nat) (identity bs : List Byte) :
    (loadImage role station identity bs).1.params.pinsSound := by
  have hidentity : (loadIdentity role station identity).params.pinsSound :=
    ⟨List.nodup_nil, fun i hi => absurd hi List.not_mem_nil⟩
  have hgeometry (l : Loading) (c : List Byte) (h : l.params.pinsSound) : (loadGeometry l c).params.pinsSound := h
  have hmargins (l : Loading) (c : List Byte) (h : l.params.pinsSound) : (loadMargins l c).params.pinsSound := h
  have htiming (l : Loading) (c : List Byte) (h : l.params.pinsSound) : (loadTiming l c).params.pinsSound := h
  have hwear (l : Loading) (c : List Byte) (h : l.params.pinsSound) : (loadWear l c).params.pinsSound := h
  have hslots (l : Loading) (c : List Byte) (h : l.params.pinsSound) : (loadSlots l c).params.pinsSound := h
  have htemplates (l : Loading) (v : Text × List (List TemplateItem)) (h : l.params.pinsSound) :
      (loadTemplates l v).params.pinsSound := h
  unfold loadImage
  dsimp only
  refine adjusted_pinsSound ?_
  split
  on_goal 1 => refine htemplates _ _ ?_
  all_goals exact useBlock_pinsSound (fun l c _ => loadGroups_pinsSound l c) (useBlock_pinsSound hslots
    (useBlock_pinsSound hwear (useBlock_pinsSound htiming (useBlock_pinsSound hmargins
      (useBlock_pinsSound hgeometry hidentity)))))

theorem raiseSlots_pinsSound (same : Bool) (t : Stock) {p : Params} (h : p.pinsSound) :
    (raiseSlots same t p).pinsSound := by
  unfold raiseSlots
  split <;> exact h

/-! ### Power-on, RESTART and the load (R174 to R180) -/

section
variable {s : State}

theorem powerOn_keeps (s : State) :
    s.keeps { State.reset with pending := s.pending, freeCount := s.freeCount, lu := s.lu.withdrawn } where
  table _ := by simp [State.tally, State.reset, reset_stations]
  peers _ := stationsSound_reset _
  wear _ := Nat.zero_le _
  records _ := List.length_replicate
  retired _ := Nat.zero_le _
  moves _ := List.length_replicate
  queued _ := Nat.zero_le _
  replies := Nat.zero_le _
  notices _ := Nat.zero_le _
  lost _ := Nat.zero_le _
  marks _ := Nat.zero_le _
  classes c _ := by cases c <;> exact Nat.zero_le _

/-- The wear and the stock table stand at a RESTART, and the parameters do until the new load (R102, R136). -/
theorem restartPart_keeps (s : State) : s.keeps (restartPart s) :=
  { powerOn_keeps s with
    peers := fun _ => stationsSound_reset _
    wear := id
    records := fun hs => (List.length_map ..).trans hs
    retired := id }

theorem endInFault_keeps (cause : LoadCause) {t : State} (h : s.keeps t) : s.keeps (endInFault cause t) :=
  raise_keeps _ h

theorem afterLoad_pierces_le (r : Rc) (same : Bool) (limit : Nat) : (r.afterLoad same limit).pierces ≤ limit := by
  unfold Rc.afterLoad
  split
  · exact Nat.min_le_right _ _
  · exact Nat.zero_le _

/-- A load forms the peer table from the pinned list, and holds a kept wear at the new limit (R34, R102, R136). -/
theorem succeed_keeps (role : Role) (station : Nat) (identity : List Byte) {t : State} (h : s.keeps t) :
    s.keeps (succeed role station identity t) := by
  have hpins : ∀ same, (trimLocks (raiseSlots same t.st
      (loadImage role station identity t.cfg.image).1.params)).pinsSound :=
    fun same => raiseSlots_pinsSound same t.st (loadImage_pinsSound role station identity t.cfg.image)
  refine raise_keeps _ { h with
    table := fun _ => (List.length_map ..).trans (pinnedTable_length ..)
    peers := fun _ => stationsSound_pinned (hpins _) PeerTable.reset t.time
    wear := fun _ => afterLoad_pierces_le ..
    records := fun hs => ?_
    retired := fun hs => ?_ }
  · change (ite _ _ _ : Stock).records.length = 96
    split
    · exact (List.length_map ..).trans (h.records hs)
    · rfl
  · change (ite _ _ _ : Stock).retired.length ≤ 64
    split
    · exact h.retired hs
    · exact Nat.zero_le _

theorem takeBytes_keeps (data : List Byte) {t : State} (h : s.keeps t) : s.keeps (takeBytes data t) := by
  refine ite_keeps ?_ h
  unfold judgeImage
  split
  · exact endInFault_keeps _ h
  · exact succeed_keeps _ _ _ h
  · exact endInFault_keeps _ h

theorem refuseTransfer_keeps {t : State} (h : s.keeps t) : s.keeps (refuseTransfer t) :=
  ite_keeps (endInFault_keeps _ h) h

end

end Sys2Proof.Machine
end

section
/-! PROOF. Every command keeps the sizes, the wear and the peer table sound, and the reset state meets every invariant. -/

namespace Sys2Proof.Machine

/-! ### What the three invariants ask of a step -/

/-- The three invariants that the tally tells hold in `t` where they hold in `s`. -/
def State.preserves (s t : State) : Prop :=
  (s.sized → t.sized) ∧ (s.wearBounded → t.wearBounded) ∧ (s.peersSound → t.peersSound)

theorem preserves_of_keeps {s t : State} (h : s.keeps t) : s.preserves t := by
  refine ⟨fun hs => ?_, h.wear, fun hs => (peersSound_iff t).2 (h.peers ((peersSound_iff s).1 hs))⟩
  obtain ⟨htable, hrecords, hretired, hmoves, hqueued, hreplies, hnotices, hlost, hmarks, hclasses⟩ := (sized_iff s).1 hs
  exact (sized_iff t).2 ⟨h.table htable, h.records hrecords, h.retired hretired, h.moves hmoves, h.queued hqueued,
    h.replies.trans hreplies, h.notices hnotices, h.lost hlost, h.marks hmarks, fun c => h.classes c (hclasses c)⟩

/-- What a command answers in `s` preserves the three invariants where it is a next state. -/
def State.allows (s : State) : Host.Outcome State Fault Refusal → Prop
  | .next t => s.preserves t
  | .fault _ => True
  | .refused _ => True

theorem next_allows {s t : State} (h : s.keeps t) : s.allows (.next t) := preserves_of_keeps h

/-! ### Requests (R168, R169) -/

/-- A reply joins a buffer with room for it (R168, R169). -/
theorem takenRequest_preserves {s : State} (code : RequestCode) {act : State → State × Answer}
    (hroom : s.sp.buffer.length < 4) (h : s.keeps (act s.begun).1) : s.preserves (takenRequest code act s) := by
  obtain ⟨hsized, hwear, hpeers⟩ := preserves_of_keeps h
  refine ⟨fun hs => ?_, hwear, hpeers⟩
  obtain ⟨htables, ⟨-, hnotices, hlost, hmarks⟩, hclasses, hqueued⟩ := hsized hs
  have hreplies : (act s.begun).1.sp.buffer.length ≤ s.sp.buffer.length := h.replies
  have hjoined : (takenRequest code act s).sp.buffer.length ≤ 4 := by
    rw [takenRequest_eq rfl, replied_buffer, List.length_append, List.length_singleton]
    omega
  exact ⟨htables, ⟨hjoined, hnotices, hlost, hmarks⟩, hclasses, hqueued⟩

section
variable {s : State} {act : State → State × Answer}

theorem request_allows (length : Byte) (cut inFault : Bool) (code : RequestCode)
    (ha : ∀ {u : State}, s.keeps u → s.keeps (act u).1) : s.allows (.next (request length cut inFault code act s)) := by
  have hself := keeps_refl s
  rcases request_cases length cut inFault code act s with ⟨-, he⟩ | ⟨-, he⟩ | ⟨-, he⟩ | ⟨-, hroom, -, he⟩ <;> rw [he]
  · exact next_allows hself
  · exact next_allows hself
  · exact next_allows hself
  · exact takenRequest_preserves code hroom (ha (u := s.begun) hself)

theorem loadedRequest_allows (f : WriteFrame) (code : RequestCode)
    (ha : ∀ {u : State}, s.keeps u → s.keeps (act u).1) : s.allows (.next (loadedRequest f code act s)) :=
  request_allows f.length f.cut false code ha

theorem roleRequest_allows (f : WriteFrame) (code : RequestCode) (roleOk : Role → Bool)
    (ha : ∀ {u : State}, s.keeps u → s.keeps (act u).1) : s.allows (.next (roleRequest f code roleOk act s)) :=
  loadedRequest_allows f code fun hu => judge_keeps _ (ha hu) hu

end

/-! ### Reads (R169, R170) -/

theorem clockReply_keeps (clocked : Nat) (s : State) : s.keeps (clockReply clocked s) := by
  have hread : s.keeps { s with sp := { s.sp with buffer := s.sp.buffer.tail } } :=
    { keeps_refl s with replies := by simp [State.tally] }
  exact ite_keeps (p := (PortAnswer.reply s.sp.buffer.head?).readWhole clocked = true) hread (keeps_refl s)

theorem clockNotice_keeps (clocked : Nat) (s : State) : s.keeps (clockNotice clocked s) := by
  have hread : s.keeps { s with sp := { s.sp with notices := s.sp.notices.tail, lost := 0 } } :=
    { keeps_refl s with
      notices := fun hs => (List.tail_sublist _).length_le.trans hs
      lost := fun _ => Nat.zero_le _ }
  exact ite_keeps (p := (PortAnswer.notice s.sp.lost s.sp.notices.head?).readWhole clocked = true) hread (keeps_refl s)

/-! ### The commands -/

section
variable (s : State)

theorem beacon_allows (role : Role) (k : TelegramKind) (g : Telegram) :
    s.allows (.next (receiveKind k (takeBeacon role g.source.toNat g.seq g.payload) g s)) :=
  next_allows (receiveKind_keeps k g (takeBeacon_keeps _ _ _ _) (keeps_refl s))

theorem custody_allows {act : Message → State → State} (k : TelegramKind) (g : Telegram)
    (ha : ∀ m {u : State}, s.keeps u → s.keeps (act m u)) :
    s.allows (.next (receiveKind k (takeCustody k g act) g s)) :=
  next_allows (receiveKind_keeps k g (fun hu => takeCustody_keeps k g (fun m => ha m hu) hu) (keeps_refl s))

theorem message_allows {ignore : State → State} {act : Message → State → State} (k : TelegramKind) (g : Telegram)
    (hi : ∀ {u : State}, s.keeps u → s.keeps (ignore u)) (ha : ∀ m {u : State}, s.keeps u → s.keeps (act m u)) :
    s.allows (.next (receiveKind k (takeMessage k g ignore act) g s)) :=
  next_allows (receiveKind_keeps k g (fun hu => takeMessage_keeps k g (hi hu) (fun m => ha m hu)) (keeps_refl s))

/-- A timer's expiry that acts while it is due, and a line or link event that acts where it may. -/
theorem ite_allows {p : Prop} [Decidable p] {t u : State} (ht : s.keeps t) (hu : s.keeps u) :
    s.allows (if p then .next t else .next u) := by
  split
  · exact next_allows ht
  · exact next_allows hu

/-! ### The peer table's and the link's timers and events (R31, R43 to R53) -/

theorem agingStep_allows : s.allows (execAgingStep s) := by
  unfold execAgingStep
  split
  · exact ite_allows s (agingStep_keeps (keeps_refl s)) (keeps_refl s)
  · exact next_allows (keeps_refl s)

theorem beaconTimer_allows : s.allows (execBeaconTimerExpiry s) := by
  unfold execBeaconTimerExpiry
  split
  · rename_i t _
    have hagain : s.keeps (withFlc (fun f => { f with beaconTimer := some t.again }) s) := keeps_refl s
    exact ite_allows s (ite_keeps (placeBeacon_keeps (c := .periodic) rfl hagain) hagain) (keeps_refl s)
  · exact next_allows (keeps_refl s)

theorem attemptStart_allows : s.allows (execAttemptStart s) := by
  unfold execAttemptStart
  split
  · exact next_allows (ite_keeps (startAttempt_keeps _ (keeps_refl s)) (keeps_refl s))
  · exact next_allows (keeps_refl s)

theorem attemptClean_allows : s.allows (execAttemptClean s) := by
  have hsent : s.keeps (countSent (endAttempt s)) := keeps_refl s
  unfold execAttemptClean
  split
  · exact next_allows (popFront_keeps _ hsent)
  · exact next_allows (probeClean_keeps hsent)
  · exact next_allows (keeps_refl s)

theorem attemptCollided_allows : s.allows (execAttemptCollided s) := by
  unfold execAttemptCollided
  split
  · split
    · exact next_allows (collide_keeps ‹_› (keeps_refl s))
    · exact next_allows (keeps_refl s)
  · exact next_allows (keeps_refl s)
  · exact next_allows (keeps_refl s)

theorem jabberLimit_allows : s.allows (execJabberLimit s) := by
  unfold execJabberLimit
  split
  · exact next_allows (isolate_keeps _ (keeps_refl s))
  · exact next_allows (keeps_refl s)
  · exact next_allows (keeps_refl s)

theorem probeTimer_allows : s.allows (execProbeTimerExpiry s) := by
  unfold execProbeTimerExpiry
  split
  · exact ite_allows s (keeps_refl s) (keeps_refl s)
  · exact next_allows (keeps_refl s)

/-! ### The release controller's timers (R86, R90) -/

theorem inFlightTimeout_allows : s.allows (execInFlightTimeout s) := by
  unfold execInFlightTimeout
  split
  · exact ite_allows s (enterFaulted_keeps _ _ (logMark_keeps _ _ (keeps_refl s))) (keeps_refl s)
  · exact next_allows (keeps_refl s)

theorem haltTimeout_allows : s.allows (execHaltTimeout s) := by
  unfold execHaltTimeout
  split
  · exact ite_allows s (enterFaulted_keeps _ _ (keeps_refl s)) (keeps_refl s)
  · exact next_allows (keeps_refl s)

/-! ### The stock table's and the move unit's timers (R125, R129, R131, R156, R158) -/

theorem offerTimeout_allows (n : Nat) : s.allows (execOfferTimeout n s) := by
  unfold execOfferTimeout
  split
  · exact ite_allows s (failOffer_keeps _ _ _ (keeps_refl s)) (keeps_refl s)
  · exact next_allows (keeps_refl s)

theorem heldOfferExpiry_allows (n : Nat) : s.allows (execHeldOfferExpiry n s) := by
  unfold execHeldOfferExpiry
  split
  · exact ite_allows s (setSlot_keeps n none (keeps_refl s)) (keeps_refl s)
  · exact next_allows (keeps_refl s)

theorem pendingTimeout_allows (n : Nat) : s.allows (execPendingTimeout n s) := by
  unfold execPendingTimeout
  split
  · exact ite_allows s (raise_keeps _ (update_keeps n _ (keeps_refl s))) (keeps_refl s)
  · exact next_allows (keeps_refl s)

theorem bidWindowExpiry_allows (n : Nat) : s.allows (execBidWindowExpiry n s) := by
  unfold execBidWindowExpiry
  split
  · exact ite_allows s (passDown_keeps _ _ (keeps_refl s)) (keeps_refl s)
  · exact next_allows (keeps_refl s)

theorem awardReplyTimeout_allows (n : Nat) : s.allows (execAwardReplyTimeout n s) := by
  unfold execAwardReplyTimeout
  split
  · exact ite_allows s (passDown_keeps _ _ (sendRevoke_keeps _ _ (keeps_refl s))) (keeps_refl s)
  · exact next_allows (keeps_refl s)

theorem cancelReplyTimeout_allows (n : Nat) : s.allows (execCancelReplyTimeout n s) := by
  unfold execCancelReplyTimeout
  split
  · exact ite_allows s (cancelUnanswered_keeps _ _ (keeps_refl s)) (keeps_refl s)
  · exact next_allows (keeps_refl s)

/-! ### The station port's other transactions (R168, R174) -/

theorem restart_allows (f : WriteFrame) : s.allows (execRestart f s) :=
  next_allows (ite_keeps (keeps_refl s) (restartPart_keeps s))

theorem voidTransaction_allows (operation : Byte) : s.allows (execVoidTransaction operation s) := by
  unfold execVoidTransaction
  split
  · exact next_allows (keeps_refl s)
  · exact next_allows (keeps_refl s)
  · exact next_allows (clockReply_keeps 0 s)
  · exact next_allows (clockNotice_keeps 0 s)

/-! ### Every command -/

/-- Each command is one row: the operation it stands for keeps the tally, from the state it is taken in. -/
theorem exec_allows (i : Instr) : s.allows (exec i s) := by
  have h := keeps_refl s
  cases i with
  | powerOn => exact next_allows (powerOn_keeps s)
  | timeBaseTick => exact next_allows h
  | i2cTransferDone acked data =>
    exact next_allows (ite_keeps (ite_keeps (takeBytes_keeps data h) (refuseTransfer_keeps h)) h)
  | agingStep => exact agingStep_allows s
  | beaconTimerExpiry => exact beaconTimer_allows s
  | urgentSpacingExpiry => exact next_allows (ite_keeps (spacingEnds_keeps h) h)
  | attemptStart => exact attemptStart_allows s
  | attemptClean => exact attemptClean_allows s
  | attemptCollided => exact attemptCollided_allows s
  | backoffEnd => exact next_allows h
  | jabberLimit => exact jabberLimit_allows s
  | probeTimerExpiry => exact probeTimer_allows s
  | probeStart => exact next_allows (ite_keeps (ite_keeps h h) h)
  | telegramFramingError => exact next_allows (ite_keeps h h)
  | telegramOfUnknownKind kind g => exact next_allows (receive_keeps _ _ g id h)
  | beaconCutter g => exact beacon_allows s .cutter _ g
  | beaconCrane g => exact beacon_allows s .crane _ g
  | beaconRack g => exact beacon_allows s .rack _ g
  | custodyOffer g =>
    refine custody_allows s _ g fun m _ hu => ?_
    cases m with
    | custodyOffer p => exact takeOffer_keeps _ _ hu
    | _ => exact hu
  | custodyAccept g =>
    refine custody_allows s _ g fun m _ hu => ?_
    cases m with
    | custodyAccept i => exact takeAccept_keeps _ _ hu
    | _ => exact hu
  | custodyRelease g =>
    refine custody_allows s _ g fun m _ hu => ?_
    cases m with
    | custodyRelease i => exact takeRelease_keeps _ _ hu
    | _ => exact hu
  | custodyRefuse g =>
    refine custody_allows s _ g fun m _ hu => ?_
    cases m with
    | custodyRefuse i r => exact takeRefusal_keeps _ _ _ hu
    | _ => exact hu
  | stockQuery g =>
    refine message_allows s _ g id fun m _ hu => ?_
    cases m with
    | stockQuery n q => exact takeQuery_keeps _ _ _ hu
    | _ => exact hu
  | stockCandidate g =>
    refine message_allows s _ g id fun m _ hu => ?_
    cases m with
    | stockCandidate n c => exact takeCandidate_keeps _ _ hu
    | _ => exact hu
  | reserve g =>
    refine message_allows s _ g id fun m _ hu => ?_
    cases m with
    | reserve n i r => exact takeReserve_keeps _ _ _ hu
    | _ => exact hu
  | reserveReply g =>
    refine message_allows s _ g id fun m _ hu => ?_
    cases m with
    | reserveReply n i r => exact takeReserveReply_keeps _ _ _ _ hu
    | _ => exact hu
  | unreserve g =>
    refine message_allows s _ g id fun m _ hu => ?_
    cases m with
    | unreserve i => exact takeUnreserve_keeps _ _ hu
    | _ => exact hu
  | moveCall g =>
    refine message_allows s _ g id fun m _ hu => ?_
    cases m with
    | moveCall tag call i => exact takeCall_keeps _ _ _ _ hu
    | _ => exact hu
  | moveBid g =>
    refine message_allows s _ g id fun m _ hu => ?_
    cases m with
    | moveBid tag call bid => exact takeMoveBid_keeps _ _ _ _ hu
    | _ => exact hu
  | moveAward g =>
    refine message_allows s _ g id fun m _ hu => ?_
    cases m with
    | moveAward tag i => exact takeAward_keeps _ _ _ hu
    | _ => exact hu
  | awardReply g =>
    refine message_allows s _ g id fun m _ hu => ?_
    cases m with
    | awardReply tag taken => exact takeAwardReply_keeps _ _ _ hu
    | _ => exact hu
  | moveRevoke g =>
    refine message_allows s _ g id fun m _ hu => ?_
    cases m with
    | moveRevoke tag => exact takeRevoke_keeps _ _ hu
    | _ => exact hu
  | revokeReply g =>
    refine message_allows s _ g id fun m _ hu => ?_
    cases m with
    | revokeReply tag late => exact takeRevokeReply_keeps _ _ _ hu
    | _ => exact hu
  | moveStarted g =>
    refine message_allows s _ g id fun m _ hu => ?_
    cases m with
    | moveStarted tag => exact takeStarted_keeps _ _ hu
    | _ => exact hu
  | moveReturn g =>
    refine message_allows s _ g id fun m _ hu => ?_
    cases m with
    | moveReturn tag => exact takeReturn_keeps _ _ hu
    | _ => exact hu
  | moveDone g =>
    refine message_allows s _ g id fun m _ hu => ?_
    cases m with
    | moveDone tag carried taker => exact takeDone_keeps _ _ _ _ hu
    | _ => exact hu
  | estopAsserted => exact next_allows (senseEstop_keeps true estopOn_keeps h)
  | estopReleased => exact next_allows (senseEstop_keeps false estopOff_keeps h)
  | loadAttachedRises => exact next_allows (senseLoad_keeps true loadRises_keeps h)
  | loadAttachedFalls => exact next_allows (senseLoad_keeps false loadFalls_keeps h)
  | inFlightTimeout => exact inFlightTimeout_allows s
  | haltTimeout => exact haltTimeout_allows s
  | resumeTimerExpiry =>
    have hstop : s.keeps { s with rc := { s.rc with resumeTimer := none } } := h
    exact next_allows (ite_keeps (settle_keeps hstop) h)
  | offerTimeout n => exact offerTimeout_allows s n
  | heldOfferExpiry n => exact heldOfferExpiry_allows s n
  | pendingTimeout n => exact pendingTimeout_allows s n
  | queryWindowExpiry => exact next_allows (ite_keeps (tryReserve_keeps _ h) h)
  | reserveTimerExpiry => exact next_allows (ite_keeps (tryReserve_keeps _ h) h)
  | bidWindowExpiry n => exact bidWindowExpiry_allows s n
  | awardReplyTimeout n => exact awardReplyTimeout_allows s n
  | cancelReplyTimeout n => exact cancelReplyTimeout_allows s n
  | segment w => exact request_allows _ _ _ _ (takeSegment_keeps _)
  | flush f => exact roleRequest_allows f _ _ (flushQueue_keeps _)
  | resync f target => exact roleRequest_allows f _ _ (flushQueue_keeps _)
  | segmentDone f seq k ms => exact roleRequest_allows f _ _ (takeDoneReport_keeps _ _ _)
  | segmentAborted f seq k ms => exact roleRequest_allows f _ _ (takeAbort_keeps _ _ _)
  | segmentHalted f seq k ms => exact roleRequest_allows f _ _ (takeHalt_keeps _ _ _)
  | continueRequest f => exact roleRequest_allows f _ _ takeContinue_keeps
  | wearRestore f pierces ms => exact roleRequest_allows f _ _ (takeWearRestore_keeps _ _)
  | consumableChanged f => exact roleRequest_allows f _ _ takeConsumable_keeps
  | declareStock f record location slot => exact loadedRequest_allows f _ (takeDeclare_keeps _ _ _ _)
  | handOff f i taker => exact loadedRequest_allows f _ (takeHandOff_keeps _ _ _)
  | confirmCustody f i => exact loadedRequest_allows f _ (takeConfirm_keeps _ _)
  | bedLoaded f i => exact loadedRequest_allows f _ fun hu => judge_keeps _ (takeBedLoaded_keeps _ hu) hu
  | placed f i slot => exact loadedRequest_allows f _ fun hu => judge_keeps _ (takePlaced_keeps _ _ hu) hu
  | lockSlot f slot => exact roleRequest_allows f _ _ (takeLock_keeps _)
  | unlockSlot f slot => exact roleRequest_allows f _ _ (takeUnlock_keeps _)
  | queryStock f q => exact loadedRequest_allows f _ (takeQueryStock_keeps _ _)
  | cancelQuery f => exact roleRequest_allows f _ _ takeCancelQuery_keeps
  | moveRequest f m => exact loadedRequest_allows f _ (takeMoveRequest_keeps _ _)
  | cancelMove f tag => exact roleRequest_allows f _ _ (takeCancelMove_keeps _)
  | moveFinish f => exact roleRequest_allows f _ _ takeMoveFinish_keeps
  | position f v => exact roleRequest_allows f _ _ (takePosition_keeps _)
  | setMode f target => exact loadedRequest_allows f _ (judgeSetMode_keeps _ _)
  | status f => exact request_allows _ _ _ _ (takeStatus_keeps _)
  | readTable f table i => exact loadedRequest_allows f _ (takeReadTable_keeps _ _ _)
  | restart f => exact restart_allows s f
  | unknownRequest f code => exact loadedRequest_allows f _ id
  | readReply clocked => exact next_allows (clockReply_keeps clocked s)
  | readNotice clocked => exact next_allows (clockNotice_keeps clocked s)
  | voidTransaction operation => exact voidTransaction_allows s operation

end

/-- A step idles, or takes the front command (log 2), and preserves the three invariants. -/
theorem step_preserves {s t : State} (h : step s = .next t) : s.preserves t := by
  unfold step at h
  split at h
  · rename_i c rest _
    have hallows := exec_allows { s with pending := rest } c
    rw [h] at hallows
    exact hallows
  · cases h
    exact preserves_of_keeps (keeps_refl s)

/-! ### The obligations -/

/-- Settles O13: each operation of each command keeps the sizes and the wear limit. -/
theorem tablesAndCountsStayBounded : Obligations.TablesAndCountsStayBounded :=
  ⟨fun _ _ hsized hstep => (step_preserves hstep).1 hsized, fun _ _ hwear hstep => (step_preserves hstep).2.1 hwear⟩

/-- Settles O16: an entry enters the table for a station it does not hold, or in the place of its own. -/
theorem peerTableStaysSound : Obligations.PeerTableStaysSound :=
  fun _ _ hpeers hstep => (step_preserves hstep).2.2 hpeers

/-- Settles O9: the reset state holds no record, no peer entry and no copy, and drives no line. -/
theorem resetMeetsEveryInvariant : Obligations.ResetMeetsEveryInvariant := by
  have hno {α : Type} {k n : Nat} {a : α} : entryAt (List.replicate k none) n ≠ some a := by
    rw [entryAt_replicate_none]
    exact (Option.some_ne_none a).symm
  have hrecord {n : Nat} {r : StockRecord} : entryAt State.reset.st.records n ≠ some r := hno
  have hlow {b : Prop} (h : false = true) : b := absurd h Bool.false_ne_true
  refine ⟨hlow, ⟨hlow, hlow, hlow, hlow, hlow⟩, ⟨by decide, by decide⟩, ?_, ?_, ?_, ?_, ?_, ?_, hlow, ?_, ?_⟩
  · unfold State.sized
    decide
  · exact ⟨fun _ _ _ _ hr => absurd hr hrecord, fun _ _ hr => absurd hr hrecord, fun _ _ hr => absurd hr hrecord,
      fun _ hbed => absurd hbed (Option.some_ne_none _).symm, fun _ _ _ _ _ hr => absurd hr hrecord, List.nodup_nil⟩
  · exact fun hrole => by cases hrole
  · exact (peersSound_iff _).2 (stationsSound_reset _)
  · exact ⟨List.Pairwise.nil, fun _ hq => absurd hq List.not_mem_nil⟩
  · exact ⟨by decide, ⟨rfl, rfl⟩, fun _ => rfl⟩
  · exact ⟨fun _ => ⟨rfl, rfl⟩, fun _ => rfl⟩
  · exact Nat.zero_le _

end Sys2Proof.Machine
end

section
/-! PROOF. The layouts of R181 and R182 are read back as they were written: numbers, texts, stock IDs, notches, carried
records, moves, messages, and the part's own beacon (R53). -/

namespace Sys2Proof.Machine

/-! ### Fields of a layout: a field is read behind the fields before it (R181) -/

@[simp] theorem leBytes_length (k n : Nat) : (leBytes k n).length = k := by
  induction k generalizing n with
  | zero => rfl
  | succ k ih => simp [leBytes, ih]

@[simp] theorem leInt_length (k : Nat) (n : Int) : (leInt k n).length = k := leBytes_length ..

theorem leNat_leBytes (k n : Nat) : leNat (leBytes k n) = n % 256 ^ k := by
  induction k generalizing n with
  | zero => simp [leBytes, leNat, Nat.mod_one]
  | succ k ih =>
    rw [leBytes, leNat, ih, BitVec.toNat_ofNat, Nat.pow_succ' (n := k), Nat.mod_mul]

section
variable {a bs : List Byte} {b : Byte} {i k n : Nat}

@[simp] theorem fieldNat_cons_succ : fieldNat (b :: bs) (i + 1) k = fieldNat bs i k := by
  simp [fieldNat]

@[simp] theorem fieldNat_byte : fieldNat (b :: bs) 0 1 = b.toNat := by
  simp [fieldNat, leNat]

theorem drop_append_before (h : a.length ≤ i) : (a ++ bs).drop i = bs.drop (i - a.length) := by
  simp [List.drop_append, List.drop_eq_nil_of_le h]

theorem fieldNat_append (h : a.length ≤ i) : fieldNat (a ++ bs) i k = fieldNat bs (i - a.length) k := by
  simp [fieldNat, drop_append_before h]

@[simp] theorem fieldNat_leBytes : fieldNat (leBytes k n ++ bs) 0 k = n % 256 ^ k := by
  simp [fieldNat, leNat_leBytes]

@[simp] theorem fieldNat_leBytes_end : fieldNat (leBytes k n) 0 k = n % 256 ^ k := by
  simpa using fieldNat_leBytes (bs := []) (k := k) (n := n)

theorem readId_append (h : a.length ≤ i) : readId (a ++ bs) i = readId bs (i - a.length) := by
  simp [readId, fieldNat_append h, fieldNat_append (Nat.le_succ_of_le h), Nat.succ_sub h]

@[simp] theorem readId_cons_succ : readId (b :: bs) (i + 1) = readId bs i := by simp [readId]

theorem readOptId_append (h : a.length ≤ i) : readOptId (a ++ bs) i = readOptId bs (i - a.length) := by
  simp [readOptId, readId_append h]

@[simp] theorem readOptId_cons_succ : readOptId (b :: bs) (i + 1) = readOptId bs i := by simp [readOptId]

@[simp] theorem readNotch_cons_succ : readNotch (b :: bs) (i + 1) = readNotch bs i := by
  simp only [readNotch, Nat.add_right_comm i 1, fieldNat_cons_succ]

theorem readNotch_append (h : a.length ≤ i) : readNotch (a ++ bs) i = readNotch bs (i - a.length) := by
  simp only [readNotch, fieldNat_append h, fieldNat_append (Nat.le_add_right_of_le h), Nat.sub_add_comm h]

end

/-! ### Texts, stock IDs and notches (R181) -/

theorem textField_length {n : Nat} {t : Text} (h : t.length ≤ n) : (textField n t).length = n + 1 := by
  simp [textField, h]

theorem readText_textField {n : Nat} {t : Text} (h : t.length ≤ n) (hn : n < 256) : readText n (textField n t) = t := by
  have hlen : t.length % 256 = t.length := Nat.mod_eq_of_lt (by omega)
  simp [readText, textField, hlen, h]

@[simp] theorem idBytes_length (i : StockId) : (idBytes i).length = 3 := by simp [idBytes]

@[simp] theorem optIdBytes_length (i : Option StockId) : (optIdBytes i).length = 3 := by
  cases i <;> simp [optIdBytes]

@[simp] theorem notchBytes_length (n : Option Notch) : (notchBytes n).length = 5 := by
  cases n <;> simp [notchBytes]

section
variable {bs : List Byte}

theorem readId_idBytes {i : StockId} (ho : i.origin < 256) (hs : i.serial < 65536) :
    readId (idBytes i ++ bs) 0 = i := by
  simp [readId, idBytes, Nat.mod_eq_of_lt ho, Nat.mod_eq_of_lt hs]

theorem readId_idBytes_end {i : StockId} (ho : i.origin < 256) (hs : i.serial < 65536) : readId (idBytes i) 0 = i := by
  simpa using readId_idBytes (bs := []) ho hs

/-- An ID that is not the zero of an absent one is read back, and so is its absence (R181). -/
theorem readOptId_optIdBytes {i : Option StockId} (h : i.all StockId.fits = true) :
    readOptId (optIdBytes i ++ bs) 0 = i := by
  cases i with
  | none => rfl
  | some i =>
    obtain ⟨⟨ho, hs⟩, hne⟩ : (i.origin < 256 ∧ i.serial < 65536) ∧ i ≠ ⟨0, 0⟩ := by simpa [StockId.fits] using h
    simp [readOptId, optIdBytes, readId_idBytes ho hs, hne]

theorem readNotch_notchBytes {n : Option Notch} (h : n.all Notch.fits = true) :
    readNotch (notchBytes n ++ bs) 0 = some n := by
  cases n with
  | none => rfl
  | some n =>
    obtain ⟨l, w, corner⟩ := n
    obtain ⟨hl, hw⟩ : l < 65536 ∧ w < 65536 := by simpa [Notch.fits] using h
    cases corner <;>
      simp [readNotch, notchBytes, Corner.code, fieldNat_append, Nat.mod_eq_of_lt hl, Nat.mod_eq_of_lt hw]

/-- A station number is not 0, which stands for an absent one (R181). -/
theorem readOptStation_optStationByte {n : Option Nat} (h : n.all (inRange 1 255) = true) :
    readOptStation (optStationByte n).toNat = n := by
  cases n with
  | none => rfl
  | some n =>
    obtain ⟨hpos, hle⟩ : 1 ≤ n ∧ n ≤ 255 := by simpa [inRange] using h
    have hmod : n % 256 = n := Nat.mod_eq_of_lt (by omega)
    simp [readOptStation, optStationByte, hmod, Nat.ne_of_gt hpos]

@[simp] theorem readFlag_flagCode (b : Bool) : readFlag (flagCode b) = some b := by cases b <;> rfl

/-! ### Carried records, moves and messages (12.1, R182) -/

theorem pieceBytes_length {p : Piece} (h : p.heat.length ≤ 10) : (pieceBytes p).length = 32 := by
  simp [pieceBytes, textField_length h]

/-- The field of a carried record that holds the heat number, behind 16 bytes (12.1). -/
theorem heatField_pieceBytes {p : Piece} (h : p.heat.length ≤ 10) :
    ((pieceBytes p).drop 16).take 11 = textField 10 p.heat := by
  simp [pieceBytes, drop_append_before, List.take_left' (textField_length h)]

theorem readPiece_pieceBytes {p : Piece} (h : p.fits = true) : readPiece (pieceBytes p) = some p := by
  simp only [Piece.fits, Bool.and_eq_true, decide_eq_true_eq] at h
  obtain ⟨⟨⟨⟨⟨⟨⟨⟨⟨ho, hs⟩, hg⟩, ht⟩, hl⟩, hw⟩, hnotch⟩, hheat⟩, hparent⟩, hres⟩ := h
  have hkind : readFlag ((pieceBytes p).getD 3 0) = some (decide (p.kind = .remnant)) := by
    cases h : p.kind <;> simp [pieceBytes, h, readFlag]
  have hmarked : readFlag ((pieceBytes p).getD 30 0) = some p.marked := by
    simp [pieceBytes, textField_length hheat]
  have hn : readNotch (pieceBytes p) 11 = some p.notch := by
    simp [pieceBytes, readNotch_append, readNotch_notchBytes hnotch]
  have hpar : readOptId (pieceBytes p) 27 = p.parent := by
    simp [pieceBytes, readOptId_append, textField_length hheat, readOptId_optIdBytes hparent]
  have hr : readOptStation (fieldNat (pieceBytes p) 31 1) = p.reservation := by
    simp [pieceBytes, fieldNat_append, textField_length hheat, readOptStation_optStationByte hres]
  have hid : readId (pieceBytes p) 0 = p.id := by
    simp [pieceBytes, readId_idBytes ho hs]
  have hnumbers : fieldNat (pieceBytes p) 4 1 = p.grade ∧ fieldNat (pieceBytes p) 5 2 = p.thickness
      ∧ fieldNat (pieceBytes p) 7 2 = p.length ∧ fieldNat (pieceBytes p) 9 2 = p.width := by
    simp [pieceBytes, fieldNat_append, Nat.mod_eq_of_lt, hg, ht, hl, hw]
  obtain ⟨hgrade, hthickness, hlength, hwidth⟩ := hnumbers
  have hcode : (if decide (p.kind = .remnant) then PieceKind.remnant else .plate) = p.kind := by
    cases p.kind <;> rfl
  simp only [readPiece, hkind, hn, hmarked, hid, hgrade, hthickness, hlength, hwidth, hpar, hr, hcode,
    heatField_pieceBytes hheat, readText_textField hheat (by omega)]

@[simp] theorem readMoveKind_code (k : MoveKind) : readMoveKind (moveKindCode k) = some k := by cases k <;> rfl

@[simp] theorem readCustodyRefusal_code (r : CustodyRefusal) : readCustodyRefusal r.code = some r := by
  cases r <;> rfl

@[simp] theorem readReserveResult_code (r : ReserveResult) : readReserveResult r.code = some r := by cases r <;> rfl

@[simp] theorem moveBytes_length (m : MoveInfo) : (moveBytes m).length = 13 := by simp [moveBytes]

theorem readMove_cons_succ {b : Byte} {i : Nat} : readMove (b :: bs) (i + 1) = readMove bs i := by
  simp only [readMove, List.getD_cons_succ, Nat.add_right_comm i 1, fieldNat_cons_succ, readOptId_cons_succ]

theorem readMove_moveBytes {m : MoveInfo} (h : m.fits = true) : readMove (moveBytes m) 0 = some m := by
  simp only [MoveInfo.fits, Bool.and_eq_true, decide_eq_true_eq] at h
  obtain ⟨⟨⟨⟨⟨hstock, hfrom⟩, hfromX⟩, hto⟩, htoX⟩, hpriority⟩ := h
  simp [readMove, moveBytes, fieldNat_append, readOptId_optIdBytes hstock, Nat.mod_eq_of_lt hfrom,
    Nat.mod_eq_of_lt hfromX, Nat.mod_eq_of_lt hto, Nat.mod_eq_of_lt htoX, Nat.mod_eq_of_lt hpriority]

theorem payload_length {m : Message} {source : Nat} (h : m.fits source = true) :
    m.payload.length = m.kind.payloadLength := by
  cases m with
  | custodyOffer p =>
    simp only [Message.fits, Piece.fits, Bool.and_eq_true, decide_eq_true_eq] at h
    obtain ⟨⟨⟨-, hheat⟩, -⟩, -⟩ := h
    exact pieceBytes_length hheat
  | stockCandidate number c =>
    simp only [Message.fits, Bool.and_eq_true, decide_eq_true_eq] at h
    obtain ⟨⟨-, hheat⟩, -⟩ := h
    simp [Message.payload, Message.kind, TelegramKind.payloadLength, textField_length hheat]
  | _ => simp [Message.payload, Message.kind, TelegramKind.payloadLength]

theorem readMessage_stockCandidate {number : Byte} {c : Candidate} {source : Nat}
    (h : (Message.stockCandidate number c).fits source = true) :
    readMessage .stockCandidate source (Message.stockCandidate number c).payload = some (.stockCandidate number c) := by
  simp only [Message.fits, Bool.and_eq_true, decide_eq_true_eq] at h
  obtain ⟨⟨⟨⟨⟨⟨⟨⟨⟨⟨ho, hs⟩, rfl⟩, hslot⟩, hg⟩, ht⟩, hl⟩, hw⟩, hnotch⟩, hheat⟩, hscore⟩ := h
  have htext : ((Message.stockCandidate number c).payload.drop 17).take 11 = textField 10 c.heat := by
    simp [Message.payload, drop_append_before, List.take_left' (textField_length hheat)]
  simp only [readMessage, htext, readText_textField hheat (by omega)]
  simp [Message.payload, fieldNat_append, readNotch_append, readNotch_notchBytes hnotch, readId_idBytes ho hs,
    textField_length hheat, Nat.mod_eq_of_lt, hslot, hg, ht, hl, hw, hscore]

/-- A message whose fields fit theirs is read back from its payload as it was written (R182). -/
theorem readMessage_payload {m : Message} {source : Nat} (h : m.fits source = true) :
    readMessage m.kind source m.payload = some m := by
  cases m with
  | custodyOffer p => exact congrArg (Option.map Message.custodyOffer) (readPiece_pieceBytes h)
  | stockCandidate number c => exact readMessage_stockCandidate h
  | moveCall tag call info =>
    obtain ⟨hcall, hinfo⟩ : call < 256 ∧ info.fits = true := by simpa [Message.fits] using h
    simp [readMessage, Message.kind, Message.payload, readMove_cons_succ, readMove_moveBytes hinfo,
      Nat.mod_eq_of_lt hcall]
  | moveAward tag info =>
    simp [readMessage, Message.kind, Message.payload, readMove_cons_succ, readMove_moveBytes h]
  | custodyAccept i | custodyRelease i | unreserve i =>
    obtain ⟨ho, hs⟩ : i.origin < 256 ∧ i.serial < 65536 := by simpa [Message.fits] using h
    exact congrArg some (congrArg _ (readId_idBytes_end ho hs))
  | custodyRefuse i reason | reserveReply number i result =>
    obtain ⟨ho, hs⟩ : i.origin < 256 ∧ i.serial < 65536 := by simpa [Message.fits] using h
    simp [readMessage, Message.kind, Message.payload, readId_idBytes ho hs]
  | reserve number i requester =>
    obtain ⟨⟨ho, hs⟩, hr⟩ : (i.origin < 256 ∧ i.serial < 65536) ∧ requester < 256 := by simpa [Message.fits] using h
    simp [readMessage, Message.kind, Message.payload, readId_idBytes ho hs, fieldNat_append, Nat.mod_eq_of_lt hr]
  | stockQuery number q =>
    simp only [Message.fits, Bool.and_eq_true, decide_eq_true_eq] at h
    obtain ⟨⟨⟨⟨hg, hm⟩, ht⟩, hl⟩, hw⟩ := h
    simp [readMessage, Message.kind, Message.payload, fieldNat_append, Nat.mod_eq_of_lt, hg, hm, ht, hl, hw]
  | moveBid tag call bid =>
    obtain ⟨hc, hb⟩ : call < 256 ∧ bid < 16777216 := by simpa [Message.fits] using h
    simp [readMessage, Message.kind, Message.payload, Nat.mod_eq_of_lt hc, Nat.mod_eq_of_lt hb]
  | moveDone tag carried taker =>
    simp [readMessage, Message.kind, Message.payload, readOptStation_optStationByte h]
  | awardReply tag taken | revokeReply tag late => simp [readMessage, Message.kind, Message.payload]
  | moveRevoke tag | moveStarted tag | moveReturn tag => rfl

end

/-! ### The beacon a part sends (R53) -/

section
variable {a bs : List Byte} {b : Byte} {i k : Nat} {v : Int}

theorem fieldInt_append (h : a.length ≤ i) : fieldInt (a ++ bs) i k = fieldInt bs (i - a.length) k := by
  simp [fieldInt, fieldNat_append h]

theorem fieldInt_cons_succ : fieldInt (b :: bs) (i + 1) k = fieldInt bs i k := by simp [fieldInt]

theorem fieldInt_leInt : fieldInt (leInt k v ++ bs) 0 k = v.bmod (2 ^ (8 * k)) := by
  have hpow : 256 ^ k = 2 ^ (8 * k) := by rw [Nat.pow_mul]
  rw [fieldInt, leInt, fieldNat_leBytes, hpow, Nat.mod_eq_of_lt (BitVec.isLt _), BitVec.ofNat_toNat,
    BitVec.setWidth_eq, BitVec.toInt_ofInt]

/-- A signed speed of 5,000 mm/s at most fits its two bytes (R181, R182). -/
theorem fieldInt_speed (h : v.natAbs ≤ 5000) : fieldInt (leInt 2 v ++ bs) 0 2 = v := by
  rw [fieldInt_leInt]
  exact Int.bmod_eq_of_le (by omega) (by omega)

@[simp] theorem rectBytes_length (r : Rect) : (rectBytes r).length = 12 := by simp [rectBytes]

theorem readRect_append (h : a.length ≤ i) : readRect (a ++ bs) i = readRect bs (i - a.length) := by
  simp only [readRect, fieldNat_append h, fieldNat_append (Nat.le_add_right_of_le h), Nat.sub_add_comm h]

theorem readRect_cons_succ : readRect (b :: bs) (i + 1) = readRect bs i := by
  simp only [readRect, Nat.add_right_comm i 1, fieldNat_cons_succ]

end

/-- The rectangle stands within the hall of a parameter set, its bounds in order (R8). -/
def Rect.inHall (p : Params) (r : Rect) : Prop :=
  (0 ≤ r.xlo ∧ r.xlo ≤ r.xhi ∧ r.xhi ≤ p.xmax) ∧ 0 ≤ r.ylo ∧ r.ylo ≤ r.yhi ∧ r.yhi ≤ p.ymax

theorem Rect.inHall_bedRect {q p : Params} (hx : q.bedX + q.bedLength ≤ p.xmax) (hy : q.bedY + q.bedWidth ≤ p.ymax) :
    q.bedRect.inHall p := by
  simp only [Rect.inHall, Params.bedRect]
  omega

section
variable {p : Params} {r : Rect} {bs : List Byte}

theorem clampInt_eq {lo hi n : Int} (hlo : lo ≤ n) (hhi : n ≤ hi) : clampInt lo hi n = n := by
  rw [clampInt, min_eq_right hhi, max_eq_right hlo]

theorem Rect.toHall_inHall (h : r.inHall p) : r.toHall p = r := by
  obtain ⟨⟨hx0, hx, hx1⟩, hy0, hy, hy1⟩ := h
  simp only [Rect.toHall, clampInt_eq hx0 (hx.trans hx1), clampInt_eq (hx0.trans hx) hx1,
    clampInt_eq hy0 (hy.trans hy1), clampInt_eq (hy0.trans hy) hy1]

theorem Rect.ordered_inHall (h : r.inHall p) : r.ordered = r := by
  obtain ⟨⟨-, hx, -⟩, -, hy, -⟩ := h
  simp only [Rect.ordered, min_eq_left hx, max_eq_right hx, min_eq_left hy, max_eq_right hy]

/-- A bound of the hall takes three bytes (R181). -/
theorem readRect_rectBytes (h : r.inHall p) (hx : p.xmax < 16777216) (hy : p.ymax < 16777216) :
    readRect (rectBytes r ++ bs) 0 = r := by
  obtain ⟨⟨hx0, hx1, hx2⟩, hy0, hy1, hy2⟩ := h
  have hbound : ∀ {n : Int}, 0 ≤ n → n < 16777216 → ((n.toNat % 16777216 : Nat) : Int) = n := by omega
  have hlow : r.xlo < 16777216 ∧ r.xhi < 16777216 ∧ r.ylo < 16777216 ∧ r.yhi < 16777216 := by omega
  obtain ⟨hxlo, hxhi, hylo, hyhi⟩ := hlow
  have hfields : fieldNat (rectBytes r ++ bs) 0 3 = r.xlo.toNat % 16777216
      ∧ fieldNat (rectBytes r ++ bs) 3 3 = r.xhi.toNat % 16777216
      ∧ fieldNat (rectBytes r ++ bs) 6 3 = r.ylo.toNat % 16777216
      ∧ fieldNat (rectBytes r ++ bs) 9 3 = r.yhi.toNat % 16777216 := by
    simp [rectBytes, fieldNat_append]
  obtain ⟨h0, h3, h6, h9⟩ := hfields
  simp only [readRect, Nat.zero_add, h0, h3, h6, h9, hbound hx0 hxlo, hbound (hx0.trans hx1) hxhi, hbound hy0 hylo,
    hbound (hy0.trans hy1) hyhi]

/-- A bed or a window in the hall is read back, and holding it within the hall leaves it (R8, R24). -/
theorem toHall_readRect (h : r.inHall p) (hx : p.xmax < 16777216) (hy : p.ymax < 16777216) :
    (readRect (rectBytes r ++ bs) 0).toHall p = r := by
  rw [readRect_rectBytes h hx hy, Rect.toHall_inHall h]

end

@[simp] theorem readLoad_code (l : LoadState) : readLoad l.code = l := by cases l <;> rfl

@[simp] theorem readHook_code (h : HookClass) : readHook h.code = h := by cases h <;> rfl

@[simp] theorem readFume_code (f : FumeClass) : readFume f.code = f := by cases f <;> rfl

@[simp] theorem readRelease_code (r : Release) : readRelease r.code = r := by cases r <;> rfl

theorem flagCode_ne_zero (b : Bool) : decide (flagCode b ≠ 0) = b := by cases b <;> rfl

section
variable {s : State} {p : Params}

/-- A crane's report is read back where it holds the ranges that a receiver brings it into (R5, R53). -/
theorem beaconPayload_crane (span : Span) (hrole : s.role = .crane) (hxmax : p.xmax < 16777216)
    (hymax : p.ymax < 16777216) (hx : s.env.own.x ≤ p.xmax) (hy : s.env.own.y ≤ p.ymax)
    (hvx : s.env.own.vx.natAbs ≤ 5000) (hvy : s.env.own.vy.natAbs ≤ 5000) (hhx : s.env.own.hx ≤ 12000)
    (hhy : s.env.own.hy ≤ 12000) (hage : s.env.own.age s.time ≤ 255) :
    readCrane p span s.beaconPayload
        = { x := s.env.own.x, y := s.env.own.y, vx := s.env.own.vx, vy := s.env.own.vy, hx := s.env.own.hx,
            hy := s.env.own.hy, load := s.env.own.load, hook := s.env.own.hook, span := span }
      ∧ s.beaconPayload.length = 17 ∧ fieldNat s.beaconPayload 0 1 = s.env.own.age s.time := by
  have hheld : ∀ {v : Int}, v.natAbs ≤ 5000 → clampInt (-5000) 5000 v = v := fun h =>
    clampInt_eq (by omega) (by omega)
  simp only [State.beaconPayload, hrole]
  simp [readCrane, fieldNat_append, fieldInt_append, fieldInt_cons_succ, fieldInt_speed hvx, fieldInt_speed hvy,
    hheld hvx, hheld hvy]
  omega

/-- The live window of an announcement, or the twelve zero bytes of one without a window, behind the byte that says
which (R182). -/
def windowBytes (w : Option Rect) : List Byte :=
  match w with
  | some w => [1] ++ rectBytes w
  | none => [0] ++ List.replicate 12 0

theorem windowBytes_length (w : Option Rect) : (windowBytes w).length = 13 := by
  cases w <;> simp [windowBytes]

theorem beaconPayload_cutter_eq (hrole : s.role = .cutter) : s.beaconPayload
    = 0 :: (rectBytes s.cfg.params.bedRect ++ (windowBytes s.rc.live.window
      ++ [s.rc.live.fume.code, flagCode s.lu.arcPermit, s.rc.release.code])) := by
  simp only [State.beaconPayload, hrole]
  cases s.rc.live.window <;> simp [windowBytes]

/-- A cutter's announcement is read back where its bed and its live window stand in the hall (R24, R53). -/
theorem beaconPayload_cutter (hrole : s.role = .cutter) (hxmax : p.xmax < 16777216) (hymax : p.ymax < 16777216)
    (hbed : s.cfg.params.bedRect.inHall p) (hwindow : ∀ w, s.rc.live.window = some w → w.inHall p) :
    readCutter p s.beaconPayload
        = { bed := s.cfg.params.bedRect, window := s.rc.live.window, fume := s.rc.live.fume,
            arcOn := s.lu.arcPermit, release := s.rc.release }
      ∧ s.beaconPayload.length = 29 ∧ fieldNat s.beaconPayload 0 1 = 0 := by
  have hbytes := beaconPayload_cutter_eq hrole
  have hcodes : s.beaconPayload.getD 26 0 = s.rc.live.fume.code
      ∧ s.beaconPayload.getD 27 0 = flagCode s.lu.arcPermit ∧ s.beaconPayload.getD 28 0 = s.rc.release.code := by
    simp [hbytes, windowBytes_length]
  obtain ⟨hfume, harc, hrelease⟩ := hcodes
  have hbedRead : (readRect s.beaconPayload 1).toHall p = s.cfg.params.bedRect := by
    rw [hbytes, readRect_cons_succ, toHall_readRect hbed hxmax hymax]
  refine ⟨?_, by simp [hbytes, windowBytes_length], by simp [hbytes]⟩
  simp only [readCutter, hbedRead, Rect.ordered_inHall hbed, hfume, harc, hrelease, readFume_code, readRelease_code,
    flagCode_ne_zero]
  cases hw : s.rc.live.window with
  | none =>
    have hshown : s.beaconPayload.getD 13 0 = 0 := by simp [hbytes, hw, windowBytes]
    rw [if_pos hshown]
  | some w =>
    have hin := hwindow w hw
    have hshown : s.beaconPayload.getD 13 0 = 1 := by simp [hbytes, hw, windowBytes]
    have hread : (readRect s.beaconPayload 14).toHall p = w := by
      simp [hbytes, hw, windowBytes, readRect_cons_succ, readRect_append, toHall_readRect hin hxmax hymax]
    obtain ⟨⟨-, hx, -⟩, -, hy, -⟩ := hin
    rw [hread, hshown, if_neg (by decide), if_neg (by omega)]

/-- A rack's announcement: its anchor modulo the size of the field, and its free slots (R25, R53). -/
theorem beaconPayload_rack (hrole : s.role = .rack) (hslots : s.cfg.params.slotCount ≤ 64) :
    fieldNat s.beaconPayload 0 1 = 0 ∧ fieldNat s.beaconPayload 1 3 = s.cfg.params.anchorX % 16777216
      ∧ fieldNat s.beaconPayload 4 3 = s.cfg.params.anchorY % 16777216 ∧ fieldNat s.beaconPayload 7 1 = s.freeSlots
      ∧ s.beaconPayload.length = 8 := by
  have hfree : s.freeSlots ≤ s.cfg.params.slotCount := by
    calc s.freeSlots ≤ s.slots.length := List.length_filter_le ..
      _ = s.cfg.params.slotCount := by simp [State.slots]
  simp only [State.beaconPayload, hrole]
  simp [fieldNat_append]
  omega

end

/-- Settles O25: each layout is read back field by field, behind the fields before it. -/
theorem payloadsAreReadBack : Obligations.PayloadsAreReadBack := by
  refine ⟨fun m source h => ⟨readMessage_payload h, payload_length h⟩, fun s p span _ _ hxmax hymax => ⟨?_, ?_, ?_⟩⟩
  · exact fun hrole hx hy hvx hvy hhx hhy hage => beaconPayload_crane span hrole hxmax hymax hx hy hvx hvy hhx hhy hage
  · intro hrole hbedX hbedY hwindow
    refine beaconPayload_cutter hrole hxmax hymax (Rect.inHall_bedRect hbedX hbedY) fun w hw => ?_
    obtain ⟨hx0, hx, hx1, hy0, hy, hy1⟩ := hwindow w hw
    exact ⟨⟨hx0, hx, hx1⟩, hy0, hy, hy1⟩
  · exact beaconPayload_rack

end Sys2Proof.Machine
end

section
/-! PROOF. HAND_OFF (R121) and the offer of a record to its taker (R123). -/

namespace Sys2Proof.Machine

/-- A request of a good frame that finds the part loaded and room in the buffer goes to its owner (R168). -/
theorem loadedRequest_takes {s : State} {f : WriteFrame} (h : s.takes f) (code : RequestCode)
    (act : State → State × Answer) : loadedRequest f code act s = takenRequest code act s := by
  obtain ⟨hloaded, hroom, hlen, hcut, -⟩ := h
  have hbuf : ¬ 4 ≤ s.sp.buffer.length := by omega
  simp only [loadedRequest, request, frameBad_eq_false hlen hcut, hbuf, hloaded, if_true, if_false, true_or,
    Bool.false_eq_true]

section
variable {s : State} {n : Nat} {r : StockRecord} {taker : Nat}

/-! ### The offer of a record (R42, R123) -/

/-- A record once it is offered to its taker, its offer timer started (R123). -/
def StockRecord.offered (r : StockRecord) (s : State) (taker : Nat) : StockRecord :=
  { r with custody := .offered, partner := some taker, timer := some ⟨s.time, s.cfg.params.offerTime⟩ }

/-- The part once the record at a position is offered, the telegram apart (R123). -/
def State.offering (s : State) (n : Nat) (r : StockRecord) (taker : Nat) : State :=
  { s with st := { s.st with
      records := s.st.records.set n (some (r.offered s taker))
      offersMade := bump s.st.offersMade } }

/-- An offer that the link does not refuse, whether it queues the telegram or discards it (R123). -/
theorem offerRecord_accepted {f : Flc} (hr : entryAt s.st.records n = some r)
    (h : offer taker (.custodyOffer r.piece) s = ({ s with flc := f }, false)) :
    offerRecord n r taker s = ({ s.offering n r taker with flc := f }, false) := by
  simp only [offerRecord, h, Stock.update, modifyAt_eq hr]
  rfl

theorem offerRecord_refused {t : State} (h : offer taker (.custodyOffer r.piece) s = (t, true)) :
    offerRecord n r taker s = (countStockRefusal t, true) := by
  simp only [offerRecord, h, if_true]

/-- An ISOLATED link takes the message and discards it (R42). -/
theorem offer_isolated {cause : IsolationCause} (h : s.flc.link = .isolated cause) (dest : Nat) (m : Message) :
    offer dest m s = (countLink (fun c => { c with isolationDiscards := bump c.isolationDiscards }) s, false) := by
  simp only [offer, h, countLink]

/-- A message to a good destination whose class is full is refused and counted (R42). -/
theorem offer_full {dest : Nat} {m : Message} (h : s.flc.link = .normal)
    (hdest : goodDestination s.cfg.params.station dest m = true) (hfull : 8 ≤ (s.flc.queueOf m.txClass).length) :
    offer dest m s = (countLink (fun c => { c with refused := bump c.refused }) s, true) := by
  simp only [offer, h, hdest, hfull, countLink, Bool.not_true, Bool.false_eq_true, if_false, if_true]

/-! ### HAND_OFF (R121) -/

theorem exec_handOff {f : WriteFrame} {i : StockId} {t : State} {code : ResultCode} (h : s.takes f)
    (hact : takeHandOff true i taker s.begun = (t, code, .none)) :
    exec (.handOff f i taker) s = .next (s.replied .handOff code .none t) := by
  obtain ⟨-, -, -, -, hsuits⟩ := id h
  change Host.Outcome.next (loadedRequest f .handOff (takeHandOff f.suits i taker) s) = _
  rw [loadedRequest_takes h, hsuits, takenRequest_eq hact]

/-- The station checks stand before the record's own (R121). -/
theorem takeHandOff_station {i : StockId} (hmode : s.sp.mode ≠ .offline)
    (h : inRange 1 62 taker = false ∨ taker = s.cfg.params.station) :
    takeHandOff true i taker s = refuse .badStation s := by
  have hbad : ¬ inRange 1 62 taker = true ∨ taker = s.cfg.params.station := h.imp_left (by simp)
  simp only [takeHandOff, hmode, hbad, if_true, if_false, not_true]

theorem takeHandOff_noRecord {i : StockId} (hmode : s.sp.mode ≠ .offline) (hrange : inRange 1 62 taker = true)
    (hown : taker ≠ s.cfg.params.station) (hfind : s.st.find i = none) :
    takeHandOff true i taker s = refuse .noRecord s := by
  simp [takeHandOff, hmode, hrange, hown, hfind]

/-- The checks of a record that the table holds, in their order (R121). -/
def State.handOffCheck (s : State) (n : Nat) (r : StockRecord) : Option ResultCode :=
  firstOf [(decide (r.custody ≠ .held), .notHeld), (s.atLockedSlot r, .slotLocked),
    (s.unmarkedRemnant r, .unmarked), (s.bedInWork n, .busy)]

/-- A record that the table holds is judged by its own four checks, and offered (R121, R123). -/
theorem takeHandOff_record {i : StockId} (hmode : s.sp.mode ≠ .offline) (hrange : inRange 1 62 taker = true)
    (hown : taker ≠ s.cfg.params.station) (hfind : s.st.find i = some n) (hr : entryAt s.st.records n = some r) :
    takeHandOff true i taker s = judge (s.handOffCheck n r)
      (fun s => if (offerRecord n r taker s).2 then refuse .sendRefused (offerRecord n r taker s).1
        else answerOk (offerRecord n r taker s).1) s := by
  have hrec : s.st.record i = some r := by simp [Stock.record, hfind, hr]
  simp only [takeHandOff, hmode, hrange, hown, hfind, hrec, if_false, not_true, or_self]
  rfl

end

/-- Settles O43: the checks in their order, and what the link does with the offer of a record that passes them. -/
theorem handOffIsJudgedAndOffered : Obligations.HandOffIsJudgedAndOffered := by
  unfold Obligations.HandOffIsJudgedAndOffered
  refine ⟨?_, ?_⟩
  · intro s f i taker n r htakes hmode hrange hown hfind hr hheld hlock hmark hbed offered counts
    have hact := takeHandOff_record (s := s.begun) hmode hrange hown hfind hr
    have hcheck : s.begun.handOffCheck n r = none := by
      change s.handOffCheck n r = none
      simp [State.handOffCheck, firstOf, hheld, hlock, hmark, hbed]
    rw [hcheck] at hact
    have haccepted : ∀ g : Flc, offer taker (.custodyOffer r.piece) s.begun = ({ s.begun with flc := g }, false) →
        exec (.handOff f i taker) s = .next (s.replied .handOff .ok .none { offered with flc := g }) := fun g hg =>
      exec_handOff htakes (by rw [hact, judge, offerRecord_accepted (s := s.begun) hr hg]; rfl)
    refine ⟨fun hlink => haccepted _ (offer_taken (s := s.begun) hlink),
      fun cause hlink => haccepted _ (offer_isolated (s := s.begun) hlink ..), fun hlink hfull => ?_⟩
    have hdest : goodDestination s.cfg.params.station taker (.custodyOffer r.piece) = true := by
      simp [goodDestination, hrange, hown]
    have hrefused := offerRecord_refused (n := n) (offer_full (s := s.begun) hlink hdest hfull)
    exact exec_handOff htakes (by rw [hact, judge, hrefused]; rfl)
  · intro s f i taker htakes no
    have hno : ∀ code, takeHandOff true i taker s.begun = refuse code s.begun → no code := fun code h =>
      exec_handOff htakes h
    refine ⟨fun hoff => hno _ (if_pos hoff), fun hmode => ⟨fun h => hno _ (takeHandOff_station hmode h),
      fun hrange hown => ⟨fun hfind => hno _ (takeHandOff_noRecord hmode hrange hown hfind),
        fun n r hfind hr => ?_⟩⟩⟩
    have hact := takeHandOff_record (s := s.begun) hmode hrange hown hfind hr
    have hfails : ∀ code, s.handOffCheck n r = some code → no code := fun code h =>
      hno code (by rw [hact, show s.begun.handOffCheck n r = some code from h, judge])
    refine ⟨fun hheld => hfails _ ?_, fun hheld => ⟨fun hlock => hfails _ ?_, fun hlock hmark => hfails _ ?_,
      fun hlock hmark hbed => hfails _ ?_⟩⟩ <;> simp [State.handOffCheck, firstOf, *]

end Sys2Proof.Machine
end

section
/-! PROOF. The order in which a telegram is judged (R39, R40; log 9), and what a telegram with the part's own source
does (R48, R50). -/

namespace Sys2Proof.Machine

/-! ### A telegram that is not delivered (R39, R40) -/

/-- Every telegram command is judged by the receive path, with the code and the payload length of its kind (R182). -/
theorem exec_telegram {c : Instr} {kind : Byte} {length : Option Nat} {t : Telegram}
    (hc : receivedTelegram c = some (kind, length, t)) (s : State) :
    ∃ deliver, exec c s = .next (receive kind length deliver t s) := by
  unfold receivedTelegram at hc
  split at hc
  all_goals cases hc
  all_goals exact ⟨_, rfl⟩

section
variable {s : State} {kind : Byte} {length : Option Nat} {deliver : State → State} {t : Telegram}

theorem receive_unjudged (h : s.isLoaded = false ∨ s.flc.attempt ≠ none) : receive kind length deliver t s = s := by
  rcases h with h | h
  · simp [receive, h]
  · simp [receive, Option.isSome_iff_ne_none.2 h]

/-- What the receive path does with a telegram while the part is loaded and sends nothing (R40). -/
theorem receive_judged (hloaded : s.isLoaded = true) (hidle : s.flc.attempt = none) :
    receive kind length deliver t s =
      if 60 < t.payload.length then framingError s
      else if ¬ crcGood t kind then countLink (fun c => { c with crcErrors := bump c.crcErrors }) s
      else if t.source.toNat = s.cfg.params.station then duplicate s
      else if ¬ s.addressed t.dest.toNat then countLink (fun c => { c with filtered := bump c.filtered }) s
      else if length ≠ some t.payload.length then countLink (fun c => { c with kindErrors := bump c.kindErrors }) s
      else deliver (countLink (fun c => { c with received := bump c.received }) s) := by
  simp only [receive, hloaded, hidle, not_true, if_false, Option.isSome_none, Bool.false_eq_true]

end

/-! ### An entry into ISOLATED (R48, R165) -/

section
variable {s : State} {cause : IsolationCause}

/-- What isolation does to a crane's queue (R165), in the state `u` of a step taken in `s`: the unstarted moves are
counted and reported, and the queue is replaced. -/
def State.unstartedDropped (s u : State) : State :=
  let kept := s.mu.queue.filter (fun m => m.started)
  let n := s.mu.queue.length - kept.length
  let v : State := { u with mu := { u.mu with counts := { u.mu.counts with
    movesDropped := min (u.mu.counts.movesDropped + n) 65535 } } }
  if s.role = .crane then s.requeued kept (if n = 0 then v else raise (.movesDropped n) v) else u

/-- Replacing the queue of a state that still holds that of `s` reports a new head alone (R160). -/
theorem setMoveQueue_requeued {u : State} (q : List QueuedMove) (h : u.mu.queue = s.mu.queue) :
    setMoveQueue q u = s.requeued q u := by
  simp only [setMoveQueue, State.requeued, headKey, headReport, h]

theorem requeued_queue (q : List QueuedMove) (u : State) : (s.requeued q u).mu.queue = q := by
  unfold State.requeued
  split
  · rfl
  · simp

theorem dropUnstarted_eq {u : State} (hrole : s.role = .crane) (hmu : u.mu = s.mu) :
    dropUnstarted u = s.unstartedDropped u := by
  simp only [dropUnstarted, State.unstartedDropped, hrole, if_true, hmu, bumpBy]
  rw [setMoveQueue_requeued (s := s) _ (by split <;> simp)]
  rcases Nat.eq_zero_or_pos (s.mu.queue.length - (s.mu.queue.filter (fun m => m.started)).length) with h | h
  · simp [h]
  · rw [if_pos (Nat.succ_le_of_lt h), if_neg (Nat.ne_of_gt h)]

/-- An entry into ISOLATED: the link, its notice, and a crane's queue (R48, R165). -/
theorem isolate_eq : isolate cause s
    = s.unstartedDropped (raise (.linkIsolated cause) { s with flc := s.flc.isolate cause s.time }) := by
  have hraise := raise_eq (.linkIsolated cause) { s with flc := s.flc.isolate cause s.time }
  have hrole : (raise (.linkIsolated cause) { s with flc := s.flc.isolate cause s.time }).role = s.role := by
    rw [hraise]
    rfl
  simp only [isolate, hrole]
  split
  · exact dropUnstarted_eq ‹_› (by rw [hraise])
  · rw [State.unstartedDropped, if_neg ‹_›]

theorem isolate_flc : (isolate cause s).flc = s.flc.isolate cause s.time := by
  simp only [isolate]
  split <;> simp

theorem isolate_crane_queue (h : s.role = .crane) :
    (isolate cause s).mu.queue = s.mu.queue.filter (fun m => m.started) := by
  simp only [isolate_eq, State.unstartedDropped, h, if_true, requeued_queue]

/-- An entry into ISOLATED touches the link, the move unit and the notices alone (R48, R165). -/
theorem isolate_elsewhere : { isolate cause s with flc := s.flc, mu := s.mu, sp := s.sp } = s := by
  obtain ⟨hpending, htime, hcfg, hpt, henv, hsq, hrc, hlc, hst, hsu, -, -, -, hlu, hfree⟩ := isolate_frame cause s
  simp only [hpending, htime, hcfg, hpt, henv, hsq, hrc, hlc, hst, hsu, hlu, hfree]

end

/-- Settles O26: the receive path's checks one after the other, and the three cases of the own source. -/
theorem telegramsAreJudgedInOrder : Obligations.TelegramsAreJudgedInOrder := by
  unfold Obligations.TelegramsAreJudgedInOrder
  intro c kind length t s hc n counted
  obtain ⟨deliver, hexec⟩ := exec_telegram hc s
  refine ⟨fun h => by rw [hexec, receive_unjudged h], fun hloaded hidle => ?_⟩
  rw [receive_judged hloaded hidle] at hexec
  refine ⟨fun hlong => ?_, ?_⟩
  · rw [if_pos hlong] at hexec
    exact hexec
  have hshort : t.payload.length ≤ 60 → exec c s = .next _ := fun hlen => by rw [hexec, if_neg (Nat.not_lt.2 hlen)]
  refine ⟨fun hlen hcrc => ?_, fun hlen hcrc hown => ?_, fun hlen hcrc hother => ?_⟩
  · exact (hshort hlen).trans (by rw [if_pos (by simp [hcrc])]; rfl)
  · have hdup : exec c s = .next (duplicate s) := (hshort hlen).trans (by rw [if_neg (by simp [hcrc]), if_pos hown])
    refine ⟨fun hlink => ?_, fun hlink => ?_, fun cause hlink hne => ?_⟩
    · have hisolate : duplicate s = isolate .duplicate s := by simp only [duplicate, hlink]
      refine ⟨_, hdup.trans (by rw [hisolate]), isolate_flc, fun hrole => ?_, isolate_crane_queue, isolate_elsewhere⟩
      rw [isolate_flc, isolate_eq, State.unstartedDropped, if_neg hrole]
    · exact hdup.trans (by simp only [duplicate, hlink]; rfl)
    · cases cause with
      | duplicate => exact absurd rfl hne
      | collisions | jabber => exact hdup.trans (by simp only [duplicate, hlink]; rfl)
  · have hforeign : exec c s = .next _ := (hshort hlen).trans (by rw [if_neg (by simp [hcrc]), if_neg hother])
    refine ⟨fun hfar => ?_, fun hnear hkind => ?_⟩
    · exact hforeign.trans (by rw [if_pos (by simp [hfar])]; rfl)
    · exact hforeign.trans (by rw [if_neg (by simp [hnear]), if_pos hkind]; rfl)

end Sys2Proof.Machine
end

section
/-! PROOF. What the link sends: beacons offered to their class (R44, R51, R52), attempts begun and ended clean (R43,
R45, R53), and clean probes (R49). -/

namespace Sys2Proof.Machine

/-! ### Beacons that join a class (R44, R51, R52) -/

/-- A beacon that waits in its class, not yet begun. -/
def Queued.newBeacon : Queued := ⟨0, .beacon, 0, none⟩

section
variable {f : Flc} {c : TxClass}

theorem onLine_eq (f : Flc) (c : TxClass) :
    f.onLine c = if f.attempt.any (fun a => a.source = .queue c) then 1 else 0 := by
  cases h : f.attempt <;> simp [Flc.onLine, h]

theorem placeBeacon_joins (h : (f.queueOf c).drop (f.onLine c) = []) :
    placeBeacon c f = f.setQueue c (f.queueOf c ++ [.newBeacon]) := by
  simp only [placeBeacon, h, Queued.newBeacon]

/-- A beacon takes the place of the first one of its class that is not being sent (R44; log 55). -/
theorem placeBeacon_supersedes {x : Queued} {rest : List Queued} (h : (f.queueOf c).drop (f.onLine c) = x :: rest) :
    placeBeacon c f = { f.setQueue c ((f.queueOf c).take (f.onLine c) ++ .newBeacon :: rest) with
      counts := { f.counts with superseded := bump f.counts.superseded } } := by
  simp only [placeBeacon, h, Queued.newBeacon]

end

section
variable {s : State}

/-- The expiry of the beacon timer, which runs on, offers a periodic beacon where the part announces itself (R51). -/
theorem exec_beaconTimerExpiry {timer : Timer} (ht : s.flc.beaconTimer = some timer)
    (hdue : s.expired (some timer) = true) : exec .beaconTimerExpiry s
      = .next (if s.announces
        then { s with flc := placeBeacon .periodic { s.flc with beaconTimer := some timer.again } }
        else { s with flc := { s.flc with beaconTimer := some timer.again } }) := by
  simp only [exec, execBeaconTimerExpiry, ht, hdue, if_true]
  rfl

/-- The spacing ends while an urgent beacon waits for it: the beacon is offered, and the spacing starts again (R52). -/
theorem spacingEnds_pending (hpending : s.flc.urgentPending = true) (hann : s.announces = true) : spacingEnds s
    = { s with flc := placeBeacon .urgent { s.flc with
        urgentPending := false
        spacingTimer := some ⟨s.time, 20⟩ } } := by
  simp only [spacingEnds, hpending, if_true]
  exact if_pos hann

theorem exec_urgentSpacingExpiry (hdue : s.expired s.flc.spacingTimer = true) :
    exec .urgentSpacingExpiry s = .next (spacingEnds s) := by
  simp only [exec, execUrgentSpacingExpiry, hdue, if_true]

/-! ### Attempts (R43, R45, R53) -/

/-- The class whose front is sent is the lowest that is not empty (R43). -/
theorem firstClass_eq {f : Flc} {c : TxClass} (hne : f.queueOf c ≠ []) (h0 : c = .urgent ∨ f.class0 = [])
    (h1 : c = .urgent ∨ c = .custody ∨ f.class1 = []) (h2 : c ≠ .periodic ∨ f.class2 = []) : f.firstClass = some c := by
  cases c <;> simp_all [Flc.firstClass, Flc.queueOf]

theorem exec_attemptStart {c : TxClass} (hfirst : s.flc.firstClass = some c) (hmay : s.mayAttempt = true) :
    exec .attemptStart s = .next (startAttempt c s) := by
  simp only [exec, execAttemptStart, hfirst, hmay, if_true]

/-- What goes on the line: the header, the payload, and a CRC that is good for them (R38). -/
theorem telegramCharacters_crcGood (dest source : Nat) (kind seq : Byte) (payload : List Byte) :
    ∃ lo hi : Byte, telegramCharacters dest source kind seq payload
        = [BitVec.ofNat 8 dest, BitVec.ofNat 8 source, kind, seq, BitVec.ofNat 8 payload.length] ++ payload ++ [lo, hi]
      ∧ crcGood ⟨BitVec.ofNat 8 dest, BitVec.ofNat 8 source, seq, payload, lo, hi⟩ kind = true :=
  ⟨_, _, rfl, decide_eq_true rfl⟩

section
variable {c : TxClass} {q : Queued} {rest : List Queued}

theorem startAttempt_message {m : Message} (hq : s.flc.queueOf c = q :: rest) (hm : q.body = .message m) :
    startAttempt c s = { s with flc := { s.flc with attempt := some ⟨.queue c,
      telegramCharacters q.dest s.cfg.params.station m.kind.code 0 m.payload⟩ } } := by
  simp only [startAttempt, hq, hm]
  rfl

/-- A beacon takes its sequence at its first attempt, and its content is formed at each (R53). -/
theorem startAttempt_beacon (hq : s.flc.queueOf c = q :: rest) (hb : q.body = .beacon)
    (hsend : s.beaconWithheld = false) :
    startAttempt c s = { s with flc := { s.flc.setQueue c
        ({ q with sequence := some (q.sequence.getD s.flc.beaconSeq) } :: rest) with
      beaconSeq := if q.sequence = none then s.flc.beaconSeq + 1 else s.flc.beaconSeq
      attempt := some ⟨.queue c, s.beaconCharacters (q.sequence.getD s.flc.beaconSeq)⟩ } } := by
  obtain ⟨dest, body, attempts, sequence⟩ := q
  obtain rfl : body = .beacon := hb
  simp only [startAttempt, hq, hsend]
  cases sequence <;> rfl

theorem startAttempt_withheld (hq : s.flc.queueOf c = q :: rest) (hb : q.body = .beacon)
    (hold : s.beaconWithheld = true) :
    startAttempt c s = { s with flc := { s.flc.setQueue c rest with
      counts := { s.flc.counts with drops := bump s.flc.counts.drops } } } := by
  simp only [startAttempt, hq, hb, hold, withFlc, Flc.popFront, List.tail_cons, if_true]

end

theorem sending_eq {a : Attempt} (hloaded : s.isLoaded = true) (h : s.flc.attempt = some a) : s.sending = some a := by
  rw [State.sending, if_pos hloaded, h]

/-- A clean attempt: its telegram leaves the front of its class (R45). -/
theorem exec_attemptClean_queue {c : TxClass} {characters : List Byte} (hloaded : s.isLoaded = true)
    (hattempt : s.flc.attempt = some ⟨.queue c, characters⟩) : exec .attemptClean s
      = .next { s with flc := { s.flc.setQueue c ((s.flc.queueOf c).drop 1) with
        attempt := none
        collisionRun := 0
        counts := { s.flc.counts with sent := bump s.flc.counts.sent } } } := by
  simp only [exec, execAttemptClean, sending_eq hloaded hattempt, Flc.popFront, List.drop_one]
  cases c <;> rfl

/-- A clean probe is counted, and its attempt ends (R49). -/
theorem exec_attemptClean_probe {characters : List Byte} (hloaded : s.isLoaded = true)
    (hattempt : s.flc.attempt = some ⟨.probe, characters⟩) : exec .attemptClean s
      = .next (probeClean { s with flc := { s.flc with
        attempt := none
        counts := { s.flc.counts with sent := bump s.flc.counts.sent } } }) := by
  simp only [exec, execAttemptClean, sending_eq hloaded hattempt]
  rfl

end

/-- Settles O27: the two timers' beacons, the attempt that begins, and the attempt that ends clean. -/
theorem linkSendsItsQueues : Obligations.LinkSendsItsQueues := by
  refine ⟨?_, ?_, ?_, ?_⟩
  · intro s timer ht hdue k f run
    have hk : k = s.flc.onLine .periodic := (onLine_eq ..).symm
    have hrun : run = _ := exec_beaconTimerExpiry ht hdue
    refine ⟨fun hsilent => ?_, fun hann hnone => ?_, fun x rest hann hrest => ?_⟩
    · rw [hrun, hsilent]
      rfl
    · rw [hrun, if_pos hann, placeBeacon_joins (by rw [hk] at hnone; exact hnone)]
      rfl
    · rw [hk] at hrest ⊢
      rw [hrun, if_pos hann, placeBeacon_supersedes (by exact hrest)]
      rfl
  · intro s hdue
    rw [exec_urgentSpacingExpiry hdue]
    refine ⟨fun hcalm => by rw [spacingEnds, hcalm]; rfl, fun hpending hann hempty => ?_⟩
    rw [spacingEnds_pending hpending hann, placeBeacon_joins (by simp [Flc.queueOf, hempty])]
    simp only [Flc.queueOf, hempty]
    rfl
  · intro s c q rest hloaded hlink hbackoff hattempt hq h0 h1 h2 onLine
    have hstart := exec_attemptStart (firstClass_eq (by simp [hq]) h0 h1 h2)
      (by simp [State.mayAttempt, hloaded, hlink, hbackoff, hattempt])
    refine ⟨fun m hm => ?_, fun hb hdest hsend => ?_, fun hb hold => ?_⟩
    · exact ⟨_, telegramCharacters_crcGood .., by rw [hstart, startAttempt_message hq hm]⟩
    · refine ⟨_, ?_, by rw [hstart, startAttempt_beacon hq hb hsend]⟩
      simp only [onLine, hdest]
      exact telegramCharacters_crcGood ..
    · rw [hstart, startAttempt_withheld hq hb hold]
  · intro s characters hloaded counts
    refine ⟨fun c hattempt => exec_attemptClean_queue hloaded hattempt, fun hattempt => ?_⟩
    have hclean := exec_attemptClean_probe hloaded hattempt
    refine ⟨fun hlink => ?_, fun hlink => ?_⟩
    · rw [hclean]
      simp only [probeClean, hlink]
      rfl
    · rw [hclean]
      rcases hlink with hlink | hlink
      · simp only [probeClean, hlink]
        rfl
      · simp only [probeClean, hlink]
        rfl

end Sys2Proof.Machine
end

section
/-! PROOF. What the link does where it fails (R39, R46 to R49): collisions and their backoff, jabber, and the probes of
an ISOLATED link. -/

namespace Sys2Proof.Machine

/-! ### Collisions (R46) -/

section
variable {f : Flc} {c : TxClass} {q : Queued} {rest : List Queued}

/-- A telegram that stays at the front of its class leaves the number of queued telegrams. -/
theorem queuedCount_setQueue (h : f.queueOf c = q :: rest) (p : Queued) :
    (f.setQueue c (p :: rest)).queuedCount = f.queuedCount := by
  cases c <;> simp only [Flc.queueOf] at h <;> simp [Flc.queuedCount, Flc.setQueue, h]

/-- The link with a collision counted (R54). -/
def Flc.withCollision (f : Flc) : Flc := { f with counts := { f.counts with collisions := bump f.counts.collisions } }

/-- The link when an attempt at the front of a class has collided (R46). -/
def Flc.collided (f : Flc) (c : TxClass) (front : List Queued) : Flc :=
  { f.setQueue c front with
    attempt := none
    collisionRun := f.collisionRun + 1
    counts := f.withCollision.counts }

/-- Isolation keeps nothing of the class queues but the number of their telegrams, and the collision is counted. -/
theorem isolate_collided (h : f.queueOf c = q :: rest) (p : Queued) (cause : IsolationCause) (now : Count) :
    (f.collided c (p :: rest)).isolate cause now = f.withCollision.isolate cause now := by
  have hcount : (f.collided c (p :: rest)).queuedCount = f.withCollision.queuedCount := queuedCount_setQueue h p
  simp only [Flc.isolate, hcount]
  cases c <;> rfl

/-- A telegram whose attempts are used up leaves its class and is counted (R46). -/
def Flc.givenUp (f : Flc) (c : TxClass) (rest : List Queued) : Flc :=
  { f.collided c rest with counts :=
    { (f.collided c rest).counts with drops := bump (f.collided c rest).counts.drops } }

variable {s : State}

/-- The fortieth collision in a run isolates the link, whatever telegram collided (R47). -/
theorem collide_isolates (hq : s.flc.queueOf c = q :: rest) (h : 39 ≤ s.flc.collisionRun) : collide c q rest s
    = s.unstartedDropped (raise (.linkIsolated .collisions)
      { s with flc := s.flc.withCollision.isolate .collisions s.time }) := by
  have hrun : 40 ≤ s.flc.collisionRun + 1 := by omega
  have hisolate : collide c q rest s = isolate .collisions
      { s with flc := s.flc.collided c ({ q with attempts := q.attempts + 1 } :: rest) } := if_pos hrun
  rw [hisolate, isolate_eq, ← isolate_collided hq { q with attempts := q.attempts + 1 }]
  rfl

/-- The telegram at the front leaves its class after a collision (R46). -/
theorem drop_collided (p : Queued) : withFlc (fun f => { f.popFront c with
    counts := { f.counts with drops := bump f.counts.drops } }) { s with flc := s.flc.collided c (p :: rest) }
      = { s with flc := s.flc.givenUp c rest } := by
  cases c <;> rfl

/-- A beacon's fourth collided attempt is its last (R46). -/
theorem collide_beacon (hb : q.body = .beacon) (h : s.flc.collisionRun < 39) : collide c q rest s
    = if 3 ≤ q.attempts then { s with flc := s.flc.givenUp c rest }
      else startBackoff (q.attempts + 1)
        { s with flc := s.flc.collided c ({ q with attempts := q.attempts + 1 } :: rest) } := by
  have hrun : ¬ 40 ≤ s.flc.collisionRun + 1 := by omega
  obtain ⟨dest, body, attempts, sequence⟩ := q
  obtain rfl : body = .beacon := hb
  refine (if_neg hrun).trans ?_
  by_cases hlast : 3 ≤ attempts
  · rw [if_pos hlast, ← drop_collided]
    exact if_pos (Nat.succ_le_succ hlast)
  · rw [if_neg hlast]
    exact if_neg fun h => hlast (Nat.le_of_succ_le_succ h)

/-- A message's sixteenth collided attempt is its last, and is reported (R46). -/
theorem collide_message {m : Message} (hm : q.body = .message m) (h : s.flc.collisionRun < 39) : collide c q rest s
    = if 15 ≤ q.attempts then raise (.linkDrop m.kind q.dest) { s with flc := s.flc.givenUp c rest }
      else startBackoff (q.attempts + 1)
        { s with flc := s.flc.collided c ({ q with attempts := q.attempts + 1 } :: rest) } := by
  have hrun : ¬ 40 ≤ s.flc.collisionRun + 1 := by omega
  obtain ⟨dest, body, attempts, sequence⟩ := q
  obtain rfl : body = .message m := hm
  refine (if_neg hrun).trans ?_
  by_cases hlast : 15 ≤ attempts
  · rw [if_pos hlast, ← drop_collided]
    exact if_pos (Nat.succ_le_succ hlast)
  · rw [if_neg hlast]
    exact if_neg fun h => hlast (Nat.le_of_succ_le_succ h)

/-- Before the last attempt a telegram waits for another (R46). -/
theorem collide_again (h : s.flc.collisionRun < 39) (htries : q.attempts + 1 < if q.body = .beacon then 4 else 16) :
    collide c q rest s = startBackoff (q.attempts + 1)
      { s with flc := s.flc.collided c ({ q with attempts := q.attempts + 1 } :: rest) } := by
  have hbody : q.body = .beacon ∨ ∃ m, q.body = .message m := by cases q.body <;> simp
  rcases hbody with hb | ⟨m, hm⟩
  · rw [if_pos hb] at htries
    rw [collide_beacon hb h, if_neg (by omega)]
  · rw [if_neg (by simp [hm])] at htries
    rw [collide_message hm h, if_neg (by omega)]

/-- The draw of a backoff lies in its range (R46; log 11). -/
theorem startBackoff_draws (n : Nat) (s : State) : ∃ k, k < 2 ^ min n 8 ∧ startBackoff n s
    = { s with flc := { s.flc with backoff := if k = 0 then none else some k }, freeCount := s.freeCount + 1 } :=
  ⟨_, Nat.mod_lt _ (Nat.two_pow_pos _), rfl⟩

end

/-! ### The commands (R39, R46 to R49) -/

section
variable {s : State} {characters : List Byte}

theorem exec_jabberLimit_queue {c : TxClass} (h : s.sending = some ⟨.queue c, characters⟩) :
    exec .jabberLimit s = .next (isolate .jabber s) := by
  simp only [exec, execJabberLimit, h]

theorem exec_jabberLimit_probe (h : s.sending = some ⟨.probe, characters⟩) :
    exec .jabberLimit s = .next (endAttempt s) := by
  simp only [exec, execJabberLimit, h]

theorem exec_attemptCollided_queue {c : TxClass} {q : Queued} {rest : List Queued}
    (h : s.sending = some ⟨.queue c, characters⟩) (hq : s.flc.queueOf c = q :: rest) :
    exec .attemptCollided s = .next (collide c q rest s) := by
  simp only [exec, execAttemptCollided, h, hq]

theorem exec_attemptCollided_probe (h : s.sending = some ⟨.probe, characters⟩) :
    exec .attemptCollided s
      = .next (countLink (fun c => { c with collisions := bump c.collisions }) (endAttempt s)) := by
  simp only [exec, execAttemptCollided, h]

theorem exec_probeTimerExpiry {cause : IsolationCause} {timer : Timer} (hlink : s.flc.link = .isolated cause)
    (ht : s.flc.probeTimer = some timer) (hdue : s.expired (some timer) = true) : exec .probeTimerExpiry s
      = .next (withFlc (fun f => { f with
        probeTimer := some timer.again
        probePending := decide (s.sp.mode ≠ .offline) && !s.beaconWithheld }) s) := by
  simp only [exec, execProbeTimerExpiry, ht, hlink, hdue, if_true]

theorem exec_probeStart (h : s.mayProbe = true) : exec .probeStart s = .next (startProbe s) := by
  simp only [exec, execProbeStart, h, if_true]

/-- A waiting probe that is withheld is counted as dropped; else it goes on the line with a sequence of its own (R49,
R53; log 75). -/
theorem startProbe_eq (s : State) : startProbe s = { s with flc :=
    if s.beaconWithheld then { s.flc with
      probePending := false
      counts := { s.flc.counts with drops := bump s.flc.counts.drops } }
    else { s.flc with
      probePending := false
      beaconSeq := s.flc.beaconSeq + 1
      attempt := some ⟨.probe, s.beaconCharacters s.flc.beaconSeq⟩ } } := by
  have hsame : (withFlc (fun f => { f with probePending := false }) s).beaconWithheld = s.beaconWithheld := rfl
  simp only [startProbe, hsame]
  cases s.beaconWithheld <;> rfl

end

/-- Settles O28: collisions, jabber and backoff of a queued telegram, then of a probe, and the probes of an ISOLATED
link. -/
theorem linkFailsByTheRules : Obligations.LinkFailsByTheRules := by
  refine ⟨?_, fun s => rfl, ?_, ?_, ?_⟩
  · intro s c characters hloaded hattempt
    have hsending := sending_eq hloaded hattempt
    refine ⟨?_, ?_⟩
    · rw [exec_jabberLimit_queue hsending, isolate_eq]
      rfl
    · intro q rest hq run counts dropped tries
      have hrun : run = .next (collide c q rest s) := exec_attemptCollided_queue hsending hq
      refine ⟨fun hmany => ?_, fun hfew => ⟨fun hb hlast => ?_, fun m hm hlast => ?_, fun hagain => ?_⟩⟩
      · rw [hrun, collide_isolates hq hmany]
        rfl
      · rw [hrun, collide_beacon hb hfew, if_pos hlast]
        rfl
      · rw [hrun, collide_message hm hfew, if_pos hlast]
        rfl
      · obtain ⟨k, hk, hback⟩ := startBackoff_draws (q.attempts + 1)
          { s with flc := s.flc.collided c ({ q with attempts := q.attempts + 1 } :: rest) }
        exact ⟨k, hk, by rw [hrun, collide_again hfew hagain, hback]; rfl⟩
  · intro s characters hloaded hattempt
    have hsending := sending_eq hloaded hattempt
    exact ⟨exec_jabberLimit_probe hsending, exec_attemptCollided_probe hsending⟩
  · intro s cause hlink
    refine ⟨fun timer ht hdue => ?_, fun hloaded hpending hidle => ?_⟩
    · rw [exec_probeTimerExpiry hlink ht hdue]
      have hmay : (decide (s.sp.mode ≠ .offline) && !s.beaconWithheld)
          = decide (s.sp.mode ≠ .offline ∧ s.beaconWithheld = false) := by cases s.beaconWithheld <;> simp
      rw [hmay]
      rfl
    · rw [exec_probeStart (by simp [State.mayProbe, hloaded, hpending, hidle, hlink]), startProbe_eq]
  · intro s
    rfl

end Sys2Proof.Machine
end

section
/-! PROOF. The conservation of records (R74): no operation of the part but those of the segment queue touches its counts,
and each of those moves a record from one side of the sum to the other. -/

namespace Sys2Proof.Machine

/-! ### The segment queue's own operations (R60 to R74) -/

/-- The conservation reads the segment queue alone. -/
theorem conserves_of_sq {t u : State} (h : t.conserves) (hsq : u.sq = t.sq) : u.conserves := by
  unfold State.conserves
  rw [hsq]
  exact h

section
variable {t : State}

theorem ite_conserves {p : Prop} [Decidable p] {u v : State} (hu : u.conserves) (hv : v.conserves) :
    (if p then u else v).conserves := by
  split <;> assumption

theorem raise_conserves (d : NoticeData) (h : t.conserves) : (raise d t).conserves := conserves_of_sq h (by simp)

theorem lowWater_conserves (h : t.conserves) : (lowWater t).conserves :=
  ite_conserves (raise_conserves _ (t := { t with sq := { t.sq with armed := false } }) h) h

/-- A record that leaves the queue's head leaves one fewer held. -/
theorem ofNat_length_cons {α : Type} (r : α) (rest : List α) :
    BitVec.ofNat 32 (r :: rest).length = BitVec.ofNat 32 rest.length + 1 := by
  rw [List.length_cons, BitVec.ofNat_add]
  rfl

theorem consumeHead_conserves (h : t.conserves) : (consumeHead t).conserves := by
  obtain ⟨hsum, hroom⟩ := h
  unfold consumeHead
  split
  · exact ⟨hsum, hroom⟩
  · rename_i r rest hheld
    rw [hheld, ofNat_length_cons] at hsum
    rw [hheld, List.length_cons] at hroom
    exact lowWater_conserves ⟨hsum.trans (by dsimp only; ac_rfl), by dsimp only; omega⟩

theorem discardHead_conserves (h : t.conserves) : (discardHead t).conserves := by
  obtain ⟨hsum, hroom⟩ := h
  unfold discardHead
  split
  · exact ⟨hsum, hroom⟩
  · rename_i r rest hheld
    rw [hheld, ofNat_length_cons] at hsum
    rw [hheld, List.length_cons] at hroom
    exact lowWater_conserves ⟨hsum.trans (by dsimp only; ac_rfl), by dsimp only; omega⟩

theorem discardAll_conserves (h : t.conserves) : (discardAll t).conserves := by
  obtain ⟨hsum, -⟩ := h
  exact lowWater_conserves ⟨hsum.trans (by simp [BitVec.add_assoc]), Nat.zero_le _⟩

theorem formHead_conserves (h : t.conserves) : (formHead t).conserves := by
  unfold formHead
  split
  · split
    · exact consumeHead_conserves h
    · exact h
    · exact h
  · exact h

theorem queueCompletes_conserves (h : t.conserves) : (queueCompletes t).1.conserves := by
  unfold queueCompletes
  split
  · exact h
  · split
    · dsimp only
      split
      · exact h
      · exact formHead_conserves (discardHead_conserves h)
    · exact formHead_conserves (consumeHead_conserves h)

/-- A record joins a queue with room for it, and is counted as accepted (R62). -/
theorem joinRecord_conserves (r : SegRecord) (h : t.conserves) (hroom : t.sq.held.length < 64) :
    { t with sq := joinRecord r t.sq }.conserves := by
  obtain ⟨hsum, -⟩ := h
  have hlen : (joinRecord r t.sq).held.length = t.sq.held.length + 1 := by simp [joinRecord]
  refine ⟨?_, by dsimp only; omega⟩
  have hone : BitVec.ofNat 32 (t.sq.held.length + 1) = BitVec.ofNat 32 t.sq.held.length + 1 := BitVec.ofNat_add ..
  change t.sq.accepted + 1 = t.sq.consumed + t.sq.discarded + BitVec.ofNat 32 (joinRecord r t.sq).held.length
  rw [hlen, hone, hsum]
  ac_rfl

/-! ### The release controller (R72, R79 to R99) -/

theorem windowChanged_conserves (h : t.conserves) : (windowChanged t).conserves := conserves_of_sq h (by simp)

theorem announce_conserves (a : Bool) (h : t.conserves) : (announce a t).conserves := conserves_of_sq h (by simp)

theorem callUrgent_conserves (h : t.conserves) : (callUrgent t).conserves := conserves_of_sq h (by simp)

theorem driveLines_conserves (h : t.conserves) : (driveLines t).conserves := conserves_of_sq h (by simp)

theorem queueLeavesRun_conserves (h : t.conserves) : (queueLeavesRun t).conserves := by
  have hdiscard := discardAll_conserves h
  unfold queueLeavesRun
  exact ite_conserves (windowChanged_conserves hdiscard) hdiscard

theorem changeMode_conserves (m : Mode) (h : t.conserves) : (changeMode m t).conserves := by
  have hraise : (raise (.modeChanged t.sp.mode m) { t with sp := { t.sp with mode := m } }).conserves :=
    raise_conserves _ h
  have hdrive := driveLines_conserves (ite_conserves (p := t.sp.mode = .offline) (callUrgent_conserves hraise) hraise)
  exact ite_conserves (announce_conserves _ (ite_conserves (queueLeavesRun_conserves hdrive) hdrive)) hdrive

theorem endStop_conserves (h : t.conserves) : (endStop t).conserves := ite_conserves (changeMode_conserves _ h) h

theorem enterFaulted_conserves (f : ReleaseFault) (a : Bool) (h : t.conserves) : (enterFaulted f a t).conserves :=
  endStop_conserves (windowChanged_conserves (announce_conserves _ (raise_conserves _ h)))

theorem afterCompletion_conserves (overrun : Option (Seq × Nat)) (a : Bool) (h : t.conserves) :
    (afterCompletion overrun a t).conserves := by
  unfold afterCompletion
  split
  · exact enterFaulted_conserves _ _ h
  · exact endStop_conserves (windowChanged_conserves (announce_conserves _ h))

theorem releaseNest_conserves (c : Copy) (h : t.conserves) : (releaseNest c t).conserves :=
  afterCompletion_conserves _ _ (queueCompletes_conserves
    (conserves_of_sq (raise_conserves (goNotice c false none) h) (by simp)))

theorem addArc_conserves (ms : Nat) (h : t.conserves) : (addArc ms t).conserves := conserves_of_sq h (by simp)

theorem logMark_conserves (c : Current) (o : MarkOutcome) (h : t.conserves) : (logMark c o t).conserves :=
  conserves_of_sq h (by simp)

theorem completeCurrent_conserves (c : Current) (ms : Nat) (h : t.conserves) :
    (completeCurrent c ms t).conserves := by
  unfold completeCurrent
  dsimp only
  have hended : (logMark c .done (if c.copy.content.isArc = true then addArc ms { t with
      lu := { t.lu with arcPermit := false }
      rc := { t.rc with flightTimer := none, haltTimer := none } }
    else { t with
      lu := { t.lu with arcPermit := false }
      rc := { t.rc with flightTimer := none, haltTimer := none } })).conserves :=
    logMark_conserves _ _ (ite_conserves (addArc_conserves ms h) h)
  split
  · exact afterCompletion_conserves _ _ hended
  · exact afterCompletion_conserves _ _ (queueCompletes_conserves hended)

theorem judgeOnce_conserves (h : t.conserves) : (judgeOnce t).1.conserves := by
  unfold judgeOnce
  split
  · split
    · split
      · split
        · exact enterFaulted_conserves _ _ h
        · split
          · exact releaseNest_conserves _ h
          · exact conserves_of_sq h (by simp)
      · exact h
    · split
      · exact conserves_of_sq h (by simp)
      · exact h
    · exact h
  · exact h

theorem settleFor_conserves (n : Nat) (h : t.conserves) : (settleFor n t).conserves := by
  induction n generalizing t with
  | zero => exact h
  | succ n ih =>
    have hj := judgeOnce_conserves h
    unfold settleFor
    split
    · exact ih (by simpa [*] using hj)
    · simpa [*] using hj

theorem settle_conserves (h : t.conserves) : (settle t).conserves := settleFor_conserves _ h

theorem rcSettles_conserves (before : State) (h : t.conserves) : (rcSettles before t).conserves :=
  ite_conserves (settle_conserves (windowChanged_conserves (announce_conserves _ h))) (announce_conserves _ h)

/-! ### The peer table and the link (R26 to R35, R49) -/

theorem envPeer_conserves (n : Nat) (roles : List Role) (h : t.conserves) : (envPeer n roles t).conserves := by
  unfold envPeer
  split
  · exact ite_conserves (settle_conserves (conserves_of_sq h (by simp))) h
  · exact ite_conserves (conserves_of_sq h (by simp)) h
  · exact h

theorem envStep_conserves (h : t.conserves) : (envStep t).conserves := by
  unfold envStep
  split
  · exact settle_conserves (windowChanged_conserves h)
  · exact conserves_of_sq h (by simp)
  · exact h

theorem unordered_conserves {f g : State → State} (hf : ∀ {u : State}, u.conserves → (f u).conserves)
    (hg : ∀ {u : State}, u.conserves → (g u).conserves) (h : t.conserves) : (unordered f g t).conserves :=
  ite_conserves (hg (hf h)) (hf (hg h))

theorem stationLost_conserves (station : Nat) (h : t.conserves) : (stationLost station t).conserves :=
  conserves_of_sq h (by simp)

theorem removePeer_conserves (n : Nat) (e : PeerEntry) (h : t.conserves) : (removePeer n e t).conserves :=
  envPeer_conserves _ _ (stationLost_conserves e.station (t := putPeer n _ t) h)

theorem storeBeacon_conserves (n : Nat) (e : PeerEntry) (h : t.conserves) : (storeBeacon n e t).conserves :=
  envPeer_conserves _ _ h

theorem createPeer_conserves (e : PeerEntry) (h : t.conserves) : (createPeer e t).conserves := by
  unfold createPeer
  split
  · exact storeBeacon_conserves _ _ h
  · split
    · exact storeBeacon_conserves _ _ (removePeer_conserves _ _ h)
    · exact h

theorem takeBeacon_conserves (role : Role) (source : Nat) (seq : Byte) (bs : List Byte) (h : t.conserves) :
    (takeBeacon role source seq bs t).conserves := by
  unfold takeBeacon
  dsimp only
  split
  · exact h
  · split
    · exact h
    · split
      · exact createPeer_conserves _ h
      · split
        · exact h
        · exact ite_conserves (unordered_conserves (envPeer_conserves _ _) (raise_conserves _) h)
            (ite_conserves h (storeBeacon_conserves _ _ h))

theorem ageToStale_conserves (n : Nat) (h : t.conserves) : (ageToStale n t).conserves := by
  unfold ageToStale
  split
  · exact ite_conserves (envPeer_conserves _ _ h) h
  · exact h

theorem ageToLost_conserves (n : Nat) (h : t.conserves) : (ageToLost n t).conserves := by
  unfold ageToLost
  split
  · exact ite_conserves (ite_conserves (unordered_conserves (envPeer_conserves _ _) (stationLost_conserves _) h)
      (removePeer_conserves _ _ h)) h
  · exact h

theorem agingStep_conserves (h : t.conserves) : (agingStep t).conserves := by
  have hfold (l : List Nat) {u : State} (hu : u.conserves) : (l.foldl agePeer u).conserves := by
    induction l generalizing u with
    | nil => exact hu
    | cons n l ih => exact ih (ageToLost_conserves n (ageToStale_conserves n hu))
  exact envStep_conserves (hfold _ h)

theorem probeClean_conserves (h : t.conserves) : (probeClean t).conserves := by
  have hrestore : (restoreLink t).conserves :=
    settle_conserves (raise_conserves _ (conserves_of_sq h (by simp)))
  unfold probeClean
  split
  · exact hrestore
  · exact hrestore
  · exact h
  · exact h

theorem collide_conserves (c : TxClass) (q : Queued) (rest : List Queued) (h : t.conserves) :
    (collide c q rest t).conserves := by
  unfold collide
  dsimp only
  split
  · exact conserves_of_sq h (by simp)
  · split
    · exact ite_conserves h h
    · exact ite_conserves (raise_conserves _ h) h

theorem startAttempt_conserves (c : TxClass) (h : t.conserves) : (startAttempt c t).conserves := by
  unfold startAttempt
  split
  · exact h
  · split
    · exact ite_conserves h h
    · exact h

/-! ### A crane's leave of RUN (R162, R164) -/

theorem finishMove_conserves (carried : Bool) (taker : Option Nat) (h : t.conserves) :
    (finishMove carried taker t).conserves := by
  unfold finishMove
  split
  · exact h
  · rename_i m rest _
    have hdone : (setMoveQueue rest (sendMove m.requester (.moveDone m.tag carried taker) t).1).conserves :=
      conserves_of_sq h (by simp)
    exact ite_conserves (changeMode_conserves _ hdone) hdone

theorem recordLeaves_conserves (id : StockId) (carried : Bool) (taker : Option Nat) (h : t.conserves) :
    (recordLeaves id carried taker t).conserves := by
  unfold recordLeaves
  split
  · exact ite_conserves (finishMove_conserves _ _ h) h
  · exact h

theorem takeAccept_conserves (i : StockId) (source : Nat) (h : t.conserves) : (takeAccept i source t).conserves := by
  have hrefuse (r : CustodyRefusal) : (refuseCustody source i r t).conserves := conserves_of_sq h (by simp)
  have hrelease (n : Nat) : (releaseRecord n source i t).conserves := by
    have hsent : (sendRelease source i (raise (.handoverDone i source .giver)
        { t with st := t.st.remove n })).conserves := conserves_of_sq h (by simp)
    exact ite_conserves (recordLeaves_conserves _ _ _ hsent) hsent
  unfold takeAccept
  split
  · split
    · exact ite_conserves (hrelease _) (hrefuse _)
    all_goals exact hrefuse _
  · exact hrefuse _

theorem takeRefusal_conserves (i : StockId) (reason : CustodyRefusal) (source : Nat) (h : t.conserves) :
    (takeRefusal i reason source t).conserves := by
  have hreject (n : Nat) : (rejectRecord n source i reason t).conserves := by
    have hraise : (raise (.handoverRejected i source reason) { t with st := t.st.remove n }).conserves :=
      raise_conserves _ h
    exact ite_conserves (recordLeaves_conserves _ _ _ hraise) hraise
  unfold takeRefusal
  split
  · exact ite_conserves (conserves_of_sq h (by simp)) (ite_conserves (hreject _) h)
  · exact h

theorem leaveRun_conserves (h : t.conserves) : (leaveRun t).1.conserves := by
  have hreturn : (returnMoves (t.mu.queue.filter (fun m => !m.started)) t).conserves := conserves_of_sq h (by simp)
  unfold leaveRun
  split
  · split
    · exact h
    · exact changeMode_conserves _ h
  · unfold craneLeaves
    dsimp only
    split
    · exact hreturn
    · exact changeMode_conserves _ hreturn
  · exact changeMode_conserves _ h

/-! ### The owners of the requests (R60 to R66, R87 to R96, R171) -/

theorem ite_answer_conserves {p : Prop} [Decidable p] {a b : State × Answer} (ha : a.1.conserves)
    (hb : b.1.conserves) : (if p then a else b).1.conserves := by
  split <;> assumption

theorem judge_conserves {act : State → State × Answer} (checks : Option ResultCode) (ha : (act t).1.conserves)
    (h : t.conserves) : (judge checks act t).1.conserves := by
  unfold judge
  split
  · exact h
  · exact ha

theorem admitRecord_conserves (hd : SegHeader) (bs : List Byte) (h : t.conserves) :
    (admitRecord hd bs t).1.conserves := by
  unfold admitRecord
  split
  · exact h
  · split
    · exact raise_conserves _ h
    · exact rcSettles_conserves _ (formHead_conserves (joinRecord_conserves _ h (by omega)))

/-- A record that is not the seek target is accepted and discarded (R66). -/
theorem seekDiscard_conserves (h : t.conserves) : (seekDiscard t).1.conserves := by
  obtain ⟨hsum, hroom⟩ := h
  refine ⟨?_, hroom⟩
  change t.sq.accepted + 1 = t.sq.consumed + (t.sq.discarded + 1) + BitVec.ofNat 32 t.sq.held.length
  rw [hsum]
  ac_rfl

theorem takeSegment_conserves (bs : List Byte) (h : t.conserves) : (takeSegment bs t).1.conserves := by
  have hheader : (useHeader bs t).conserves := conserves_of_sq h (by simp)
  unfold takeSegment
  split
  · exact h
  · dsimp only
    split
    · exact h
    · exact ite_answer_conserves (seekDiscard_conserves hheader) (admitRecord_conserves _ _ hheader)
    · exact admitRecord_conserves _ _ hheader

theorem takeFlush_conserves (h : t.conserves) : (takeFlush t).conserves := by
  unfold takeFlush
  split
  case h_4 => exact endStop_conserves h
  all_goals exact h

/-- A flush may set what the stream expects next, and nothing that is counted. -/
theorem flushQueue_conserves {after : SegQueue → SegQueue}
    (hafter : ∀ u : State, u.conserves → { u with sq := after u.sq }.conserves) (h : t.conserves) :
    (flushQueue after t).1.conserves :=
  rcSettles_conserves _ (takeFlush_conserves (hafter _ (discardAll_conserves h)))

theorem takeDoneReport_conserves (seq : Seq) (k ms : Nat) (h : t.conserves) :
    (takeDoneReport seq k ms t).1.conserves := by
  unfold takeDoneReport
  split
  · exact settle_conserves (completeCurrent_conserves _ _ h)
  · exact h

theorem takeAbort_conserves (seq : Seq) (k ms : Nat) (h : t.conserves) : (takeAbort seq k ms t).1.conserves := by
  unfold takeAbort
  split
  · exact enterFaulted_conserves _ _ (logMark_conserves _ _ (ite_conserves (addArc_conserves _ h) h))
  · exact h

theorem takeHalt_conserves (seq : Seq) (k ms : Nat) (h : t.conserves) : (takeHalt seq k ms t).1.conserves := by
  unfold takeHalt
  split
  · rename_i c _
    have harc := ite_conserves (p := c.copy.content.isArc = true) (addArc_conserves ms h) h
    exact settle_conserves harc
  · exact h

theorem takeContinue_conserves (h : t.conserves) : (takeContinue t).1.conserves := by
  have hdiscard : (discardFaulted t).conserves := ite_conserves (formHead_conserves (discardHead_conserves h)) h
  exact ite_answer_conserves h (rcSettles_conserves _ hdiscard)

theorem takeWearRestore_conserves (pierces ms : Nat) (h : t.conserves) :
    (takeWearRestore pierces ms t).1.conserves := by
  have hset : { t with rc := { t.rc with
      pierces := min pierces t.cfg.params.pierceLimit
      wearKnown := true } }.conserves := h
  exact ite_answer_conserves h (settle_conserves (addArc_conserves _ (ite_conserves (raise_conserves _ hset) hset)))

theorem takeConsumable_conserves (h : t.conserves) : (takeConsumable t).1.conserves := by
  have hclear : { t with rc := { t.rc with pierces := 0, arcMs := 0, wearKnown := true } }.conserves := h
  exact ite_answer_conserves h (settle_conserves hclear)

theorem takeMoveFinish_conserves (h : t.conserves) : (takeMoveFinish t).1.conserves := by
  unfold takeMoveFinish
  split
  · exact ite_answer_conserves (finishMove_conserves _ _ h) h
  · exact h

theorem judgeSetMode_conserves (suits : Bool) (target : Option Mode) (h : t.conserves) :
    (judgeSetMode suits target t).1.conserves := by
  have htake (m : Mode) : (takeSetMode m t).1.conserves := by
    unfold takeSetMode
    split
    · exact h
    · exact changeMode_conserves _ h
    · exact h
    · exact changeMode_conserves _ h
    · exact h
    · exact settle_conserves (changeMode_conserves _ h)
    · exact h
    · exact ite_answer_conserves h (leaveRun_conserves h)
    · exact ite_answer_conserves h h
  unfold judgeSetMode
  split
  · exact ite_answer_conserves (htake _) h
  · exact h

end

/-! ### Every command -/

/-- What a command answers conserves the records where it is a next state. -/
def Conserved : Host.Outcome State Fault Refusal → Prop
  | .next t => t.conserves
  | .fault _ => True
  | .refused _ => True

section
variable {s : State}

/-- A timer's expiry that acts while it is due. -/
theorem ite_conserved {p : Prop} [Decidable p] {t u : State} (ht : t.conserves) (hu : u.conserves) :
    Conserved (if p then .next t else .next u) := by
  split <;> assumption

theorem request_conserves (length : Byte) (cut inFault : Bool) (code : RequestCode) {act : State → State × Answer}
    (ha : ∀ {u : State}, u.conserves → (act u).1.conserves) (h : s.conserves) :
    (request length cut inFault code act s).conserves := by
  rcases request_cases length cut inFault code act s with ⟨-, he⟩ | ⟨-, he⟩ | ⟨-, he⟩ | ⟨-, -, -, he⟩ <;> rw [he]
  · exact h
  · exact h
  · exact h
  · exact ha (u := s.begun) h

theorem roleRequest_conserves (f : WriteFrame) (code : RequestCode) (roleOk : Role → Bool)
    {act : State → State × Answer} (ha : ∀ {u : State}, u.conserves → (act u).1.conserves) (h : s.conserves) :
    (roleRequest f code roleOk act s).conserves :=
  request_conserves _ _ _ code (fun hu => judge_conserves _ (ha hu) hu) h

theorem receive_conserves {deliver : State → State} (kind : Byte) (length : Option Nat) (g : Telegram)
    (hd : ∀ {u : State}, u.conserves → (deliver u).conserves) (h : s.conserves) :
    (receive kind length deliver g s).conserves :=
  ite_conserves h (ite_conserves h (ite_conserves h (ite_conserves h (ite_conserves (conserves_of_sq h (by simp))
    (ite_conserves h (ite_conserves h (hd h)))))))

/-- A telegram whose message is acted on, or ignored, with the segment queue conserved. -/
theorem message_conserves {ignore : State → State} {act : Message → State → State} (k : TelegramKind) (g : Telegram)
    (hi : ∀ {u : State}, u.conserves → (ignore u).conserves)
    (ha : ∀ m {u : State}, u.conserves → (act m u).conserves) (h : s.conserves) :
    (receiveKind k (takeMessage k g ignore act) g s).conserves := by
  refine receive_conserves _ _ g (fun {u} hu => ?_) h
  unfold takeMessage
  split
  · exact ha _ hu
  · exact hi hu

theorem custody_conserves {act : Message → State → State} (k : TelegramKind) (g : Telegram)
    (ha : ∀ m {u : State}, u.conserves → (act m u).conserves) (h : s.conserves) :
    (receiveKind k (takeCustody k g act) g s).conserves := by
  refine receive_conserves _ _ g (fun {u} hu => ite_conserves ?_ hu) h
  unfold takeMessage
  split
  · exact ha _ hu
  · exact hu

/-- A load leaves the segment queue as it stands (R179, R180). -/
theorem transfer_conserves (acked : Bool) (data : List Byte) (h : s.conserves) :
    (if s.cfg.load = .loading then (if acked then takeBytes data s else refuseTransfer s) else s).conserves := by
  have hjudged : ({ s with cfg := { s.cfg with image := s.cfg.image ++ data, refusals := 0 } }).conserves := h
  refine ite_conserves (ite_conserves (ite_conserves ?_ hjudged) (ite_conserves (raise_conserves _ h) h)) h
  unfold judgeImage
  split
  · exact raise_conserves _ h
  · exact raise_conserves _ h
  · exact raise_conserves _ h

theorem agingStep_conserved (h : s.conserves) : Conserved (execAgingStep s) := by
  unfold execAgingStep
  split
  · exact ite_conserved (agingStep_conserves h) h
  · exact h

theorem beaconTimer_conserved (h : s.conserves) : Conserved (execBeaconTimerExpiry s) := by
  unfold execBeaconTimerExpiry
  split
  · exact ite_conserved (ite_conserves h h) h
  · exact h

theorem attemptStart_conserved (h : s.conserves) : Conserved (execAttemptStart s) := by
  unfold execAttemptStart
  split
  · exact ite_conserves (startAttempt_conserves _ h) h
  · exact h

theorem attemptClean_conserved (h : s.conserves) : Conserved (execAttemptClean s) := by
  unfold execAttemptClean
  split
  · exact h
  · exact probeClean_conserves (t := countSent (endAttempt s)) h
  · exact h

theorem attemptCollided_conserved (h : s.conserves) : Conserved (execAttemptCollided s) := by
  unfold execAttemptCollided
  split
  · split
    · exact collide_conserves _ _ _ h
    · exact h
  · exact h
  · exact h

theorem jabberLimit_conserved (h : s.conserves) : Conserved (execJabberLimit s) := by
  unfold execJabberLimit
  split
  · exact conserves_of_sq h (by simp)
  · exact h
  · exact h

theorem probeTimer_conserved (h : s.conserves) : Conserved (execProbeTimerExpiry s) := by
  unfold execProbeTimerExpiry
  split
  · exact ite_conserved h h
  · exact h

theorem inFlightTimeout_conserved (h : s.conserves) : Conserved (execInFlightTimeout s) := by
  unfold execInFlightTimeout
  split
  · exact ite_conserved (enterFaulted_conserves _ _ (logMark_conserves _ _ h)) h
  · exact h

theorem haltTimeout_conserved (h : s.conserves) : Conserved (execHaltTimeout s) := by
  unfold execHaltTimeout
  split
  · exact ite_conserved (enterFaulted_conserves _ _ h) h
  · exact h

theorem offerTimeout_conserved (n : Nat) (h : s.conserves) : Conserved (execOfferTimeout n s) := by
  unfold execOfferTimeout
  split
  · exact ite_conserved (conserves_of_sq h (by simp)) h
  · exact h

theorem heldOfferExpiry_conserved (n : Nat) (h : s.conserves) : Conserved (execHeldOfferExpiry n s) := by
  unfold execHeldOfferExpiry
  split
  · exact ite_conserved h h
  · exact h

theorem pendingTimeout_conserved (n : Nat) (h : s.conserves) : Conserved (execPendingTimeout n s) := by
  unfold execPendingTimeout
  split
  · exact ite_conserved (raise_conserves _ h) h
  · exact h

theorem bidWindowExpiry_conserved (n : Nat) (h : s.conserves) : Conserved (execBidWindowExpiry n s) := by
  unfold execBidWindowExpiry
  split
  · exact ite_conserved (conserves_of_sq h (by simp)) h
  · exact h

theorem awardReplyTimeout_conserved (n : Nat) (h : s.conserves) : Conserved (execAwardReplyTimeout n s) := by
  unfold execAwardReplyTimeout
  split
  · exact ite_conserved (conserves_of_sq h (by simp)) h
  · exact h

theorem cancelReplyTimeout_conserved (n : Nat) (h : s.conserves) : Conserved (execCancelReplyTimeout n s) := by
  unfold execCancelReplyTimeout
  split
  · exact ite_conserved (conserves_of_sq h (by simp)) h
  · exact h

theorem estopOn_conserves (h : s.conserves) : (estopOn s).conserves := by
  unfold estopOn
  split
  · exact ite_conserves (conserves_of_sq h (by simp)) h
  · exact driveLines_conserves h
  · exact h

theorem estopOff_conserves (h : s.conserves) : (estopOff s).conserves := by
  unfold estopOff
  split
  · exact settle_conserves h
  · exact driveLines_conserves h
  · exact h

theorem clockReply_conserves (clocked : Nat) (h : s.conserves) : (clockReply clocked s).conserves :=
  ite_conserves (p := (PortAnswer.reply s.sp.buffer.head?).readWhole clocked = true)
    (u := { s with sp := { s.sp with buffer := s.sp.buffer.tail } }) h h

theorem clockNotice_conserves (clocked : Nat) (h : s.conserves) : (clockNotice clocked s).conserves :=
  ite_conserves (p := (PortAnswer.notice s.sp.lost s.sp.notices.head?).readWhole clocked = true)
    (u := { s with sp := { s.sp with notices := s.sp.notices.tail, lost := 0 } }) h h

theorem voidTransaction_conserved (operation : Byte) (h : s.conserves) :
    Conserved (execVoidTransaction operation s) := by
  unfold execVoidTransaction
  split
  · exact h
  · exact h
  · exact clockReply_conserves 0 h
  · exact clockNotice_conserves 0 h

/-- The queue is empty and every count 0 at power-on and after a RESTART (R59). -/
theorem reset_conserves {t : State} (h : t.sq = .reset) : t.conserves := by
  unfold State.conserves
  rw [h]
  exact ⟨rfl, Nat.zero_le _⟩

/-- Each command is one row: the operation it stands for conserves the records. Where that operation is not the segment
queue's, it leaves the queue as it stands. -/
theorem exec_conserved (i : Instr) (h : s.conserves) : Conserved (exec i s) := by
  have hsame {t u : State} (ht : t.conserves) (hsq : u.sq = t.sq := by simp) : u.conserves := conserves_of_sq ht hsq
  cases i with
  | powerOn => exact reset_conserves rfl
  | timeBaseTick => exact h
  | i2cTransferDone acked data => exact transfer_conserves acked data h
  | agingStep => exact agingStep_conserved h
  | beaconTimerExpiry => exact beaconTimer_conserved h
  | urgentSpacingExpiry => exact ite_conserves (ite_conserves (ite_conserves h h) h) h
  | attemptStart => exact attemptStart_conserved h
  | attemptClean => exact attemptClean_conserved h
  | attemptCollided => exact attemptCollided_conserved h
  | backoffEnd => exact h
  | jabberLimit => exact jabberLimit_conserved h
  | probeTimerExpiry => exact probeTimer_conserved h
  | probeStart => exact ite_conserves (ite_conserves h h) h
  | telegramFramingError => exact ite_conserves h h
  | telegramOfUnknownKind kind g => exact receive_conserves _ _ g id h
  | beaconCutter g => exact receive_conserves _ _ g (takeBeacon_conserves _ _ _ _) h
  | beaconCrane g => exact receive_conserves _ _ g (takeBeacon_conserves _ _ _ _) h
  | beaconRack g => exact receive_conserves _ _ g (takeBeacon_conserves _ _ _ _) h
  | custodyOffer g =>
    refine custody_conserves _ g (fun m _ hu => ?_) h
    cases m with
    | custodyOffer p => exact hsame hu
    | _ => exact hu
  | custodyAccept g =>
    refine custody_conserves _ g (fun m _ hu => ?_) h
    cases m with
    | custodyAccept i => exact takeAccept_conserves _ _ hu
    | _ => exact hu
  | custodyRelease g =>
    refine custody_conserves _ g (fun m _ hu => ?_) h
    cases m with
    | custodyRelease i => exact hsame hu
    | _ => exact hu
  | custodyRefuse g =>
    refine custody_conserves _ g (fun m _ hu => ?_) h
    cases m with
    | custodyRefuse i r => exact takeRefusal_conserves _ _ _ hu
    | _ => exact hu
  | stockQuery g =>
    refine message_conserves _ g hsame (fun m _ hu => ?_) h
    cases m with
    | stockQuery n q => exact hsame hu
    | _ => exact hu
  | stockCandidate g =>
    refine message_conserves _ g hsame (fun m _ hu => ?_) h
    cases m with
    | stockCandidate n c => exact hsame hu
    | _ => exact hu
  | reserve g =>
    refine message_conserves _ g hsame (fun m _ hu => ?_) h
    cases m with
    | reserve n i r => exact hsame hu
    | _ => exact hu
  | reserveReply g =>
    refine message_conserves _ g hsame (fun m _ hu => ?_) h
    cases m with
    | reserveReply n i r => exact hsame hu
    | _ => exact hu
  | unreserve g =>
    refine message_conserves _ g hsame (fun m _ hu => ?_) h
    cases m with
    | unreserve i => exact hsame hu
    | _ => exact hu
  | moveCall g =>
    refine message_conserves _ g hsame (fun m _ hu => ?_) h
    cases m with
    | moveCall tag call i => exact hsame hu
    | _ => exact hu
  | moveBid g =>
    refine message_conserves _ g hsame (fun m _ hu => ?_) h
    cases m with
    | moveBid tag call bid => exact hsame hu
    | _ => exact hu
  | moveAward g =>
    refine message_conserves _ g hsame (fun m _ hu => ?_) h
    cases m with
    | moveAward tag i => exact hsame hu
    | _ => exact hu
  | awardReply g =>
    refine message_conserves _ g hsame (fun m _ hu => ?_) h
    cases m with
    | awardReply tag taken => exact hsame hu
    | _ => exact hu
  | moveRevoke g =>
    refine message_conserves _ g hsame (fun m _ hu => ?_) h
    cases m with
    | moveRevoke tag => exact hsame hu
    | _ => exact hu
  | revokeReply g =>
    refine message_conserves _ g hsame (fun m _ hu => ?_) h
    cases m with
    | revokeReply tag late => exact hsame hu
    | _ => exact hu
  | moveStarted g =>
    refine message_conserves _ g hsame (fun m _ hu => ?_) h
    cases m with
    | moveStarted tag => exact hsame hu
    | _ => exact hu
  | moveReturn g =>
    refine message_conserves _ g hsame (fun m _ hu => ?_) h
    cases m with
    | moveReturn tag => exact hsame hu
    | _ => exact hu
  | moveDone g =>
    refine message_conserves _ g hsame (fun m _ hu => ?_) h
    cases m with
    | moveDone tag carried taker => exact hsame hu
    | _ => exact hu
  | estopAsserted => exact ite_conserves h (ite_conserves (estopOn_conserves (raise_conserves _ h)) h)
  | estopReleased => exact ite_conserves h (ite_conserves (estopOff_conserves (raise_conserves _ h)) h)
  | loadAttachedRises => exact ite_conserves h (ite_conserves (hsame h) h)
  | loadAttachedFalls => exact ite_conserves h (ite_conserves (hsame h) h)
  | inFlightTimeout => exact inFlightTimeout_conserved h
  | haltTimeout => exact haltTimeout_conserved h
  | resumeTimerExpiry =>
    exact ite_conserves (settle_conserves (t := { s with rc := { s.rc with resumeTimer := none } }) h) h
  | offerTimeout n => exact offerTimeout_conserved n h
  | heldOfferExpiry n => exact heldOfferExpiry_conserved n h
  | pendingTimeout n => exact pendingTimeout_conserved n h
  | queryWindowExpiry => exact ite_conserves (hsame h) h
  | reserveTimerExpiry => exact ite_conserves (hsame h) h
  | bidWindowExpiry n => exact bidWindowExpiry_conserved n h
  | awardReplyTimeout n => exact awardReplyTimeout_conserved n h
  | cancelReplyTimeout n => exact cancelReplyTimeout_conserved n h
  | segment w => exact request_conserves _ _ _ _ (takeSegment_conserves _) h
  | flush f => exact roleRequest_conserves f _ _ (flushQueue_conserves fun _ => id) h
  | resync f target => exact roleRequest_conserves f _ _ (flushQueue_conserves fun _ => id) h
  | segmentDone f seq k ms => exact roleRequest_conserves f _ _ (takeDoneReport_conserves _ _ _) h
  | segmentAborted f seq k ms => exact roleRequest_conserves f _ _ (takeAbort_conserves _ _ _) h
  | segmentHalted f seq k ms => exact roleRequest_conserves f _ _ (takeHalt_conserves _ _ _) h
  | continueRequest f => exact roleRequest_conserves f _ _ takeContinue_conserves h
  | wearRestore f pierces ms => exact roleRequest_conserves f _ _ (takeWearRestore_conserves _ _) h
  | consumableChanged f => exact roleRequest_conserves f _ _ takeConsumable_conserves h
  | declareStock f record location slot => exact request_conserves _ _ _ _ hsame h
  | handOff f i taker => exact request_conserves _ _ _ _ hsame h
  | confirmCustody f i => exact request_conserves _ _ _ _ hsame h
  | bedLoaded f i => exact request_conserves _ _ _ _ (fun hu => judge_conserves _ (hsame hu) hu) h
  | placed f i slot => exact request_conserves _ _ _ _ (fun hu => judge_conserves _ (hsame hu) hu) h
  | lockSlot f slot => exact roleRequest_conserves f _ _ hsame h
  | unlockSlot f slot => exact roleRequest_conserves f _ _ hsame h
  | queryStock f q => exact request_conserves _ _ _ _ hsame h
  | cancelQuery f => exact roleRequest_conserves f _ _ hsame h
  | moveRequest f m => exact request_conserves _ _ _ _ hsame h
  | cancelMove f tag => exact roleRequest_conserves f _ _ hsame h
  | moveFinish f => exact roleRequest_conserves f _ _ takeMoveFinish_conserves h
  | position f v => exact roleRequest_conserves f _ _ hsame h
  | setMode f target => exact request_conserves _ _ _ _ (judgeSetMode_conserves _ _) h
  | status f => exact request_conserves _ _ _ _ hsame h
  | readTable f table i => exact request_conserves _ _ _ _ hsame h
  | restart f => exact ite_conserves (u := frameError s) h (reset_conserves rfl)
  | unknownRequest f code => exact request_conserves _ _ _ _ id h
  | readReply clocked => exact clockReply_conserves clocked h
  | readNotice clocked => exact clockNotice_conserves clocked h
  | voidTransaction operation => exact voidTransaction_conserved operation h

end

/-- Settles O12: a step idles, or takes the front command (log 2), and each command conserves the records. -/
theorem recordsAreConserved : Obligations.RecordsAreConserved := by
  intro s t h hstep
  unfold step at hstep
  split at hstep
  · rename_i c rest _
    have hexec := exec_conserved (s := { s with pending := rest }) c h
    rw [hstep] at hexec
    exact hexec
  · cases hstep
    exact h

end Sys2Proof.Machine
end

section
/-! PROOF. The SEGMENT request (R60 to R68): the order of its checks, the record that joins the queue, and the copy that
the queue forms of it. -/

namespace Sys2Proof.Machine

/-! ### A SEGMENT that is taken (R60, R168) -/

/-- The bytes of a SEGMENT's payload (R183). -/
def segmentBytes (w : RawWrite) : List Byte := w.bytes.take w.length.toNat

theorem segmentBytes_length {s : State} {w : RawWrite} (h : s.takesRaw w) :
    (segmentBytes w).length = w.length.toNat := by
  obtain ⟨-, -, -, hbytes⟩ := h
  exact List.length_take_of_le hbytes

theorem exec_segment {s t : State} {w : RawWrite} {code : ResultCode} {d : ReplyData} (h : s.takesRaw w)
    (hact : takeSegment (segmentBytes w) s.begun = (t, code, d)) :
    exec (.segment w) s = .next (s.replied .segment code d t) := by
  obtain ⟨hloaded, hroom, hlen, hbytes⟩ := h
  have hwhole : decide (w.bytes.length < w.length.toNat) = false := decide_eq_false (by omega)
  have hbuf : ¬ 4 ≤ s.sp.buffer.length := by omega
  change Host.Outcome.next (request _ _ _ _ (takeSegment (segmentBytes w)) s) = _
  rw [← takenRequest_eq hact, request, frameBad_eq_false hlen hwhole]
  simp only [Bool.false_eq_true, if_false, hbuf, hloaded, true_or, if_true]

section
variable {s : State} {bs : List Byte}

/-- A payload that holds the header uses up no free value (log 20). -/
theorem useHeader_whole (h : 3 ≤ bs.length) : useHeader bs s = s := if_neg (by omega)

theorem takeSegment_wrongMode (h : s.role ≠ .cutter ∨ s.sp.mode = .offline) :
    takeSegment bs s = refuse .wrongMode s := if_pos h

theorem takeSegment_locked {reason : LockReason} {seq : Seq} {kind : Byte} (hrole : s.role = .cutter)
    (hmode : s.sp.mode ≠ .offline) (h : s.sq.stream = .locked reason seq kind) :
    takeSegment bs s = refuse .locked s := by
  simp [takeSegment, hrole, hmode, h]

theorem takeSegment_notTarget {target : Seq} (hrole : s.role = .cutter) (hmode : s.sp.mode ≠ .offline)
    (hlen : 3 ≤ bs.length) (h : s.sq.stream = .seeking target) (hother : target ≠ (segHeader s.freeCount bs).seq) :
    takeSegment bs s = seekDiscard s := by
  simp [takeSegment, hrole, hmode, h, useHeader_whole hlen, Ne.symm hother]

/-- An open stream, or one that seeks this record, judges it (R60, R66). -/
theorem takeSegment_admits (hrole : s.role = .cutter) (hmode : s.sp.mode ≠ .offline) (hlen : 3 ≤ bs.length)
    (h : s.sq.stream = .opened ∨ s.sq.stream = .seeking (segHeader s.freeCount bs).seq) :
    takeSegment bs s = admitRecord (segHeader s.freeCount bs) bs s := by
  rcases h with h | h <;> simp [takeSegment, hrole, hmode, h, useHeader_whole hlen]

theorem admitRecord_full {hd : SegHeader} (h : 64 ≤ s.sq.held.length) : admitRecord hd bs s = refuse .full s := if_pos h

theorem admitRecord_malformed {hd : SegHeader} {reason : LockReason} (hroom : s.sq.held.length < 64)
    (h : judgeForm s hd bs = .error reason) : admitRecord hd bs s = lockStream reason hd s := by
  simp only [admitRecord, if_neg (Nat.not_le.2 hroom), h]

theorem admitRecord_accepts {hd : SegHeader} {c : SegContent} (hroom : s.sq.held.length < 64)
    (h : judgeForm s hd bs = .ok c) : admitRecord hd bs s = acceptRecord ⟨hd.seq, c⟩ s := by
  simp only [admitRecord, if_neg (Nat.not_le.2 hroom), h]

end

/-- Settles O30: the held count is looked at before the record's form. -/
theorem fullQueueRefuses : Obligations.FullQueueRefuses := by
  intro s w htakes hrole hmode hfull hlen hstream
  have hbytes : 3 ≤ (segmentBytes w).length := by rwa [segmentBytes_length htakes]
  exact exec_segment htakes ((takeSegment_admits (s := s.begun) hrole hmode hbytes hstream).trans
    (admitRecord_full (s := s.begun) hfull))

/-! ### The form of a record (R61) -/

section
variable {s : State} {hd : SegHeader} {bs : List Byte}

theorem segKindKnown_eq_false (k : Byte) : segKindKnown k = false ↔ k.toNat < 1 ∨ 7 < k.toNat := by
  simp only [segKindKnown, inRange, Bool.and_eq_false_iff, decide_eq_false_iff_not]
  omega

theorem judgeForm_unknownKind (h : segKindKnown hd.kind = false) : judgeForm s hd bs = .error .unknownKind := by
  simp [judgeForm, h]

theorem expected_differs :
    s.sq.expected.any (fun e => decide (e ≠ hd.seq)) = true ↔ ∃ e, s.sq.expected = some e ∧ e ≠ hd.seq := by
  cases s.sq.expected <;> simp

theorem judgeForm_sequence (hkind : segKindKnown hd.kind = true)
    (h : s.sq.expected.any (fun e => decide (e ≠ hd.seq)) = true) : judgeForm s hd bs = .error .sequence := by
  simp only [judgeForm, hkind, h, not_true, if_false, if_true]

/-- The header and the place of a record are good: only its content is left to judge. -/
def State.headerGood (s : State) (hd : SegHeader) : Prop :=
  segKindKnown hd.kind = true ∧ ¬ s.sq.expected.any (fun e => decide (e ≠ hd.seq)) = true
    ∧ ¬ (s.sq.repeatPending = true ∧ hd.kind ≠ 1 ∧ hd.kind ≠ 3)

theorem judgeForm_repeatTarget (hkind : segKindKnown hd.kind = true)
    (hplace : ¬ s.sq.expected.any (fun e => decide (e ≠ hd.seq)) = true)
    (h : s.sq.repeatPending = true ∧ hd.kind ≠ 1 ∧ hd.kind ≠ 3) : judgeForm s hd bs = .error .repeatTarget := by
  simp only [judgeForm, hkind, hplace, not_true, if_false]
  exact if_pos h

theorem judgeForm_unread (hgood : s.headerGood hd) (h : readSegment bs = none) :
    judgeForm s hd bs = .error .fieldRange := by
  obtain ⟨hkind, hplace, htarget⟩ := hgood
  simp only [judgeForm, hkind, hplace, not_true, Bool.false_eq_true, if_false, if_neg htarget, h]

theorem judgeForm_read {c : SegContent} (hgood : s.headerGood hd) (h : readSegment bs = some c) :
    judgeForm s hd bs =
      if c.window.any (fun w => decide (w.xhi < w.xlo) || decide (w.yhi < w.ylo)) then .error .windowInverted
      else if c.window.any (fun w => !s.cfg.params.inBed w) then .error .windowOutsideBed
      else .ok c := by
  obtain ⟨hkind, hplace, htarget⟩ := hgood
  simp only [judgeForm, hkind, hplace, not_true, Bool.false_eq_true, if_false, if_neg htarget, h]

theorem inBed_iff (p : Params) (w : Rect) :
    p.inBed w = true ↔ 0 ≤ w.xlo ∧ w.xhi ≤ p.bedLength ∧ 0 ≤ w.ylo ∧ w.yhi ≤ p.bedWidth := by
  simp [Params.inBed, and_assoc]

theorem judgeForm_window {c : SegContent} {w : Rect} (hgood : s.headerGood hd) (h : readSegment bs = some c)
    (hw : c.window = some w) :
    (w.xhi < w.xlo ∨ w.yhi < w.ylo → judgeForm s hd bs = .error .windowInverted)
      ∧ (w.xlo ≤ w.xhi → w.ylo ≤ w.yhi →
        (s.cfg.params.inBed w = false → judgeForm s hd bs = .error .windowOutsideBed)
        ∧ (s.cfg.params.inBed w = true → judgeForm s hd bs = .ok c)) := by
  rw [judgeForm_read hgood h, hw]
  refine ⟨fun hinv => by simp [hinv], fun hx hy => ?_⟩
  have hordered : (decide (w.xhi < w.xlo) || decide (w.yhi < w.ylo)) = false := by simp [hx, hy]
  refine ⟨fun hout => ?_, fun hin => ?_⟩
  · simp only [Option.any_some, hordered, hout, Bool.false_eq_true, if_false, Bool.not_false, if_true]
  · simp only [Option.any_some, hordered, hin, Bool.false_eq_true, if_false, Bool.not_true]

theorem judgeForm_windowless {c : SegContent} (hgood : s.headerGood hd) (h : readSegment bs = some c)
    (hw : c.window = none) : judgeForm s hd bs = .ok c := by
  rw [judgeForm_read hgood h, hw]
  rfl

end

/-- Settles O31: the refusals, the records that a seeking stream passes over, and the reasons of R61 in their order. -/
theorem malformedSegmentsLockTheStream : Obligations.MalformedSegmentsLockTheStream := by
  unfold Obligations.MalformedSegmentsLockTheStream
  refine ⟨?_, ?_⟩
  · intro s w htakes hlen bs h
    have hpayload : 3 ≤ (segmentBytes w).length := by rwa [segmentBytes_length htakes]
    refine ⟨fun hwrong => exec_segment htakes (takeSegment_wrongMode (s := s.begun) hwrong),
      fun hrole hmode => ⟨fun reason seq kind hlocked => ?_, fun target hseeks hother => ?_,
        fun reason hstream hroom hform => ?_⟩⟩
    · exact exec_segment htakes (takeSegment_locked (s := s.begun) hrole hmode hlocked)
    · refine exec_segment htakes ?_
      rw [takeSegment_notTarget (s := s.begun) hrole hmode hpayload hseeks hother, ← hseeks]
      rfl
    · exact exec_segment htakes ((takeSegment_admits (s := s.begun) hrole hmode hpayload hstream).trans
        (admitRecord_malformed (s := s.begun) hroom hform))
  · intro s h bs unknown misplaced untargeted
    refine ⟨fun hu => judgeForm_unknownKind ((segKindKnown_eq_false _).2 hu), fun hu hm => ?_, fun hu hm ht => ?_,
      fun hu hm ht => ?_⟩
    all_goals
      have hkind : segKindKnown h.kind = true := by
        rw [← Bool.not_eq_false]
        exact fun hf => hu ((segKindKnown_eq_false _).1 hf)
    · exact judgeForm_sequence hkind (expected_differs.2 hm)
    · exact judgeForm_repeatTarget hkind (fun hd => hm (expected_differs.1 hd)) ht
    · have hgood : s.headerGood h := ⟨hkind, fun hd => hm (expected_differs.1 hd), ht⟩
      refine ⟨judgeForm_unread hgood, fun c hread => ⟨fun w hw => ?_, judgeForm_windowless hgood hread⟩⟩
      obtain ⟨hinverted, hordered⟩ := judgeForm_window hgood hread hw
      refine ⟨hinverted, fun hx hy => ?_⟩
      obtain ⟨houtside, hinside⟩ := hordered hx hy
      refine ⟨fun hout => houtside ?_, fun hxlo hxhi hylo hyhi => hinside ((inBed_iff ..).2 ⟨hxlo, hxhi, hylo, hyhi⟩)⟩
      rw [← Bool.not_eq_true, inBed_iff]
      omega

end Sys2Proof.Machine
end

section
/-! PROOF. The record that joins the queue, and the copy that the queue forms of it (R62, R67, R68, R79, R100). -/

namespace Sys2Proof.Machine

/-! ### The length of a payload that can be read (R183) -/

/-- A layout that is read where a length and its ranges hold has that length. -/
theorem length_of_read {bs : List Byte} {n : Nat} {p : Prop} [Decidable p] {a c : SegContent}
    (h : (if bs.length = n ∧ p then some a else none) = some c) : bs.length = n := by
  obtain ⟨⟨hlen, -⟩, -⟩ := Option.ite_none_right_eq_some.1 h
  exact hlen

/-- A payload that gives a record's content holds the header. -/
theorem readSegment_length {bs : List Byte} {c : SegContent} (h : readSegment bs = some c) : 3 ≤ bs.length := by
  unfold readSegment at h
  split at h
  case h_1 =>
    unfold readCut at h
    split at h
    · exact (by decide : 3 ≤ 30).trans_eq (length_of_read h).symm
    · cases h
  case h_2 => exact (by decide : 3 ≤ 6).trans_eq (length_of_read h).symm
  case h_3 =>
    unfold readMark at h
    split at h
    · exact (by decide : 3 ≤ 33).trans_eq (length_of_read h).symm
    · cases h
  case h_4 => exact (by decide : 3 ≤ 8).trans_eq (length_of_read h).symm
  case h_5 => exact (by decide : 3 ≤ 6).trans_eq (length_of_read h).symm
  case h_6 =>
    obtain ⟨hlen, -⟩ := Option.ite_none_right_eq_some.1 h
    exact hlen.ge
  case h_7 =>
    unfold readRemnant at h
    split at h
    · exact (by decide : 3 ≤ 14).trans_eq (length_of_read h).symm
    · cases h
  case h_8 => cases h

theorem judgeForm_length {s : State} {hd : SegHeader} {bs : List Byte} {c : SegContent}
    (h : judgeForm s hd bs = .ok c) : 3 ≤ bs.length := by
  unfold judgeForm at h
  split at h
  · cases h
  · split at h
    · cases h
    · split at h
      · cases h
      · split at h
        · cases h
        · exact readSegment_length ‹_›

/-! ### The copies of the queue's head (R67, R68) -/

section
variable {s : State}

theorem formHead_cursor {cur : Cursor} (h : s.sq.cursor = some cur) : formHead s = s := by
  simp only [formHead, h]

theorem formHead_empty (h : s.sq.held = []) : formHead s = s := by
  unfold formHead
  rw [h]
  cases s.sq.cursor <;> rfl

/-- A REPEAT waits for its target (R68). -/
theorem formHead_repeatWaits {r : SegRecord} (hheld : s.sq.held = [r]) (hkind : r.content.kind = .repeats) :
    formHead s = s := by
  obtain ⟨seq, content⟩ := r
  unfold formHead
  rw [hheld]
  cases content <;> cases hkind
  cases s.sq.cursor <;> rfl

/-- Another record at the head becomes the head record (R67). -/
theorem formHead_first {r : SegRecord} {rest : List SegRecord} (hcursor : s.sq.cursor = none)
    (hheld : s.sq.held = r :: rest) (hkind : r.content.kind ≠ .repeats) : formHead s = formCopy r.cursor s := by
  obtain ⟨seq, content⟩ := r
  unfold formHead
  rw [hheld, hcursor]
  cases content with
  | repeats count dx dy => exact absurd rfl hkind
  | _ => rfl

/-- A REPEAT whose target is held is consumed, and the expansion of its target begins (R68). -/
theorem formHead_target {q : Seq} {count : Nat} {dx dy : Int} {target : SegRecord} {rest : List SegRecord}
    (hcursor : s.sq.cursor = none) (hheld : s.sq.held = ⟨q, .repeats count dx dy⟩ :: target :: rest) :
    formHead s = formCopy ⟨target, count + 1, 0, dx, dy⟩ (consumeHead s) := by
  unfold formHead
  rw [hheld, hcursor]

/-- A queue that is not armed raises no QUEUE_LOW (R73). -/
theorem lowWater_unarmed (h : s.sq.armed = false) : lowWater s = s := by
  simp [lowWater, h]

theorem consumeHead_unarmed {r : SegRecord} {rest : List SegRecord} (hheld : s.sq.held = r :: rest)
    (harmed : s.sq.armed = false) :
    consumeHead s = { s with sq := { s.sq with held := rest, cursor := none, consumed := s.sq.consumed + 1 } } := by
  simp only [consumeHead, hheld]
  exact lowWater_unarmed harmed

/-! ### What the release controller makes of it (R83, R100) -/

/-- In READY there is no live window to announce (R100). -/
theorem announce_quiet (hmode : s.sp.mode ≠ .run) (hlive : s.rc.live = .absent) : announce false s = s := by
  have hform : s.formLive = s.rc.live := by rw [hlive, State.formLive, if_neg hmode]
  unfold announce
  rw [hform]
  simp

/-- No copy is released outside RUN (R80, R81). -/
theorem mayRelease_notRun (h : s.sp.mode ≠ .run) (c : SegContent) (again : Bool) : s.mayRelease c again = false := by
  simp [State.mayRelease, h]

/-- A waiting copy that may not be released is judged and waits on (R83). -/
theorem settle_waits (h : ∀ c again, s.rc.waiting = some (c, again) → s.mayRelease c.content again = false) :
    settle s = s := by
  have hjudge : judgeOnce s = (s, false) := by
    unfold judgeOnce
    split
    · split
      · rename_i c hrel hhead
        rw [h c false (by simp [Rc.waiting, hrel, hhead])]
        rfl
      · rename_i c hrel hcur
        rw [h c.copy true (by simp [Rc.waiting, hrel, hcur])]
        simp
      · rfl
    · rfl
  simp only [settle, settleFor, hjudge]

theorem settle_notRun (h : s.sp.mode ≠ .run) : settle s = s :=
  settle_waits fun c again _ => mayRelease_notRun h c.content again

end

/-! ### The record that joins (R62) -/

/-- The queue with the record at its end (R62, R73). -/
def SegQueue.joined (q : SegQueue) (seq : Seq) (c : SegContent) : SegQueue :=
  { q with
    held := q.held ++ [⟨seq, c⟩]
    accepted := q.accepted + 1
    expected := some (seq + 1)
    stream := .opened
    repeatPending := decide (c.kind = .repeats)
    armed := q.armed || decide (16 ≤ q.held.length) }

theorem joinRecord_eq (seq : Seq) (c : SegContent) (q : SegQueue) : joinRecord ⟨seq, c⟩ q = q.joined seq c := by
  have harm : decide (16 < (q.held ++ [(⟨seq, c⟩ : SegRecord)]).length) = decide (16 ≤ q.held.length) :=
    decide_eq_decide.2 (by rw [List.length_append, List.length_singleton]; omega)
  simp only [joinRecord, harm]
  rfl

/-- The part with a record at the front of its queue as the head record: its copy 0 is formed (R67, R79). -/
def State.heading (s : State) (q : SegQueue) (r : SegRecord) (copies : Nat) (dx dy : Int) : State :=
  { s with
    sq := { q with cursor := some ⟨r, copies, 0, dx, dy⟩ }
    rc := { s.rc with
      release := if s.rc.release = .idle then .waiting else s.rc.release
      head := some ⟨r.seq, r.content, 0, copies, r.content.window.map (fun w => w.shift 0 0)⟩ } }

theorem formCopy_heading (s : State) (q : SegQueue) (r : SegRecord) (copies : Nat) (dx dy : Int) :
    formCopy ⟨r, copies, 0, dx, dy⟩ { s with sq := q } = s.heading q r copies dx dy := by
  simp [formCopy, takeCopy, Cursor.copy, State.heading]

/-- The release controller's answer to a copy that has become the head copy (R79, R83, R100). -/
theorem rcSettles_headed {before t : State} (hbefore : before.rc.head = none) (hhead : t.rc.head.isSome = true) :
    rcSettles before t = settle (windowChanged (announce false t)) := by
  rcases rcSettles_cases before t with ⟨-, hsame, -⟩ | ⟨-, he⟩
  · rw [hsame, hbefore] at hhead
    cases hhead
  · exact he

/-- The same head copy and release state: the live window alone is formed again. -/
theorem rcSettles_same {before t : State} (h : t.rc = before.rc) : rcSettles before t = announce false t := by
  rcases rcSettles_cases before t with ⟨-, -, he⟩ | ⟨hchanged, -⟩
  · exact he
  · rw [h] at hchanged
    simp at hchanged

/-- What an accepted SEGMENT answers: the counts right after the record joined (log 24). -/
theorem exec_segment_accepted {s t : State} {w : RawWrite} {c : SegContent} (htakes : s.takesRaw w)
    (hrole : s.role = .cutter) (hmode : s.sp.mode ≠ .offline) (hroom : s.sq.held.length < 64)
    (hstream : s.sq.stream = .opened
      ∨ s.sq.stream = .seeking (segHeader s.freeCount (segmentBytes w)).seq)
    (hform : judgeForm s (segHeader s.freeCount (segmentBytes w)) (segmentBytes w) = .ok c)
    (ht : rcSettles s.begun (formHead { s.begun with
      sq := s.sq.joined (segHeader s.freeCount (segmentBytes w)).seq c }) = t) :
    exec (.segment w) s
      = .next (s.replied .segment .ok (.queued (s.sq.held.length + 1) .opened) t) := by
  refine exec_segment htakes ((takeSegment_admits (s := s.begun) hrole hmode (judgeForm_length hform) hstream).trans
    ((admitRecord_accepts (s := s.begun) hroom hform).trans ?_))
  have hlen : (s.sq.joined (segHeader s.freeCount (segmentBytes w)).seq c).held.length = s.sq.held.length + 1 := by
    simp [SegQueue.joined]
  simp only [acceptRecord]
  rw [joinRecord_eq, ← ht, ← hlen]
  rfl

/-- Settles O29: the record joins the queue, and the head copy is the one that was there, copy 0 of the record, or copy
0 of the target of a REPEAT. -/
theorem segmentJoinsTheQueue : Obligations.SegmentJoinsTheQueue := by
  intro s w c htakes hrole hmode hroom bs h hstream hform new joined kept headed answers quiet
  have haccepted {n : Nat} {t : State} (hn : s.sq.held.length + 1 = n)
      (ht : rcSettles s.begun (formHead kept) = t) : answers n t :=
    hn ▸ exec_segment_accepted htakes hrole hmode hroom hstream hform ht
  have hsame : rcSettles s.begun kept = announce false kept := rcSettles_same rfl
  have hheads (hhead : s.rc.head = none) {q : SegQueue} {copies : Nat} {dx dy : Int}
      (hq : formHead kept = headed q copies dx dy) :
      rcSettles s.begun (formHead kept) = settle (windowChanged (announce false (headed q copies dx dy))) := by
    rw [hq]
    exact rcSettles_headed hhead rfl
  refine ⟨fun cur hcursor => ?_, fun hheld hcursor hhead => ?_,
    fun q count dx dy hheld hcursor hhead harmed hkind => ?_⟩
  · have hannounce : answers (s.sq.held.length + 1) (announce false kept) :=
      haccepted rfl (by rw [formHead_cursor (s := kept) hcursor, hsame])
    refine ⟨hannounce, fun ⟨hready, hlive⟩ => ?_⟩
    rwa [announce_quiet (s := kept) (by simp [kept, hready]) hlive] at hannounce
  · have hone : kept.sq.held = [new] := by simp [kept, joined, hheld]
    refine ⟨fun hkind => haccepted (by simp [hheld]) (by rw [formHead_repeatWaits hone hkind, hsame]), fun hkind => ?_⟩
    have hform : formHead kept = headed joined 1 0 0 :=
      (formHead_first (s := kept) hcursor hone hkind).trans (formCopy_heading s.begun joined new 1 0 0)
    have hsettles := haccepted (n := 1) (by simp [hheld]) (hheads hhead hform)
    refine ⟨hsettles, fun ⟨hready, hlive⟩ _ => ?_⟩
    have hrun : (headed joined 1 0 0).sp.mode ≠ .run := by simp [headed, hready]
    rwa [announce_quiet hrun hlive, settle_notRun (by simpa using hrun)] at hsettles
  · have htwo : kept.sq.held = [⟨q, .repeats count dx dy⟩, new] := by simp [kept, joined, hheld]
    have hunarmed : kept.sq.armed = false := by simp [kept, joined, harmed, hheld]
    refine haccepted (by simp [hheld]) (hheads hhead ?_)
    rw [formHead_target (s := kept) hcursor htwo, consumeHead_unarmed htwo hunarmed]
    exact formCopy_heading s.begun { joined with held := [new], cursor := none, consumed := s.sq.consumed + 1 } new
      (count + 1) dx dy

end Sys2Proof.Machine
end

section
/-! PROOF. What the envelope unit, the floor link and a change of station mode make of a state in which no copy is
released (R14, R72, R83, R100, R171): rules that name every field they write. -/

namespace Sys2Proof.Machine

/-! ### Looking at the hall (R12 to R14, R83, R100) -/

/-- `u` is `v` once the live window has been announced and the window under test evaluated: only the floor link, the
peer entries' results, the station result, the live window and the last non-clear time may differ. -/
def State.observes (v u : State) : Prop :=
  ∃ flc pt env live last timer, u = { v with
    flc := flc
    pt := pt
    env := env
    rc := { v.rc with live := live, lastNonclear := last, resumeTimer := timer } }

theorem observes_refl (s : State) : s.observes s :=
  ⟨s.flc, s.pt, s.env, s.rc.live, s.rc.lastNonclear, s.rc.resumeTimer, rfl⟩

theorem observes_trans {s t u : State} (hst : s.observes t) (htu : t.observes u) : s.observes u := by
  obtain ⟨_, _, _, _, _, _, rfl⟩ := hst
  obtain ⟨flc, pt, env, live, last, timer, rfl⟩ := htu
  exact ⟨flc, pt, env, live, last, timer, rfl⟩

theorem observes_keeps {s t : State} (h : s.observes t) :
    t.role = s.role ∧ t.rc.release = s.rc.release ∧ t.rc.head = s.rc.head ∧ t.rc.current = s.rc.current := by
  obtain ⟨_, _, _, _, _, _, rfl⟩ := h
  exact ⟨rfl, rfl, rfl, rfl⟩

section
variable {s : State}

theorem announce_writes (a : Bool) (s : State) :
    ∃ flc, announce a s = { s with flc := flc, rc := { s.rc with live := s.formLive } } := by
  unfold announce
  dsimp only
  split
  · rw [callUrgent_eq]
    exact ⟨_, rfl⟩
  · exact ⟨s.flc, rfl⟩

theorem evaluateAll_writes (s : State) : ∃ pt env, evaluateAll s = { s with pt := pt, env := env } := by
  by_cases hrole : s.role = .cutter
  · rw [evaluateAll_cutter hrole]
    exact ⟨_, _, rfl⟩
  · rw [evaluateAll_other hrole]
    exact ⟨s.pt, s.env, rfl⟩

theorem announce_observes (a : Bool) (s : State) : s.observes (announce a s) := by
  obtain ⟨flc, he⟩ := announce_writes a s
  exact ⟨flc, s.pt, s.env, s.formLive, s.rc.lastNonclear, s.rc.resumeTimer, he⟩

theorem evaluateAll_observes (s : State) : s.observes (evaluateAll s) := by
  obtain ⟨pt, env, he⟩ := evaluateAll_writes s
  exact ⟨s.flc, pt, env, s.rc.live, s.rc.lastNonclear, s.rc.resumeTimer, he⟩

theorem noteResult_observes (s : State) : s.observes (noteResult s) := by
  rcases noteResult_cases s with ⟨-, he⟩ | ⟨-, he⟩ <;> rw [he]
  · exact observes_refl s
  · exact ⟨s.flc, s.pt, s.env, s.rc.live, _, _, rfl⟩

/-- A result breaks the arc copy in flight, or is noted alone (R83, R89). -/
theorem windowChanged_cases (hrole : s.role = .cutter) :
    windowChanged s = noteResult (evaluateAll s)
      ∨ ∃ c cause, s.rc.release = .inFlight ∧ s.rc.current = some c
        ∧ windowChanged s = breakCopy cause (noteResult (evaluateAll s)) := by
  obtain ⟨_, _, _, _, _, _, hobs⟩ := observes_trans (evaluateAll_observes s) (noteResult_observes _)
  simp only [windowChanged, hrole, if_true, handOn]
  cases hbreaks : (noteResult (evaluateAll s)).resultBreaks with
  | none => exact .inl rfl
  | some cause =>
    refine .inr ?_
    rw [hobs] at hbreaks
    unfold State.resultBreaks at hbreaks
    split at hbreaks
    · rename_i c hrel hcur
      exact ⟨c, cause, hrel, hcur, rfl⟩
    · cases hbreaks

/-- Where no copy is in flight, a result is noted alone. -/
theorem windowChanged_noted (hrole : s.role = .cutter) (h : s.rc.release ≠ .inFlight) :
    windowChanged s = noteResult (evaluateAll s) := by
  rcases windowChanged_cases hrole with he | ⟨_, _, hrel, -⟩
  · exact he
  · exact absurd hrel h

theorem windowChanged_observes (hrole : s.role = .cutter) (h : s.rc.release ≠ .inFlight) :
    s.observes (windowChanged s) := by
  rw [windowChanged_noted hrole h]
  exact observes_trans (evaluateAll_observes s) (noteResult_observes _)

/-- Without a window under test the result is CLEAR, and nothing is noted (R12, R83). -/
theorem windowChanged_clear (hrole : s.role = .cutter) (h : s.rc.release = .idle ∨ s.rc.release = .faulted) :
    windowChanged s = evaluateAll s := by
  obtain ⟨hclear, -⟩ := evaluateAll_none hrole (windowUnderTest_none h)
  simp only [windowChanged, hrole, if_true]
  exact handOn_clear hclear

/-! ### A copy in flight that is broken, or not (R83, R89, R90) -/

/-- A break writes what it writes, and then the part looks at the hall again (R90). -/
theorem breakCopy_observes {c : Current} (hcur : s.rc.current = some c) (cause : BreakCause) :
    (s.brokenBy c cause).observes (breakCopy cause s) := by
  rw [breakCopy_eq hcur]
  exact observes_trans (announce_observes ..) (observes_trans (evaluateAll_observes _) (noteResult_observes _))

theorem brokenBy_observes {t : State} (h : s.observes t) (c : Current) (cause : BreakCause) :
    (s.brokenBy c cause).observes (t.brokenBy c cause) := by
  obtain ⟨flc, pt, env, live, last, timer, rfl⟩ := h
  have hsp := raise_sp_congr (s := s)
    (t := { s with flc := flc, pt := pt, env := env,
                   rc := { s.rc with live := live, lastNonclear := last, resumeTimer := timer } })
    (.segmentBreak c.copy.seq c.copy.k cause) rfl rfl
  refine ⟨flc, pt, env, live, last, timer, ?_⟩
  simp only [State.brokenBy, hsp]

/-- What a result leaves of the copy in flight: it is in flight still, or it has been broken. -/
theorem windowChanged_inFlight {c : Current} (hrole : s.role = .cutter) (hcur : s.rc.current = some c) :
    s.observes (windowChanged s) ∨ ∃ cause, (s.brokenBy c cause).observes (windowChanged s) := by
  have hobs := observes_trans (evaluateAll_observes s) (noteResult_observes _)
  rcases windowChanged_cases hrole with he | ⟨d, cause, -, hd, he⟩ <;> rw [he]
  · exact .inl hobs
  · rw [hcur] at hd
    cases hd
    refine .inr ⟨cause, observes_trans (brokenBy_observes hobs c cause) (breakCopy_observes ?_ cause)⟩
    obtain ⟨_, _, _, _, _, _, hv⟩ := hobs
    rw [hv]
    exact hcur

/-! ### A change of station mode (R72, R171) -/

/-- Notices change the port alone, and there neither the mode nor what a request or a read changes (R170). -/
theorem raise_writes (d : NoticeData) (s : State) :
    ∃ sp, raise d s = { s with sp := sp } ∧ sp.mode = s.sp.mode ∧ sp.front = s.sp.front :=
  ⟨_, raise_eq d s, by simp, by simp⟩

/-- The low watermark may raise its notice and disarm the queue (R73). -/
theorem lowWater_writes (s : State) :
    ∃ sp armed, lowWater s = { s with sp := sp, sq := { s.sq with armed := armed } } ∧ sp.mode = s.sp.mode
      ∧ sp.front = s.sp.front := by
  unfold lowWater
  split
  · obtain ⟨sp, he, hmode, hfront⟩ := raise_writes (.queueLow s.sq.held.length)
      { s with sq := { s.sq with armed := false } }
    exact ⟨sp, false, he, hmode, hfront⟩
  · exact ⟨s.sp, s.sq.armed, rfl, rfl, rfl⟩

/-- The queue with nothing held, its cursor empty and its stream open (R65, R72). -/
def SegQueue.emptied (q : SegQueue) (armed : Bool) : SegQueue :=
  { q with
    held := []
    cursor := none
    repeatPending := false
    expected := none
    stream := .opened
    discarded := q.discarded + BitVec.ofNat 32 q.held.length
    armed := armed }

theorem discardAll_writes (s : State) :
    ∃ sp armed, discardAll s = { s with sp := sp, sq := s.sq.emptied armed } ∧ sp.mode = s.sp.mode
      ∧ sp.front = s.sp.front :=
  lowWater_writes { s with sq := s.sq.emptied s.sq.armed }

theorem driveLines_other (h : s.role ≠ .crane) : driveLines s = s := if_neg h

/-- A cutter changes to a mode from READY or OFFLINE: nothing moves in the queue (R171). -/
theorem changeMode_notRun (m : Mode) (hrole : s.role = .cutter) (hmode : s.sp.mode ≠ .run) :
    ∃ sp, { s with sp := sp }.observes (changeMode m s) ∧ sp.mode = m ∧ sp.front = s.sp.front := by
  obtain ⟨sp, he, hm, hfront⟩ := raise_writes (.modeChanged s.sp.mode m) { s with sp := { s.sp with mode := m } }
  refine ⟨sp, ?_, hm, hfront⟩
  have hurgent : { s with sp := sp }.observes
      (if s.sp.mode = Mode.offline then callUrgent { s with sp := sp } else { s with sp := sp }) := by
    split
    · rw [callUrgent_eq]
      exact ⟨_, s.pt, s.env, s.rc.live, s.rc.lastNonclear, s.rc.resumeTimer, rfl⟩
    · exact observes_refl _
  have hdrive : ∀ u : State, { s with sp := sp }.observes u → driveLines u = u ∧ u.role = .cutter := by
    rintro u ⟨_, _, _, _, _, _, rfl⟩
    have hr : s.role ≠ .crane := by simp [hrole]
    exact ⟨driveLines_other hr, hrole⟩
  obtain ⟨hdrives, hcutter⟩ := hdrive _ hurgent
  unfold changeMode
  dsimp only
  rw [he, hdrives, if_pos hcutter, if_neg hmode]
  exact observes_trans hurgent (announce_observes ..)

/-- The release controller once nothing is held and no copy waits (R72). -/
def Rc.drained (rc : Rc) : Rc :=
  { rc with
    release := .idle
    head := none
    fault := rc.fault.map (fun f => { f with recordAtHead := false }) }

/-- The queue of a part with no copy in flight or broken leaves RUN: it is emptied, and the copy that waited is
dropped (R72, R79). -/
theorem queueLeavesRun_writes (hrole : s.role = .cutter) (hrel : s.rc.release = .idle ∨ s.rc.release = .waiting) :
    ∃ pt env sp armed, queueLeavesRun s = { s with
        pt := pt
        env := env
        sq := s.sq.emptied armed
        sp := sp
        rc := s.rc.drained }
      ∧ sp.mode = s.sp.mode ∧ sp.front = s.sp.front := by
  obtain ⟨sp, armed, hdiscard, hmode, hfront⟩ := discardAll_writes s
  have hrest : (if s.rc.release = .waiting then Release.idle else s.rc.release) = .idle := by
    rcases hrel with h | h <;> simp [h]
  have hleaves : queueLeavesRun s = if s.rc.head.isSome
      then windowChanged { s with sq := s.sq.emptied armed, sp := sp, rc := s.rc.drained }
      else { s with sq := s.sq.emptied armed, sp := sp, rc := s.rc.drained } := by
    simp only [queueLeavesRun, hdiscard, hrest]
    rfl
  rw [hleaves]
  split
  · rw [windowChanged_clear (s := { s with sq := s.sq.emptied armed, sp := sp, rc := s.rc.drained }) hrole (.inl rfl)]
    obtain ⟨pt, env, he⟩ := evaluateAll_writes { s with sq := s.sq.emptied armed, sp := sp, rc := s.rc.drained }
    exact ⟨pt, env, sp, armed, he, hmode, hfront⟩
  · exact ⟨s.pt, s.env, sp, armed, rfl, hmode, hfront⟩

theorem changeMode_leavesRun (m : Mode) (hrole : s.role = .cutter) (hmode : s.sp.mode = .run)
    (hrel : s.rc.release = .idle ∨ s.rc.release = .waiting) :
    ∃ flc pt env sp armed live, changeMode m s = { s with
        flc := flc
        pt := pt
        env := env
        sq := s.sq.emptied armed
        sp := sp
        rc := { s.rc.drained with live := live } }
      ∧ sp.mode = m ∧ sp.front = s.sp.front := by
  obtain ⟨p, he, hpm, hpfront⟩ := raise_writes (.modeChanged s.sp.mode m) { s with sp := { s.sp with mode := m } }
  obtain ⟨pt, env, sp, armed, hleaves, hsm, hsfront⟩ := queueLeavesRun_writes (s := { s with sp := p }) hrole hrel
  have hdrives : driveLines { s with sp := p } = { s with sp := p } :=
    driveLines_other (s := { s with sp := p }) (fun h => by cases hrole.symm.trans h)
  obtain ⟨flc, hannounce⟩ := announce_writes false (queueLeavesRun { s with sp := p })
  refine ⟨flc, pt, env, sp, armed, (queueLeavesRun { s with sp := p }).formLive, ?_, hsm.trans hpm,
    hsfront.trans hpfront⟩
  have hchange : changeMode m s = announce false (queueLeavesRun { s with sp := p }) := by
    unfold changeMode
    dsimp only
    rw [he, if_neg (show s.sp.mode ≠ .offline by simp [hmode]), hdrives,
      if_pos (show State.role { s with sp := p } = .cutter from hrole), if_pos hmode]
  rw [hchange, hannounce, hleaves]

/-! ### The end of a pending stop (R99) -/

theorem endStop_free (h : s.rc.stopPending = false) : endStop s = s := by
  simp [endStop, h]

theorem endStop_notRun (hrole : s.role = .cutter) (hmode : s.sp.mode ≠ .run) (hstop : s.rc.stopPending = true) :
    ∃ sp, { s with sp := sp, rc := { s.rc with stopPending := false } }.observes (endStop s)
      ∧ sp.mode = .ready ∧ sp.front = s.sp.front := by
  rw [endStop, if_pos hstop]
  exact changeMode_notRun .ready (s := { s with rc := { s.rc with stopPending := false } }) hrole hmode

theorem endStop_leavesRun (hrole : s.role = .cutter) (hmode : s.sp.mode = .run)
    (hrel : s.rc.release = .idle ∨ s.rc.release = .waiting) (hstop : s.rc.stopPending = true) :
    ∃ flc pt env sp armed live, endStop s = { s with
        flc := flc
        pt := pt
        env := env
        sq := s.sq.emptied armed
        sp := sp
        rc := { s.rc.drained with stopPending := false, live := live } }
      ∧ sp.mode = .ready ∧ sp.front = s.sp.front := by
  rw [endStop, if_pos hstop]
  exact changeMode_leavesRun .ready (s := { s with rc := { s.rc with stopPending := false } }) hrole hmode hrel

end

end Sys2Proof.Machine
end

section
/-! PROOF. A change of ESTOP (R97, R166, R172): what the release controller and the crane's lines make of it. -/

namespace Sys2Proof.Machine

/-- A break leaves what the release controller does not write, and the copy that it broke (R90, R112). -/
theorem breakCopy_leaves {v : State} {c : Current} (hcur : v.rc.current = some c) (cause : BreakCause) :
    (breakCopy cause v).rc.release = .broken ∧ (breakCopy cause v).rc.current = some (c.broken cause)
      ∧ (breakCopy cause v).rc.head = v.rc.head ∧ (breakCopy cause v).rc.flightTimer = none
      ∧ (breakCopy cause v).rc.haltTimer = some ⟨v.time, 2000⟩ ∧ (breakCopy cause v).lu.arcPermit = false
      ∧ (breakCopy cause v).lc = v.lc.entered c .broken ∧ (breakCopy cause v).st = v.st := by
  obtain ⟨_, _, _, _, _, _, he⟩ := breakCopy_observes hcur cause
  rw [he]
  exact ⟨rfl, rfl, rfl, rfl, rfl, rfl, rfl, rfl⟩

/-- What a notice adds at the port does not depend on the rest of the state (R170). -/
theorem raise_eq_of {d : NoticeData} {s t : State} (hsp : t.sp = s.sp) (htime : t.time = s.time) :
    raise d t = { t with sp := (raise d s).sp } := by
  rw [raise_eq d t, raise_sp_congr d hsp htime]

/-! ### A crane's lines (R166) -/

section
variable {s : State}

/-- While a cause withdraws them the five lines fall, and wait for new results. -/
theorem driveLines_withdrawn (hrole : s.role = .crane) (h : s.linesWithdrawn = true) :
    driveLines s = { s with
      mu := { s.mu with live := false }
      lu := s.lu.withPermits .withdrawn } := by
  simp only [driveLines, hrole, h, if_true]

/-- Lines that wait for new results stay withdrawn. -/
theorem driveLines_waiting (hrole : s.role = .crane) (h : s.mu.live = false) :
    driveLines s = { s with lu := s.lu.withPermits .withdrawn } := by
  have hsame : { s.mu with live := false } = s.mu := by rw [← h]
  simp only [driveLines, hrole, if_true, h, Bool.false_eq_true, if_false, hsame, ite_self]

/-! ### The levels of ESTOP (R172) -/

/-- The part with its ESTOP input at a level. -/
def State.estopAt (s : State) (level : Bool) : State := { s with lu := { s.lu with estop := level } }

/-- The part once a change of ESTOP is reported, before the release controller and the move unit take it (R172). -/
def State.sensed (s : State) (level : Bool) : State :=
  { s.estopAt level with sp := (raise (.estopChanged level) s).sp }

/-- A level that does not change is not sensed (R172). -/
theorem senseEstop_unchanged {level : Bool} {act : State → State} (h : s.lu.estop = level) :
    senseEstop level act s = s := if_pos h

/-- Before a good load a change is sampled alone (R172, R174). -/
theorem senseEstop_unloaded {level : Bool} {act : State → State} (h : s.lu.estop ≠ level)
    (hload : s.isLoaded = false) : senseEstop level act s = s.estopAt level := by
  have hload' : ¬ s.isLoaded = true := by simp [hload]
  simp only [senseEstop, h, if_false]
  exact if_neg hload'

/-- After a good load a change is reported and handed on (R172). -/
theorem senseEstop_loaded {level : Bool} {act : State → State} (h : s.lu.estop ≠ level)
    (hload : s.isLoaded = true) :
    senseEstop level act s = act (s.sensed level) := by
  simp only [senseEstop, h, if_false]
  exact (if_pos hload).trans (congrArg act (raise_eq_of rfl rfl))

/-- In the other roles, and where no arc copy is in flight, the release controller has nothing to break (R97). -/
theorem estopOn_quiet (h : s.role = .rack ∨ (s.role = .cutter ∧ s.burning = false)) : estopOn s = s := by
  rcases h with hrole | ⟨hrole, hburning⟩
  · simp only [estopOn, hrole]
  · have hbreaks : s.estopBreaks = false := hburning
    simp [estopOn, hrole, hbreaks]

theorem estopOn_burning (hrole : s.role = .cutter) (h : s.burning = true) : estopOn s = breakCopy .estop s := by
  have hbreaks : s.estopBreaks = true := h
  simp [estopOn, hrole, hbreaks]

theorem burning_current (h : s.burning = true) : ∃ c, s.rc.current = some c := by
  simp only [State.burning, Bool.and_eq_true] at h
  obtain ⟨-, hany⟩ := h
  cases hcur : s.rc.current with
  | none => simp [hcur] at hany
  | some c => exact ⟨c, rfl⟩

/-- An arc copy waits while the resume delay runs (R80, condition 5). -/
theorem mayRelease_delayed {c : SegContent} (harc : c.isArc = true) (h : s.delayPassed = false) (again : Bool) :
    s.mayRelease c again = false := by
  simp [State.mayRelease, harc, h]

/-- At the moment of a last non-clear time a resume delay has not passed. -/
theorem delayPassed_now (hlast : s.rc.lastNonclear = some s.time) (h : 1 ≤ s.cfg.params.resumeDelay) :
    s.delayPassed = false := by
  simp only [State.delayPassed, hlast, ageOf, elapsed_self, Nat.zero_min, decide_eq_false_iff_not]
  omega

/-- The release of ESTOP sets last_nonclear, so that an arc copy waits out the resume delay (R83, R97). -/
theorem estopOff_cutter (hrole : s.role = .cutter) (hdelay : 1 ≤ s.cfg.params.resumeDelay)
    (harc : ∀ c again, s.rc.waiting = some (c, again) → c.content.isArc = true) : estopOff s = s.noted := by
  have hwaits : settle s.noted = s.noted :=
    settle_waits fun c again hc => mayRelease_delayed (s := s.noted) (harc c again hc)
      (delayPassed_now (s := s.noted) rfl hdelay) again
  simp only [estopOff, hrole]
  exact hwaits

end

/-- Settles O40: each level is sensed once, a burning copy breaks, and a crane's lines are withdrawn until new
results. -/
theorem estopBreaksAndWithdraws : Obligations.EstopBreaksAndWithdraws := by
  unfold Obligations.EstopBreaksAndWithdraws
  intro s
  have hnext {t u : State} (h : t = u) : Host.Outcome.next (φ := Fault) (ρ := Refusal) t = .next u := by rw [h]
  have hreports {level : Bool} {t u : State} (hsp : t.sp = s.sp) (htime : t.time = s.time)
      (hu : u = { t with sp := (raise (.estopChanged level) s).sp }) :
      Host.Outcome.next (φ := Fault) (ρ := Refusal) u = .next (raise (.estopChanged level) t) :=
    hnext (hu.trans (raise_eq_of hsp htime).symm)
  refine ⟨fun h => hnext (senseEstop_unchanged h), fun h => hnext (senseEstop_unchanged h), ?_, ?_⟩
  · intro hlow t
    have hchange : s.lu.estop ≠ true := by simp [hlow]
    refine ⟨fun hload => hnext (senseEstop_unloaded hchange hload), fun hload => ?_⟩
    have hsense : exec .estopAsserted s = .next (estopOn (s.sensed true)) := hnext (senseEstop_loaded hchange hload)
    rw [hsense]
    refine ⟨fun hquiet => ?_, fun hrole hburning => ?_, fun hrole => ?_⟩
    · rw [estopOn_quiet (s := s.sensed true) hquiet]
      exact hreports rfl rfl rfl
    · rw [estopOn_burning (s := s.sensed true) hrole hburning]
      obtain ⟨c, hcur⟩ := burning_current hburning
      obtain ⟨hrel, hcurrent, hhead, hflight, hhalt, hpermit, hlc, hst⟩ :=
        breakCopy_leaves (v := s.sensed true) hcur .estop
      have hmode : (breakCopy .estop (s.sensed true)).sp.mode = s.sp.mode := by simp [State.sensed]
      obtain ⟨-, -, hcfg, -, -, hsq, hsu, hmu, -⟩ := breakCopy_frame .estop (s.sensed true)
      exact ⟨_, c, rfl, hrel, hpermit, hflight, hhalt, hcur, hcurrent, hhead, hmode, hsq, hst, hsu, hmu, hlc, hcfg⟩
    · have hwithdrawn : (s.sensed true).linesWithdrawn = true := by
        simp [State.linesWithdrawn, State.sensed, State.estopAt]
      have hdrive : estopOn (s.sensed true) = driveLines (s.sensed true) := by
        simp only [estopOn, show (s.sensed true).role = .crane from hrole]
      rw [hdrive, driveLines_withdrawn (s := s.sensed true) hrole hwithdrawn]
      exact hreports rfl rfl rfl
  · intro hhigh t
    have hchange : s.lu.estop ≠ false := by simp [hhigh]
    refine ⟨fun hload => hnext (senseEstop_unloaded hchange hload), fun hload => ?_⟩
    have hsense : exec .estopReleased s = .next (estopOff (s.sensed false)) := hnext (senseEstop_loaded hchange hload)
    rw [hsense]
    refine ⟨fun hrole => ?_, fun hrole hdelay harc => ?_, fun hrole hlive => ?_⟩
    · have hstands : estopOff (s.sensed false) = s.sensed false := by
        simp only [estopOff, show (s.sensed false).role = .rack from hrole]
      rw [hstands]
      exact hreports rfl rfl rfl
    · rw [estopOff_cutter (s := s.sensed false) hrole hdelay harc]
      exact hreports rfl rfl rfl
    · have hdrive : estopOff (s.sensed false) = driveLines (s.sensed false) := by
        simp only [estopOff, show (s.sensed false).role = .crane from hrole]
      rw [hdrive, driveLines_waiting (s := s.sensed false) hrole hlive]
      exact hreports rfl rfl rfl

end Sys2Proof.Machine
end

section
/-! PROOF. FLUSH and RESYNC (R65, R66, R94). -/

namespace Sys2Proof.Machine

section
variable {s t : State}

/-! ### What the release controller's answer leaves where no copy is judged (R79, R83) -/

/-- With no copy current or waiting nothing is judged. -/
theorem rcSettles_idle (before : State) (hrole : t.role = .cutter) (hrel : t.rc.release = .idle) :
    t.observes (rcSettles before t) := by
  have hann := announce_observes false t
  rcases rcSettles_cases before t with ⟨-, -, he⟩ | ⟨-, he⟩ <;> rw [he]
  · exact hann
  · obtain ⟨hcutter, hidle, -⟩ := observes_keeps hann
    have hobs := observes_trans hann (windowChanged_observes (hcutter.trans hrole) (by simp [hidle, hrel]))
    obtain ⟨-, hrest, -⟩ := observes_keeps hobs
    rwa [settle_noWait (.inl (hrest.trans hrel))]

/-- A copy in flight is in flight still, or a result has broken it. -/
theorem rcSettles_inFlight (before : State) {c : Current} (hrole : t.role = .cutter) (hrel : t.rc.release = .inFlight)
    (hcur : t.rc.current = some c) :
    t.observes (rcSettles before t) ∨ ∃ cause, (t.brokenBy c cause).observes (rcSettles before t) := by
  have hann := announce_observes false t
  rcases rcSettles_cases before t with ⟨-, -, he⟩ | ⟨-, he⟩ <;> rw [he]
  · exact .inl hann
  · obtain ⟨hcutter, -, -, hcurrent⟩ := observes_keeps hann
    rcases windowChanged_inFlight (hcutter.trans hrole) (hcurrent.trans hcur) with hobs | ⟨cause, hobs⟩
    · have hobs := observes_trans hann hobs
      obtain ⟨-, hflies, -⟩ := observes_keeps hobs
      rw [settle_noWait (.inr (.inl (hflies.trans hrel)))]
      exact .inl hobs
    · have hobs := observes_trans (brokenBy_observes hann c cause) hobs
      obtain ⟨-, hbroken, -, hcopy⟩ := observes_keeps hobs
      rw [settle_noWait (.inr (.inr ⟨hbroken, c.broken cause, hcopy, rfl⟩))]
      exact .inr ⟨cause, hobs⟩

/-! ### The flush itself (R94) -/

/-- A copy in flight goes on, flushed, and no copy waits behind it. -/
theorem takeFlush_inFlight (h : s.rc.release = .inFlight) :
    takeFlush s = { s with rc := { s.rc with
      head := none
      current := s.rc.current.map (fun c => { c with flushed := true }) } } := by
  simp only [takeFlush, h]

/-- Without a copy in flight, and without a stop that waits for a broken one, the release controller is left IDLE. -/
theorem takeFlush_idles (htable : s.releaseTable) (h : s.rc.release ≠ .inFlight)
    (hstop : ¬ (s.rc.release = .broken ∧ s.rc.stopPending = true)) :
    ∃ rc, takeFlush s = { s with rc := rc } ∧ rc.release = .idle ∧ rc.head = none ∧ rc.current = none := by
  obtain ⟨-, hrow, -⟩ := htable
  unfold takeFlush
  cases hrel : s.rc.release with
  | inFlight => exact absurd hrel h
  | idle =>
    rw [hrel] at hrow
    obtain ⟨hhead, hcur⟩ := hrow
    exact ⟨s.rc, rfl, hrel, hhead, hcur⟩
  | waiting =>
    rw [hrel] at hrow
    obtain ⟨-, hcur⟩ := hrow
    exact ⟨{ s.rc with head := none, release := .idle }, rfl, rfl, rfl, hcur⟩
  | faulted =>
    rw [hrel] at hrow
    obtain ⟨hcur, -⟩ := hrow
    exact ⟨{ s.rc with head := none, fault := none, release := .idle }, rfl, rfl, rfl, hcur⟩
  | broken =>
    have hfree : ¬ s.rc.stopPending = true := fun hp => hstop ⟨hrel, hp⟩
    exact ⟨{ s.rc with head := none, current := none, haltTimer := none, release := .idle }, if_neg hfree, rfl, rfl,
      rfl⟩

/-- The stop that waited for a broken copy ends, and with it RUN (R72, R99). -/
theorem takeFlush_endsStop (hrole : s.role = .cutter) (hmode : s.sp.mode = .run) (h : s.rc.release = .broken)
    (hstop : s.rc.stopPending = true) :
    ∃ flc pt env sp armed rc, takeFlush s = { s with
        flc := flc
        pt := pt
        env := env
        sq := s.sq.emptied armed
        sp := sp
        rc := rc }
      ∧ rc.release = .idle ∧ rc.head = none ∧ rc.current = none ∧ sp.front = s.sp.front := by
  let dropped : Rc := { s.rc with head := none, current := none, haltTimer := none, release := .idle }
  obtain ⟨flc, pt, env, sp, armed, live, he, -, hfront⟩ :=
    endStop_leavesRun (s := { s with rc := dropped }) hrole hmode (.inl rfl) hstop
  refine ⟨flc, pt, env, sp, armed, { dropped.drained with stopPending := false, live := live }, ?_, rfl, rfl, rfl,
    hfront⟩
  simp only [takeFlush, h]
  exact he

/-- What a flush leaves in every state but with a copy in flight (R94). -/
theorem takeFlush_rests (hrole : s.role = .cutter) (htable : s.releaseTable)
    (hstop : s.rc.stopPending = true → s.sp.mode = .run) (h : s.rc.release ≠ .inFlight) :
    ∃ flc pt env sq sp rc, takeFlush s = { s with flc := flc, pt := pt, env := env, sq := sq, sp := sp, rc := rc }
      ∧ rc.release = .idle ∧ rc.head = none ∧ rc.current = none ∧ sp.front = s.sp.front
      ∧ ((s.rc.release = .broken ∧ s.rc.stopPending = true ∧ ∃ armed, sq = s.sq.emptied armed)
        ∨ (¬ (s.rc.release = .broken ∧ s.rc.stopPending = true) ∧ sq = s.sq)) := by
  by_cases hboth : s.rc.release = .broken ∧ s.rc.stopPending = true
  · obtain ⟨hbroken, hpending⟩ := hboth
    obtain ⟨flc, pt, env, sp, armed, rc, he, hidle, hhead, hcur, hfront⟩ :=
      takeFlush_endsStop hrole (hstop hpending) hbroken hpending
    exact ⟨flc, pt, env, _, sp, rc, he, hidle, hhead, hcur, hfront, .inl ⟨hbroken, hpending, armed, rfl⟩⟩
  · obtain ⟨rc, he, hidle, hhead, hcur⟩ := takeFlush_idles htable h hboth
    exact ⟨s.flc, s.pt, s.env, s.sq, s.sp, rc, he, hidle, hhead, hcur, rfl, .inr ⟨hboth, rfl⟩⟩

/-! ### The two requests (R65, R66) -/

/-- What FLUSH and RESYNC leave of the release controller's copies. -/
def State.copiesFlushed (s u : State) : Prop :=
  u.rc.head = none ∧ (s.rc.release ≠ .inFlight → u.rc.release = .idle ∧ u.rc.current = none)
    ∧ (s.rc.release = .inFlight →
        u.rc.current.map (fun d => (d.copy, d.flushed)) = s.rc.current.map (fun d => (d.copy, true))
        ∧ (u.rc.release = .inFlight ∨ u.rc.release = .broken))

/-- A flush leaves the reply buffer and the blocks that it does not reach. -/
def State.sparedBy (s u : State) : Prop :=
  u.sp.buffer = s.sp.buffer ∧ u.st = s.st ∧ u.su = s.su ∧ u.mu = s.mu ∧ u.cfg = s.cfg

theorem buffer_of_front {p q : Port} (h : q.front = p.front) : q.buffer = p.buffer := by
  simp only [Port.front, Prod.mk.injEq] at h
  obtain ⟨-, hbuffer, -⟩ := h
  exact hbuffer

theorem flush_inFlight (before : State) (hrole : s.role = .cutter) (htable : s.releaseTable)
    (h : s.rc.release = .inFlight) :
    (rcSettles before (takeFlush s)).sq = s.sq ∧ s.copiesFlushed (rcSettles before (takeFlush s))
      ∧ s.sparedBy (rcSettles before (takeFlush s)) := by
  obtain ⟨-, hrow, -⟩ := htable
  rw [h] at hrow
  obtain ⟨c, hcur⟩ := Option.isSome_iff_exists.1 hrow
  let flushed : Current := { c with flushed := true }
  let w : State := { s with rc := { s.rc with head := none, current := some flushed } }
  have hw : takeFlush s = w := by
    rw [takeFlush_inFlight h, hcur]
    rfl
  rw [hw]
  rcases rcSettles_inFlight (t := w) before hrole h rfl with
    ⟨_, _, _, _, _, _, he⟩ | ⟨cause, _, _, _, _, _, _, he⟩ <;> rw [he]
  · refine ⟨rfl, ⟨rfl, fun hn => absurd h hn, fun _ => ⟨?_, .inl h⟩⟩, rfl, rfl, rfl, rfl, rfl⟩
    rw [hcur]
    rfl
  · refine ⟨rfl, ⟨rfl, fun hn => absurd h hn, fun _ => ⟨?_, .inr rfl⟩⟩, buffer_of_front ?_,
      rfl, rfl, rfl, rfl⟩
    · rw [hcur]
      rfl
    · simp [State.brokenBy, w]

theorem flush_rests (before : State) (hrole : s.role = .cutter) (htable : s.releaseTable)
    (hstop : s.rc.stopPending = true → s.sp.mode = .run) (h : s.rc.release ≠ .inFlight) :
    ((s.rc.release = .broken ∧ s.rc.stopPending = true
        ∧ ∃ armed, (rcSettles before (takeFlush s)).sq = s.sq.emptied armed)
      ∨ (¬ (s.rc.release = .broken ∧ s.rc.stopPending = true) ∧ (rcSettles before (takeFlush s)).sq = s.sq))
      ∧ s.copiesFlushed (rcSettles before (takeFlush s)) ∧ s.sparedBy (rcSettles before (takeFlush s)) := by
  obtain ⟨flc, pt, env, sq, sp, rc, hflush, hidle, hhead, hcur, hfront, hsq⟩ := takeFlush_rests hrole htable hstop h
  rw [hflush]
  obtain ⟨_, _, _, _, _, _, he⟩ :=
    rcSettles_idle (t := { s with flc := flc, pt := pt, env := env, sq := sq, sp := sp, rc := rc }) before hrole hidle
  rw [he]
  exact ⟨hsq, ⟨hhead, fun _ => ⟨hidle, hcur⟩, fun hfly => absurd hfly h⟩, buffer_of_front hfront,
    rfl, rfl, rfl, rfl⟩

/-- What FLUSH and RESYNC leave of the queue, whose stream and expected sequence are as `after` set them, unless a
broken copy's stop was pending. -/
def State.queueFlushed (s : State) (after : SegQueue → SegQueue) (u : State) : Prop :=
  ∃ armed, (s.rc.release = .broken ∧ s.rc.stopPending = true
      ∧ ∃ again, u.sq = (after (s.sq.emptied armed)).emptied again)
    ∨ (¬ (s.rc.release = .broken ∧ s.rc.stopPending = true) ∧ u.sq = after (s.sq.emptied armed))

theorem flushQueue_leaves (after : SegQueue → SegQueue) (hrole : s.role = .cutter) (htable : s.releaseTable)
    (hstop : s.rc.stopPending = true → s.sp.mode = .run) :
    ∃ u, flushQueue after s = (u, .ok, .flushed s.sq.held.length)
      ∧ s.queueFlushed after u ∧ s.copiesFlushed u ∧ s.sparedBy u := by
  obtain ⟨sp, armed, hdiscard, hmode, hfront⟩ := discardAll_writes s
  let w : State := { s with sp := sp, sq := after (s.sq.emptied armed) }
  have hflush : flushQueue after s = (rcSettles s (takeFlush w), .ok, .flushed s.sq.held.length) := by
    simp only [flushQueue, hdiscard]
    rfl
  have hspared {u : State} (h : w.sparedBy u) : s.sparedBy u := by
    obtain ⟨hbuffer, hrest⟩ := h
    exact ⟨hbuffer.trans (buffer_of_front hfront), hrest⟩
  refine ⟨_, hflush, ?_⟩
  by_cases h : s.rc.release = .inFlight
  · obtain ⟨hsq, hcopies, hspares⟩ := flush_inFlight (s := w) s hrole htable h
    exact ⟨⟨armed, .inr ⟨by simp [h], hsq⟩⟩, hcopies, hspared hspares⟩
  · obtain ⟨hsq, hcopies, hspares⟩ := flush_rests (s := w) s hrole htable (fun hp => hmode.trans (hstop hp)) h
    exact ⟨⟨armed, hsq⟩, hcopies, hspared hspares⟩

/-- Every held record is discarded, and the other counts stand (R65, R74). -/
theorem queueFlushed_counts {after : SegQueue → SegQueue} {u : State}
    (hafter : after = id ∨ ∃ q, after = seekTarget q)
    (h : s.queueFlushed after u) :
    u.sq.held = [] ∧ u.sq.cursor = none ∧ u.sq.repeatPending = false ∧ u.sq.accepted = s.sq.accepted
      ∧ u.sq.consumed = s.sq.consumed
      ∧ u.sq.discarded = s.sq.discarded + BitVec.ofNat 32 s.sq.held.length := by
  obtain ⟨armed, ⟨-, -, again, hsq⟩ | ⟨-, hsq⟩⟩ := h <;> rw [hsq]
  · rcases hafter with rfl | ⟨q, rfl⟩
    · exact ⟨rfl, rfl, rfl, rfl, rfl, BitVec.add_zero _⟩
    · exact ⟨rfl, rfl, rfl, rfl, rfl, BitVec.add_zero _⟩
  · rcases hafter with rfl | ⟨q, rfl⟩
    · exact ⟨rfl, rfl, rfl, rfl, rfl, rfl⟩
    · exact ⟨rfl, rfl, rfl, rfl, rfl, rfl⟩

/-- A cutter's own request is taken by its block (R168). -/
theorem cutterRequest_takes {f : WriteFrame} {code : RequestCode} {act : State → State × Answer} {u : State}
    {r : ResultCode} {d : ReplyData} (htakes : s.takes f) (hrole : s.role = .cutter) (h : act s.begun = (u, r, d)) :
    roleRequest f code cutterOnly act s = s.replied code r d u := by
  rw [roleRequest_takes htakes]
  exact takenRequest_eq ((if_pos (decide_eq_true hrole)).trans h)

/-- In the other roles a cutter's request is refused (R78). -/
theorem cutterRequest_refused {f : WriteFrame} {code : RequestCode} {act : State → State × Answer}
    (htakes : s.takes f) (hrole : s.role ≠ .cutter) :
    roleRequest f code cutterOnly act s = s.replied code .wrongMode .none s.begun := by
  rw [roleRequest_takes htakes]
  exact takenRequest_eq (if_neg fun h => hrole (of_decide_eq_true h))

end

/-- Settles O32: the two requests differ only in what they leave of the stream. -/
theorem flushDiscardsWhatIsHeld : Obligations.FlushDiscardsWhatIsHeld := by
  unfold Obligations.FlushDiscardsWhatIsHeld
  refine ⟨fun s f target c code htakes hrole htable hstop hc => ?_, fun s f target htakes hrole =>
    ⟨congrArg _ (cutterRequest_refused htakes hrole), congrArg _ (cutterRequest_refused htakes hrole)⟩⟩
  rcases hc with ⟨rfl, rfl⟩ | ⟨rfl, rfl⟩
  · obtain ⟨u, hflush, hqueue, ⟨hhead, hrests, hflies⟩, hbuffer, hspared⟩ :=
      flushQueue_leaves (s := s.begun) id hrole htable hstop
    obtain ⟨hheld, hcursor, hrepeat, haccepted, hconsumed, hdiscarded⟩ := queueFlushed_counts (.inl rfl) hqueue
    have hexec : exec (.flush f) s = .next (s.replied .flush .ok _ u) :=
      congrArg Host.Outcome.next (cutterRequest_takes htakes hrole hflush)
    refine ⟨_, hexec, hheld, hcursor, hrepeat, haccepted, hconsumed, hdiscarded, fun _ => ?_,
      nofun, hhead, hrests, hflies, congrArg (· ++ _) hbuffer, hspared⟩
    obtain ⟨armed, ⟨-, -, again, hsq⟩ | ⟨-, hsq⟩⟩ := hqueue
    · exact ⟨congrArg SegQueue.stream hsq, congrArg SegQueue.expected hsq⟩
    · exact ⟨congrArg SegQueue.stream hsq, congrArg SegQueue.expected hsq⟩
  · obtain ⟨u, hflush, hqueue, ⟨hhead, hrests, hflies⟩, hbuffer, hspared⟩ :=
      flushQueue_leaves (s := s.begun) (seekTarget target) hrole htable hstop
    obtain ⟨hheld, hcursor, hrepeat, haccepted, hconsumed, hdiscarded⟩ :=
      queueFlushed_counts (.inr ⟨target, rfl⟩) hqueue
    have hexec : exec (.resync f target) s = .next (s.replied .resync .ok _ u) :=
      congrArg Host.Outcome.next (cutterRequest_takes htakes hrole hflush)
    refine ⟨_, hexec, hheld, hcursor, hrepeat, haccepted, hconsumed, hdiscarded, fun hended => ?_,
      fun _ hnot => ?_, hhead, hrests, hflies, congrArg (· ++ _) hbuffer, hspared⟩
    · obtain ⟨armed, ⟨-, -, again, hsq⟩ | ⟨hnot, -⟩⟩ := hqueue
      · exact ⟨congrArg SegQueue.stream hsq, congrArg SegQueue.expected hsq⟩
      · exact absurd (hended.resolve_left nofun) hnot
    · obtain ⟨armed, ⟨hbroken, hpending, -⟩ | ⟨-, hsq⟩⟩ := hqueue
      · exact absurd ⟨hbroken, hpending⟩ hnot
      · exact ⟨congrArg SegQueue.stream hsq, congrArg SegQueue.expected hsq⟩

end Sys2Proof.Machine
end

section
/-! PROOF. SEGMENT_DONE (R87): the copy that ends, and what the queue and the release controller make of its end. -/

namespace Sys2Proof.Machine

section
variable {s v w x : State} {c : Current}

/-! ### The mark log and its remnant (R111 to R113) -/

/-- The stock table once the remnant that a copy marks is marked. -/
def State.stockMarked (s : State) (c : Current) : Stock :=
  match c.marks with
  | some serial => s.st.setMarked ⟨s.cfg.params.station, serial⟩
  | none => s.st

theorem logMark_done (c : Current) (s : State) :
    logMark c .done s = { s with lc := s.lc.entered c .done, st := s.stockMarked c } := by
  rcases c with ⟨⟨seq, content, k, copies, window⟩, cause, before, halted, flushed, legend⟩
  cases content with
  | mark tool w budget template target part =>
    cases legend with
    | none => cases target <;> rfl
    | some g => cases tool <;> cases target <;> rfl
  | _ => rfl

theorem setMarked_found {t : Stock} {i : StockId} {n : Nat} {r : StockRecord} (hfind : t.find i = some n)
    (hr : entryAt t.records n = some r) :
    t.setMarked i = { t with
      records := t.records.set n (some { r with piece := { r.piece with marked := true } }) } := by
  simp only [Stock.setMarked, hfind, modifyAt_eq hr]

theorem setMarked_absent {t : Stock} {i : StockId} (h : ∀ n r, t.find i = some n → entryAt t.records n ≠ some r) :
    t.setMarked i = t := by
  unfold Stock.setMarked
  cases hfind : t.find i with
  | none => rfl
  | some n =>
    have hsame (f : StockRecord → StockRecord) : modifyAt t.records n f = t.records :=
      modifyAt_eq_self fun r hr => absurd hr (h n r hfind)
    simp only [hsame]

/-! ### The copy ends (R87) -/

theorem raise_length (d : NoticeData) (s : State) : (raise d s).sp.notices.length ≤ s.sp.notices.length + 1 := by
  rcases raise_cases d s with ⟨-, he⟩ | ⟨-, he⟩ <;> rw [he]
  · simp
  · exact Nat.le_succ _

theorem lowWater_length (s : State) : (lowWater s).sp.notices.length ≤ s.sp.notices.length + 1 := by
  unfold lowWater
  split
  · exact raise_length _ _
  · exact Nat.le_succ _

theorem addArc_writes (ms : Nat) (s : State) :
    ∃ sp, addArc ms s = { s with sp := sp, rc := { s.rc with arcMs := min (s.rc.arcMs + ms) 4294967295 } }
      ∧ sp.mode = s.sp.mode ∧ sp.front = s.sp.front ∧ sp.notices.length ≤ s.sp.notices.length + 1 := by
  unfold addArc
  dsimp only
  split
  · exact ⟨_, raise_eq .., by simp, by simp, raise_length _ _⟩
  · exact ⟨s.sp, rfl, rfl, rfl, Nat.le_succ _⟩

/-- The part once the copy `c` has ended, before the queue takes its completion (R87). -/
def State.copyEnded (s : State) (c : Current) (ms : Nat) (sp : Port) : State :=
  { s with
    sp := sp
    lc := s.lc.entered c .done
    st := s.stockMarked c
    lu := { s.lu with arcPermit := false }
    rc := { s.rc with
      current := none
      flightTimer := none
      haltTimer := none
      arcMs := if c.copy.content.isArc then min (s.rc.arcMs + ms) 4294967295 else s.rc.arcMs } }

/-- The completion that the queue takes, with the release controller's answer judged to its end (R70, R79, R83). -/
def State.completes (v : State) (arcChanged : Bool) : State :=
  settle (afterCompletion (queueCompletes v).2 arcChanged (queueCompletes v).1)

theorem completeCurrent_writes (c : Current) (ms : Nat) (s : State) :
    ∃ sp, settle (completeCurrent c ms s)
        = (if c.flushed then settle (afterCompletion none s.lu.arcPermit (s.copyEnded c ms sp))
          else (s.copyEnded c ms sp).completes s.lu.arcPermit)
      ∧ sp.mode = s.sp.mode ∧ sp.front = s.sp.front ∧ sp.notices.length ≤ s.sp.notices.length + 1 := by
  let stopped : State := { s with
    lu := { s.lu with arcPermit := false }
    rc := { s.rc with flightTimer := none, haltTimer := none } }
  obtain ⟨sp, hsp, hports⟩ : ∃ sp, (if c.copy.content.isArc then addArc ms stopped else stopped)
        = { stopped with sp := sp, rc := { stopped.rc with
          arcMs := if c.copy.content.isArc then min (s.rc.arcMs + ms) 4294967295 else s.rc.arcMs } }
      ∧ sp.mode = s.sp.mode ∧ sp.front = s.sp.front ∧ sp.notices.length ≤ s.sp.notices.length + 1 := by
    split
    · exact addArc_writes ms stopped
    · exact ⟨s.sp, rfl, rfl, rfl, Nat.le_succ _⟩
  refine ⟨sp, ?_, hports⟩
  have hended : { logMark c .done (if c.copy.content.isArc then addArc ms stopped else stopped) with
      rc := { (logMark c .done (if c.copy.content.isArc then addArc ms stopped else stopped)).rc with
        current := none } } = s.copyEnded c ms sp := by
    rw [hsp, logMark_done]
    rfl
  have hcompletes : completeCurrent c ms s
      = (let r := if c.flushed then (s.copyEnded c ms sp, none) else queueCompletes (s.copyEnded c ms sp)
        afterCompletion r.2 s.lu.arcPermit r.1) := by
    rw [← hended]
    rfl
  rw [hcompletes]
  cases c.flushed <;> rfl

/-! ### What stands after a completion (R79, R87) -/

/-- What the end of a copy has written stands, and what it does not reach. -/
def State.carries (v u : State) : Prop := v.sparedBy u ∧ u.rc.arcMs = v.rc.arcMs

/-- No copy is current, ARC_PERMIT is off and the timers are stopped (R87). -/
def State.copyless (v : State) : Prop :=
  v.rc.current = none ∧ v.rc.flightTimer = none ∧ v.rc.haltTimer = none ∧ v.lu.arcPermit = false

/-- No copy came in the place of the one that ended. -/
def State.rests (v u : State) : Prop :=
  v.carries u ∧ u.lc = v.lc ∧ u.rc.current = none ∧ u.rc.head = none ∧ u.rc.flightTimer = none
    ∧ u.rc.haltTimer = none ∧ u.lu.arcPermit = false ∧ u.rc.pierces = v.rc.pierces

/-- The copy `next` is the head copy, or it was released at once, and then perhaps broken (R83, R89, R112). -/
def State.offers (v u : State) (next : Copy) : Prop :=
  (u.rc.head = some next ∨ u.rc.current.map (fun d => d.copy) = some next)
    ∧ (u.lc = v.lc ∨ ∃ d, u.rc.current = some d ∧ d.copy = next ∧ u.rc.release = .broken
        ∧ u.lc = v.lc.entered d .broken)

theorem carries_trans {u : State} (hvx : v.carries x) (hxu : x.carries u) : v.carries u := by
  obtain ⟨⟨hbuffer, hst, hsu, hmu, hcfg⟩, harc⟩ := hvx
  obtain ⟨⟨hbuffer', hst', hsu', hmu', hcfg'⟩, harc'⟩ := hxu
  exact ⟨⟨hbuffer'.trans hbuffer, hst'.trans hst, hsu'.trans hsu, hmu'.trans hmu, hcfg'.trans hcfg⟩,
    harc'.trans harc⟩

theorem rests_after {u : State} (h : x.rests u) (hvx : v.carries x) (hlc : x.lc = v.lc)
    (hpierces : x.rc.pierces = v.rc.pierces) : v.rests u := by
  obtain ⟨hcarries, hu, hcur, hhead, hflight, hhalt, hpermit, hp⟩ := h
  exact ⟨carries_trans hvx hcarries, hu.trans hlc, hcur, hhead, hflight, hhalt, hpermit, hp.trans hpierces⟩

/-- A state that differs from `v` only in what an evaluation, the queue and the release controller's place write. -/
theorem rests_of_writes (hv : v.copyless) {flc : Flc} {pt : PeerTable} {env : Env} {sq : SegQueue} {sp : Port} {rc : Rc}
    (hfront : sp.front = v.sp.front) (hrc : rc.arcMs = v.rc.arcMs ∧ rc.current = v.rc.current ∧ rc.head = none
      ∧ rc.flightTimer = v.rc.flightTimer ∧ rc.haltTimer = v.rc.haltTimer ∧ rc.pierces = v.rc.pierces) :
    v.rests { v with flc := flc, pt := pt, env := env, sq := sq, sp := sp, rc := rc } := by
  obtain ⟨hcur, hflight, hhalt, hpermit⟩ := hv
  obtain ⟨harc, hc, hh, hf, ht, hp⟩ := hrc
  exact ⟨⟨⟨buffer_of_front hfront, rfl, rfl, rfl, rfl⟩, harc⟩, rfl, hc.trans hcur, hh, hf.trans hflight,
    ht.trans hhalt, hpermit, hp⟩

/-- A state at rest with an empty queue stays so when its pending stop ends (R99). -/
theorem endStop_rests (hrole : x.role = .cutter) (hx : x.copyless) (hrel : x.rc.release = .idle)
    (hhead : x.rc.head = none) (hheld : x.sq.held = []) (hcursor : x.sq.cursor = none) :
    x.rests (endStop x) ∧ (endStop x).rc.release = .idle ∧ (endStop x).sq.held = [] ∧ (endStop x).sq.cursor = none
      ∧ (endStop x).sq.consumed = x.sq.consumed ∧ (endStop x).sq.discarded = x.sq.discarded
      ∧ (endStop x).sq.accepted = x.sq.accepted ∧ (endStop x).rc.stopPending = false
      ∧ (endStop x).sp.mode = (if x.rc.stopPending then .ready else x.sp.mode) := by
  cases hstop : x.rc.stopPending with
  | false =>
    rw [endStop_free hstop]
    exact ⟨rests_of_writes hx rfl ⟨rfl, rfl, hhead, rfl, rfl, rfl⟩, hrel, hheld, hcursor, rfl, rfl, rfl, hstop,
      rfl⟩
  | true =>
    by_cases hmode : x.sp.mode = .run
    · obtain ⟨flc, pt, env, sp, armed, live, he, hready, hfront⟩ := endStop_leavesRun hrole hmode (.inl hrel) hstop
      rw [he]
      refine ⟨rests_of_writes hx hfront ⟨rfl, rfl, rfl, rfl, rfl, rfl⟩, rfl, rfl, rfl, rfl, ?_, rfl, rfl,
        hready⟩
      simp [SegQueue.emptied, hheld]
    · obtain ⟨sp, ⟨flc, pt, env, live, last, timer, he⟩, hready, hfront⟩ := endStop_notRun hrole hmode hstop
      rw [he]
      exact ⟨rests_of_writes hx hfront ⟨rfl, rfl, hhead, rfl, rfl, rfl⟩, hrel, hheld, hcursor, rfl, rfl, rfl, rfl,
        hready⟩

/-- The release controller looks at the hall with the copy that the queue's answer left at the head (R14, R79). -/
theorem rest_observes (a : Bool) (hrole : w.role = .cutter) :
    { w with rc := w.rc.rest }.observes (windowChanged (announce a { w with rc := w.rc.rest })) := by
  have hann := announce_observes a { w with rc := w.rc.rest }
  obtain ⟨hcutter, hrel, -⟩ := observes_keeps hann
  refine observes_trans hann (windowChanged_observes (hcutter.trans hrole) ?_)
  rw [hrel]
  simp only [Rc.rest]
  split <;> simp

/-! ### Without a next copy (R70, R79) -/

theorem completes_last {cur : Cursor} {r : SegRecord} (a : Bool) (hrole : v.role = .cutter) (hv : v.copyless)
    (hcursor : v.sq.cursor = some cur) (hlast : cur.copies ≤ cur.k + 1) (hheld : v.sq.held = [r])
    (hhead : v.rc.head = none) :
    v.rests (v.completes a) ∧ (v.completes a).rc.release = .idle ∧ (v.completes a).sq.held = []
      ∧ (v.completes a).sq.cursor = none ∧ (v.completes a).sq.consumed = v.sq.consumed + 1
      ∧ (v.completes a).sq.discarded = v.sq.discarded ∧ (v.completes a).sq.accepted = v.sq.accepted
      ∧ (v.completes a).rc.stopPending = false
      ∧ (v.completes a).sp.mode = (if v.rc.stopPending then .ready else v.sp.mode) := by
  let q : SegQueue := { v.sq with held := [], cursor := none, consumed := v.sq.consumed + 1 }
  obtain ⟨sp, armed, hlow, hmode, hfront⟩ := lowWater_writes { v with sq := q }
  let w : State := { v with sp := sp, sq := { q with armed := armed } }
  have hconsume : consumeHead v = w := by
    simp only [consumeHead, hheld]
    exact hlow
  have hqueue : queueCompletes v = (w, none) := by
    simp only [queueCompletes, hcursor, if_neg (Nat.not_lt.2 hlast), hconsume]
    rw [formHead_empty (s := w) rfl]
  obtain ⟨flc, pt, env, live, last, timer, hx⟩ := rest_observes (w := w) a hrole
  have hrest : w.rc.rest = { v.rc with release := .idle } := by
    simp [Rc.rest, w, hhead]
  rw [hrest] at hx
  have hanswer : v.completes a = settle (endStop (windowChanged (announce a { w with rc := w.rc.rest }))) := by
    rw [State.completes, hqueue]
    rfl
  rw [hanswer, hrest, hx]
  obtain ⟨hrests, hidle, hempty, hnone, hconsumed, hdiscarded, haccepted, hstop, hm⟩ := endStop_rests (x := { w with
    flc := flc
    pt := pt
    env := env
    rc := { v.rc with release := .idle, live := live, lastNonclear := last, resumeTimer := timer } })
    hrole hv rfl hhead rfl rfl
  rw [settle_noWait (.inl hidle)]
  exact ⟨rests_after hrests ⟨⟨buffer_of_front hfront, rfl, rfl, rfl, rfl⟩, rfl⟩ rfl rfl, hidle, hempty, hnone,
    hconsumed, hdiscarded, haccepted, hstop,
    hm.trans (congrArg (fun m => if v.rc.stopPending then Mode.ready else m) hmode)⟩

/-- With a flushed copy gone and no head copy, the release controller is IDLE, and the queue stands (R79, R94). -/
theorem rest_idle (a : Bool) (hrole : v.role = .cutter) (hv : v.copyless) (hhead : v.rc.head = none)
    (hstop : v.rc.stopPending = false) :
    v.rests (settle (afterCompletion none a v)) ∧ (settle (afterCompletion none a v)).rc.release = .idle
      ∧ (settle (afterCompletion none a v)).sq = v.sq
      ∧ (settle (afterCompletion none a v)).sp.mode = v.sp.mode := by
  have hrest : v.rc.rest = { v.rc with release := .idle } := by
    simp [Rc.rest, hhead]
  obtain ⟨flc, pt, env, live, last, timer, hx⟩ := rest_observes (w := v) a hrole
  rw [hrest] at hx
  have hanswer : afterCompletion none a v = { v with
      flc := flc
      pt := pt
      env := env
      rc := { v.rc with release := .idle, live := live, lastNonclear := last, resumeTimer := timer } } := by
    simp only [afterCompletion, hrest, hx]
    exact endStop_free hstop
  rw [hanswer, settle_noWait (.inl rfl)]
  exact ⟨rests_of_writes hv rfl ⟨rfl, rfl, hhead, rfl, rfl, rfl⟩, rfl, rfl, rfl⟩

/-! ### A fault (R69, R92) -/

/-- The release controller as a fault leaves it. -/
def Rc.faultedBy (rc : Rc) (f : ReleaseFault) : Rc :=
  { rc with
    release := .faulted
    fault := some f
    current := none
    flightTimer := none
    haltTimer := none }

theorem enterFaulted_observes (f : ReleaseFault) (a : Bool) (hrole : w.role = .cutter)
    (hstop : w.rc.stopPending = false) :
    { w with
      lu := { w.lu with arcPermit := false }
      rc := w.rc.faultedBy f
      sp := (raise (.releaseFaulted f.reason f.seq f.k f.flushed) w).sp }.observes (enterFaulted f a w) := by
  let t : State := { w with lu := { w.lu with arcPermit := false }, rc := w.rc.faultedBy f }
  let y : State := { t with sp := (raise (.releaseFaulted f.reason f.seq f.k f.flushed) w).sp }
  have hraise : raise (.releaseFaulted f.reason f.seq f.k f.flushed) t = y := raise_eq_of rfl rfl
  have hann := announce_observes a y
  obtain ⟨hcutter, hrel, -⟩ := observes_keeps hann
  have hobs : y.observes (windowChanged (announce a y)) :=
    observes_trans hann (windowChanged_observes (hcutter.trans hrole) (by rw [hrel]; exact nofun))
  have hends : enterFaulted f a w = endStop (windowChanged (announce a y)) := by
    rw [← hraise]
    rfl
  rw [hends, endStop_free]
  · exact hobs
  · obtain ⟨_, _, _, _, _, _, he⟩ := hobs
    rw [he]
    exact hstop

theorem settle_faulted (h : w.rc.release = .faulted) : settle w = w :=
  settle_waits fun c again hwait => by simp [Rc.waiting, h] at hwait

/-- The next copy would lie outside the bed: its record is discarded, and the release controller faults (R69). -/
theorem completes_overrun {cur : Cursor} {r : SegRecord} (a : Bool) (hrole : v.role = .cutter) (hv : v.copyless)
    (hcursor : v.sq.cursor = some cur) (hnext : cur.k + 1 < cur.copies)
    (hout : ({ cur with k := cur.k + 1 } : Cursor).copy.window.all v.cfg.params.inBed = false)
    (hheld : v.sq.held = [r]) (hhead : v.rc.head = none) (hstop : v.rc.stopPending = false) :
    v.rests (v.completes a) ∧ (v.completes a).rc.release = .faulted
      ∧ (v.completes a).rc.fault = some ⟨.bedOverrun, cur.record.seq, cur.k + 1, false, false⟩
      ∧ (v.sp.notices.length < 31 →
          (⟨v.time, .releaseFaulted .bedOverrun cur.record.seq (cur.k + 1) false⟩ : Notice)
            ∈ (v.completes a).sp.notices)
      ∧ (v.completes a).sq.held = [] ∧ (v.completes a).sq.cursor = none
      ∧ (v.completes a).sq.consumed = v.sq.consumed ∧ (v.completes a).sq.discarded = v.sq.discarded + 1
      ∧ (v.completes a).sq.accepted = v.sq.accepted ∧ (v.completes a).sp.mode = v.sp.mode := by
  let q : SegQueue := { v.sq with held := [], cursor := none, discarded := v.sq.discarded + 1 }
  obtain ⟨sp, armed, hlow, hmode, hfront⟩ := lowWater_writes { v with sq := q }
  have hlength : sp.notices.length ≤ v.sp.notices.length + 1 := by
    have h := lowWater_length { v with sq := q }
    rwa [hlow] at h
  let w : State := { v with sp := sp, sq := { q with armed := armed } }
  have hdiscard : discardHead v = w := by
    simp only [discardHead, hheld]
    exact hlow
  have hqueue : queueCompletes v = (w, some (cur.record.seq, cur.k + 1)) := by
    simp only [queueCompletes, hcursor, if_pos hnext, hout, Bool.false_eq_true, if_false, hdiscard]
    rw [formHead_empty (s := w) rfl]
  have hanswer : v.completes a
      = settle (enterFaulted ⟨.bedOverrun, cur.record.seq, cur.k + 1, false, false⟩ a w) := by
    rw [State.completes, hqueue]
    rfl
  obtain ⟨_, _, _, _, _, _, he⟩ :=
    enterFaulted_observes (w := w) ⟨.bedOverrun, cur.record.seq, cur.k + 1, false, false⟩ a hrole hstop
  rw [hanswer, he, settle_faulted rfl]
  obtain ⟨-, hflight, hhalt, hpermit⟩ := hv
  refine ⟨⟨⟨⟨buffer_of_front ?_, rfl, rfl, rfl, rfl⟩, rfl⟩, rfl, rfl, hhead, rfl, rfl, rfl, rfl⟩, rfl,
    rfl, fun hroom => ?_, rfl, rfl, rfl, rfl, rfl, ?_⟩
  · simpa [w] using hfront
  · rcases raise_cases (.releaseFaulted .bedOverrun cur.record.seq (cur.k + 1) false) w with
      ⟨-, hr⟩ | ⟨hfull, -⟩
    · simp [hr, w]
    · simp only [w] at hfull
      omega
  · simpa [w] using hmode

/-! ### The next copy (R69, R83, R84) -/

theorem settle_once {t : State} (h : judgeOnce s = (t, false)) : settle s = t := by
  simp only [settle, settleFor, h]

/-- Where a first release stands when its window is evaluated again (R85, R86). -/
theorem startCopy_writes (next : Copy) (legend : Option Legend) :
    ∃ y d, startCopy next false legend x = windowChanged (announce next.content.isArc y) ∧ x.carries y
      ∧ d.copy = next ∧ y.rc.current = some d ∧ y.role = x.role ∧ y.lc = x.lc ∧ y.sq = x.sq
      ∧ y.sp.mode = x.sp.mode := by
  let pierce := next.content.pierceBearing false
  let pierces := x.rc.pierces + (if pierce then 1 else 0)
  let released : State := { x with
    lu := { x.lu with arcPermit := next.content.isArc }
    rc := { x.rc with
      release := .inFlight
      head := none
      current := some (releasedCopy x.rc.current next false legend)
      pierces := pierces
      flightTimer := x.timer (flightTime x.cfg.params next.content false) } }
  obtain ⟨p, hgo, hgmode, hgfront⟩ := raise_writes (goNotice next false legend) released
  obtain ⟨sp, hy, hmode, hfront⟩ : ∃ sp, (if pierce ∧ pierces = x.cfg.params.pierceLimit
        then raise (.wearLimit .pierce) { released with sp := p } else { released with sp := p })
        = { released with sp := sp }
      ∧ sp.mode = x.sp.mode ∧ sp.front = x.sp.front := by
    split
    · obtain ⟨sp, hwear, hmode, hfront⟩ := raise_writes (.wearLimit .pierce) { released with sp := p }
      exact ⟨sp, hwear, hmode.trans hgmode, hfront.trans hgfront⟩
    · exact ⟨p, rfl, hgmode, hgfront⟩
  refine ⟨{ released with sp := sp }, releasedCopy x.rc.current next false legend, ?_,
    ⟨⟨buffer_of_front hfront, rfl, rfl, rfl, rfl⟩, rfl⟩, rfl, rfl, rfl, rfl, rfl, hmode⟩
  have hstarts : startCopy next false legend x = windowChanged (announce next.content.isArc
      (if pierce ∧ pierces = (raise (goNotice next false legend) released).cfg.params.pierceLimit
        then raise (.wearLimit .pierce) (raise (goNotice next false legend) released)
        else raise (goNotice next false legend) released)) := rfl
  rw [hstarts, hgo]
  exact congrArg (fun y => windowChanged (announce next.content.isArc y)) hy

/-- A released copy is in flight, or it has been broken at once (R85, R89). -/
theorem startCopy_offers {next : Copy} {legend : Option Legend} (hrole : x.role = .cutter) :
    x.carries (startCopy next false legend x) ∧ x.offers (startCopy next false legend x) next
      ∧ (startCopy next false legend x).sq = x.sq ∧ (startCopy next false legend x).sp.mode = x.sp.mode := by
  obtain ⟨y, d, hstarts, hkeeps, hcopy, hcur, hy⟩ := startCopy_writes (x := x) next legend
  obtain ⟨hcutter, hlc, hsq, hmode⟩ := hy
  have hann := announce_observes next.content.isArc y
  obtain ⟨hr, -, -, hc⟩ := observes_keeps hann
  rw [hstarts]
  rcases windowChanged_inFlight (hr.trans (hcutter.trans hrole)) (hc.trans hcur) with hobs | ⟨cause, hobs⟩
  · obtain ⟨_, _, _, _, _, _, he⟩ := observes_trans hann hobs
    rw [he]
    refine ⟨hkeeps, ⟨.inr ?_, .inl hlc⟩, hsq, hmode⟩
    rw [hcur, Option.map_some, hcopy]
  · obtain ⟨_, _, _, _, _, _, he⟩ := observes_trans (brokenBy_observes hann d cause) hobs
    rw [he]
    refine ⟨carries_trans hkeeps ⟨⟨buffer_of_front (by simp [State.brokenBy]), rfl, rfl, rfl, rfl⟩, rfl⟩, ⟨.inr ?_,
      .inr ⟨d.broken cause, rfl, hcopy, rfl, ?_⟩⟩, hsq, ?_⟩
    · exact congrArg some hcopy
    · rw [← hlc]
      rfl
    · simpa [State.brokenBy] using hmode

/-- A waiting CUT, TRAVEL or MARK waits on, faults, or is released (R83, R84). -/
theorem settle_offers {next : Copy} (hrole : x.role = .cutter) (hrel : x.rc.release = .waiting)
    (hhead : x.rc.head = some next) (hkind : next.content.isNest = false) (hstop : x.rc.stopPending = false) :
    x.carries (settle x) ∧ x.offers (settle x) next ∧ (settle x).sq = x.sq ∧ (settle x).sp.mode = x.sp.mode := by
  cases hmay : x.mayRelease next.content false with
  | false =>
    have hwaits : settle x = x := settle_waits fun c again hwait => by
      simp only [Rc.waiting, hrel, hhead, Option.map_some, Option.some.injEq, Prod.mk.injEq] at hwait
      obtain ⟨rfl, rfl⟩ := hwait
      exact hmay
    rw [hwaits]
    exact ⟨⟨⟨rfl, rfl, rfl, rfl, rfl⟩, rfl⟩, ⟨.inl hhead, .inl rfl⟩, rfl, rfl⟩
  | true =>
    cases hcheck : releaseCheck next x with
    | error e =>
      have hfaults : settle x = enterFaulted ⟨e, next.seq, next.k, false, true⟩ false x :=
        settle_once (by simp [judgeOnce, hrole, hrel, hhead, hmay, hcheck])
      obtain ⟨_, _, _, _, _, _, he⟩ :=
        enterFaulted_observes ⟨e, next.seq, next.k, false, true⟩ false hrole hstop
      rw [hfaults, he]
      exact ⟨⟨⟨buffer_of_front (by simp), rfl, rfl, rfl, rfl⟩, rfl⟩, ⟨.inl hhead, .inl rfl⟩, rfl, by simp⟩
    | ok legend =>
      have hstarts : settle x = startCopy next false legend x :=
        settle_once (by simp [judgeOnce, hrole, hrel, hhead, hmay, hcheck, hkind])
      rw [hstarts]
      exact startCopy_offers hrole

/-- After a completion the copy at the head is offered, and the queue stands (R79, R83). -/
theorem rest_offers {next : Copy} (a : Bool) (hrole : v.role = .cutter) (hhead : v.rc.head = some next)
    (hkind : next.content.isNest = false) (hstop : v.rc.stopPending = false) :
    v.carries (settle (afterCompletion none a v)) ∧ v.offers (settle (afterCompletion none a v)) next
      ∧ (settle (afterCompletion none a v)).sq = v.sq
      ∧ (settle (afterCompletion none a v)).sp.mode = v.sp.mode := by
  have hrest : v.rc.rest = { v.rc with release := .waiting } := by
    simp [Rc.rest, hhead]
  obtain ⟨flc, pt, env, live, last, timer, hx⟩ := rest_observes (w := v) a hrole
  rw [hrest] at hx
  have hanswer : afterCompletion none a v = { v with
      flc := flc
      pt := pt
      env := env
      rc := { v.rc with release := .waiting, live := live, lastNonclear := last, resumeTimer := timer } } := by
    simp only [afterCompletion, hrest, hx]
    exact endStop_free hstop
  rw [hanswer]
  exact settle_offers (x := { v with
    flc := flc
    pt := pt
    env := env
    rc := { v.rc with release := .waiting, live := live, lastNonclear := last, resumeTimer := timer } })
    hrole rfl hhead hkind hstop

/-- The part with the next copy of its cursor's record at the head (R69, R79). -/
def State.advanced (v : State) (cur : Cursor) : State :=
  { v with
    sq := { v.sq with cursor := some { cur with k := cur.k + 1 } }
    rc := { v.rc with
      head := some ({ cur with k := cur.k + 1 } : Cursor).copy
      release := if v.rc.release = .idle then .waiting else v.rc.release } }

theorem completes_advances {cur : Cursor} (a : Bool) (hcursor : v.sq.cursor = some cur)
    (hnext : cur.k + 1 < cur.copies)
    (hin : ({ cur with k := cur.k + 1 } : Cursor).copy.window.all v.cfg.params.inBed = true) :
    v.completes a = settle (afterCompletion none a (v.advanced cur)) := by
  have hqueue : queueCompletes v = (v.advanced cur, none) := by
    simp only [queueCompletes, hcursor, if_pos hnext, hin, if_true]
    rfl
  rw [State.completes, hqueue]

/-- The station result depends on the peer table, the window under test, the parameters and the time alone (R12). -/
theorem evaluateAll_station_congr {t : State} (hrole : s.role = .cutter) (hpt : t.pt = s.pt) (hcfg : t.cfg = s.cfg)
    (htime : t.time = s.time) (hwindow : t.windowUnderTest = s.windowUnderTest) :
    (evaluateAll t).env.station = (evaluateAll s).env.station := by
  have hrole' : t.role = .cutter := by rwa [State.role, hcfg]
  have hentry : t.evaluateEntry = s.evaluateEntry := by
    funext e
    simp only [State.evaluateEntry, hwindow, hcfg, htime]
  have hevaluated : t.evaluated = s.evaluated := by rw [State.evaluated, hentry, hpt, State.evaluated]
  rw [evaluateAll_cutter hrole, evaluateAll_cutter hrole', hwindow, hevaluated]

/-- What a result that comes where no copy is in flight leaves of the last non-clear time (R83). -/
theorem windowChanged_lastNonclear (a : Bool) (hrole : w.role = .cutter) (h : w.rc.release ≠ .inFlight) :
    (windowChanged (announce a w)).rc.lastNonclear
      = if (evaluateAll w).env.station = .clear then w.rc.lastNonclear else some w.time := by
  obtain ⟨flc, hann⟩ := announce_writes a w
  let y : State := { w with flc := flc, rc := { w.rc with live := w.formLive } }
  have hstation : (evaluateAll y).env.station = (evaluateAll w).env.station :=
    evaluateAll_station_congr hrole rfl rfl rfl rfl
  obtain ⟨pt, env, heval⟩ := evaluateAll_writes y
  rw [hann, windowChanged_noted (s := y) hrole h, ← hstation]
  rcases noteResult_cases (evaluateAll y) with ⟨hclear, he⟩ | ⟨hclear, he⟩
  · rw [he, if_pos hclear, heval]
  · rw [he, if_neg hclear, heval]

/-- A pending stop ends at the completion: the copy formed is evaluated, and then dropped with every held record
(R72, R99). -/
theorem completes_stops {cur : Cursor} (a : Bool) (hrole : v.role = .cutter) (hv : v.copyless)
    (hcursor : v.sq.cursor = some cur) (hnext : cur.k + 1 < cur.copies)
    (hin : ({ cur with k := cur.k + 1 } : Cursor).copy.window.all v.cfg.params.inBed = true)
    (hmode : v.sp.mode = .run) (hstop : v.rc.stopPending = true) :
    v.rests (v.completes a) ∧ (v.completes a).rc.release = .idle ∧ (v.completes a).rc.stopPending = false
      ∧ (v.completes a).sp.mode = .ready
      ∧ (v.completes a).rc.lastNonclear
        = (if (evaluateAll { v with rc := { v.rc with
              release := .waiting, head := some ({ cur with k := cur.k + 1 } : Cursor).copy } }).env.station = .clear
            then v.rc.lastNonclear else some v.time)
      ∧ (v.completes a).sq.held = [] ∧ (v.completes a).sq.cursor = none
      ∧ (v.completes a).sq.consumed = v.sq.consumed ∧ (v.completes a).sq.accepted = v.sq.accepted
      ∧ (v.completes a).sq.discarded = v.sq.discarded + BitVec.ofNat 32 v.sq.held.length := by
  let next : Copy := ({ cur with k := cur.k + 1 } : Cursor).copy
  let w : State := { v.advanced cur with rc := { v.rc with head := some next, release := .waiting } }
  have hrest : { v.advanced cur with rc := (v.advanced cur).rc.rest } = w := by
    simp [Rc.rest, State.advanced, w, next]
  have hlast := windowChanged_lastNonclear (w := w) a hrole nofun
  have hobs := rest_observes (w := v.advanced cur) a hrole
  rw [hrest] at hobs
  have hanswer : v.completes a = settle (endStop (windowChanged (announce a w))) := by
    rw [completes_advances a hcursor hnext hin, ← hrest]
    rfl
  obtain ⟨flc, pt, env, live, last, timer, hx⟩ := hobs
  rw [hx] at hlast
  obtain ⟨flc', pt', env', sp, armed, live', hends, hready, hfront⟩ := endStop_leavesRun (s := { w with
    flc := flc
    pt := pt
    env := env
    rc := { w.rc with live := live, lastNonclear := last, resumeTimer := timer } }) hrole hmode (.inr rfl) hstop
  rw [hanswer, hx, hends, settle_noWait (.inl rfl)]
  refine ⟨rests_of_writes hv hfront ⟨rfl, rfl, rfl, rfl, rfl, rfl⟩, rfl, rfl, hready, hlast.trans ?_, rfl, rfl, rfl,
    rfl, rfl⟩
  rw [evaluateAll_station_congr (s := { v with rc := { v.rc with release := .waiting, head := some next } }) (t := w)
    hrole rfl rfl rfl rfl]
  rfl

/-! ### The report (R87) -/

theorem stockMarked_found {serial n : Nat} {r : StockRecord} (hmarks : c.marks = some serial)
    (hfind : s.st.find ⟨s.cfg.params.station, serial⟩ = some n) (hr : entryAt s.st.records n = some r) :
    s.stockMarked c = { s.st with
      records := s.st.records.set n (some { r with piece := { r.piece with marked := true } }) } := by
  simp only [State.stockMarked, hmarks]
  exact setMarked_found hfind hr

theorem stockMarked_absent (h : ∀ n r, ¬ ∃ serial, c.marks = some serial
      ∧ s.st.find ⟨s.cfg.params.station, serial⟩ = some n ∧ entryAt s.st.records n = some r) :
    s.stockMarked c = s.st := by
  cases hmarks : c.marks with
  | none => simp only [State.stockMarked, hmarks]
  | some serial =>
    simp only [State.stockMarked, hmarks]
    exact setMarked_absent fun n r hfind hr => h n r ⟨serial, hmarks, hfind, hr⟩

theorem exec_segmentDone_takes {f : WriteFrame} {seq : Seq} {k ms : Nat} (htakes : s.takes f)
    (hrole : s.role = .cutter) (hdone : s.doneCopy seq k = some c) :
    exec (.segmentDone f seq k ms) s
      = .next (s.replied .segmentDone .ok .none (settle (completeCurrent c ms s.begun))) := by
  refine congrArg Host.Outcome.next (cutterRequest_takes htakes hrole ?_)
  simp only [takeDoneReport, show s.begun.doneCopy seq k = some c from hdone]
  rfl

theorem isNest_eq_false {content : SegContent} (h : content.kind ∈ [CopyKind.cut, .travel, .mark]) :
    content.isNest = false := by
  revert h
  cases content <;> simp [SegContent.kind, SegContent.isNest]

end

/-- Settles O35: the end of the copy is one state, `copyEnded`; what the queue and the release controller make of it
depends on the copies that remain, on the stop and on the flush. -/
theorem doneReportCompletesTheCopy : Obligations.DoneReportCompletesTheCopy := by
  intro s f seq k ms c htakes hrole hdone arcMs target stocked ended rested waits
  obtain ⟨sp, hsettles, hmode, hfront, hlength⟩ := completeCurrent_writes c ms s.begun
  let v : State := s.begun.copyEnded c ms sp
  have hv : v.copyless := ⟨rfl, rfl, rfl, rfl⟩
  have hended {u : State} (hu : settle (completeCurrent c ms s.begun) = u) (h : v.carries u) :
      ended (s.replied .segmentDone .ok .none u) := by
    obtain ⟨⟨hbuffer, hst, hsu, hmu, hcfg⟩, harc⟩ := h
    refine ⟨hu ▸ exec_segmentDone_takes htakes hrole hdone, harc, ⟨fun n r htarget => ?_, fun hnone => ?_⟩,
      congrArg (· ++ _) (hbuffer.trans (buffer_of_front (p := s.begun.sp) hfront)), hsu, hmu, hcfg⟩
    · obtain ⟨serial, hmarks, hfind, hr⟩ := htarget
      exact hst.trans (stockMarked_found (s := s.begun) hmarks hfind hr)
    · exact hst.trans (stockMarked_absent (s := s.begun) hnone)
  have hrested {u : State} (hu : settle (completeCurrent c ms s.begun) = u) (h : v.rests u) :
      rested (s.replied .segmentDone .ok .none u) := by
    obtain ⟨hcarries, hrest⟩ := h
    exact ⟨hended hu hcarries, hrest⟩
  refine ⟨fun cur hflushed hcursor hhead => ?_, fun hflushed hstop => ?_⟩
  · have hu : settle (completeCurrent c ms s.begun) = v.completes s.lu.arcPermit :=
      hsettles.trans (if_neg (by simp [hflushed]))
    refine ⟨fun hlast r hheld => ?_, ?_⟩
    · obtain ⟨hrests, hidle, hends⟩ := completes_last (v := v) s.lu.arcPermit hrole hv hcursor hlast hheld hhead
      obtain ⟨hempty, hnone, hconsumed, hdiscarded, haccepted, hstop, hm⟩ := hends
      exact ⟨_, hrested hu hrests, hidle, hempty, hnone, hconsumed, hdiscarded, haccepted, hstop,
        hm.trans (congrArg (fun m => if s.rc.stopPending then Mode.ready else m) hmode)⟩
    · intro hnext next
      refine ⟨fun hkind hin => ?_, fun w r hw hout hheld hstop => ?_⟩
      · have hinside : next.window.all s.cfg.params.inBed = true := Option.all_eq_true _ _ |>.2 hin
        refine ⟨fun hstop => ?_, ?_⟩
        · have hnest : next.content.isNest = false := isNest_eq_false (by rcases hkind with h | h <;> simp [next, h])
          obtain ⟨hcarries, hoffers, hsq, hm⟩ :=
            rest_offers (v := v.advanced cur) s.lu.arcPermit hrole rfl hnest hstop
          exact ⟨_, hended (hu.trans (completes_advances _ hcursor hnext hinside)) hcarries, hoffers, hsq,
            hm.trans hmode⟩
        · intro hstop hrun seen
          obtain ⟨hrests, hidle, hfree, hready, hlast, hends⟩ := completes_stops (v := v) s.lu.arcPermit hrole hv
            hcursor hnext hinside (hmode.trans hrun) hstop
          have hseen : (evaluateAll { v with rc := { v.rc with release := .waiting, head := some next } }).env.station
              = seen.env.station :=
            evaluateAll_station_congr (s := { s with rc := { s.rc with
              release := .waiting, head := some next, current := none } }) hrole rfl rfl rfl rfl
          exact ⟨_, hrested hu hrests, hidle, hfree, hready, hlast.trans (congrArg
            (fun result => if result = Intrusion.clear then s.rc.lastNonclear else some s.time) hseen), hends⟩
      · have houtside : next.window.all s.cfg.params.inBed = false := by
          rw [hw]
          exact hout
        obtain ⟨hrests, hfaulted, hfault, hnotice, hempty, hnone, hconsumed, hdiscarded, haccepted, hm⟩ :=
          completes_overrun (v := v) s.lu.arcPermit hrole hv hcursor hnext houtside hheld hhead hstop
        refine ⟨_, hrested hu hrests, hfaulted, hfault, fun hroom => hnotice ?_, hempty, hnone, hconsumed, hdiscarded,
          haccepted, hm.trans hmode⟩
        exact Nat.lt_of_le_of_lt hlength (Nat.succ_lt_succ hroom)
  · have hu : settle (completeCurrent c ms s.begun) = settle (afterCompletion none s.lu.arcPermit v) :=
      hsettles.trans (if_pos hflushed)
    refine ⟨fun hhead => ?_, fun next hhead hkind => ?_⟩
    · obtain ⟨hrests, hidle, hsq, hm⟩ := rest_idle (v := v) s.lu.arcPermit hrole hv hhead hstop
      exact ⟨_, hrested hu hrests, hidle, hsq, hm.trans hmode⟩
    · obtain ⟨hcarries, hoffers, hsq, hm⟩ :=
        rest_offers (v := v) s.lu.arcPermit hrole hhead (isNest_eq_false hkind) hstop
      exact ⟨_, hended hu hcarries, hoffers, hsq, hm.trans hmode⟩

end Sys2Proof.Machine
end

section
/-! PROOF. What breaks, announcements, changes of mode, faults and releases do to ARC_PERMIT, a pending stop, the live
window and the table of the release states (R78, R99 to R101). -/

namespace Sys2Proof.Machine

/-! ### A result handed on (R83, R89, R90) -/

/-- `t` is `s` after a look at the hall: nothing moved, or the copy in flight has been broken. -/
def State.looks (s t : State) : Prop :=
  s.observes t ∨ ∃ c cause, s.rc.release = .inFlight ∧ s.rc.current = some c ∧ (s.brokenBy c cause).observes t

section
variable {s t u : State}

theorem looks_of_observes (h : s.observes t) (hl : t.looks u) : s.looks u := by
  rcases hl with hu | ⟨c, cause, hrel, hcur, hu⟩
  · exact .inl (observes_trans h hu)
  · obtain ⟨-, hr, -, hc⟩ := observes_keeps h
    exact .inr ⟨c, cause, hr.symm.trans hrel, hc.symm.trans hcur, observes_trans (brokenBy_observes h c cause) hu⟩

theorem evaluateOne_observes (n : Nat) (s : State) : s.observes (evaluateOne n s) := by
  unfold evaluateOne
  split
  · exact ⟨s.flc, _, _, s.rc.live, s.rc.lastNonclear, s.rc.resumeTimer, rfl⟩
  · exact observes_refl s

theorem handOn_looks (s : State) : s.looks (handOn s) := by
  have hnoted := noteResult_observes s
  refine looks_of_observes hnoted ?_
  simp only [handOn]
  cases hbreaks : (noteResult s).resultBreaks with
  | none => exact .inl (observes_refl _)
  | some cause =>
    unfold State.resultBreaks at hbreaks
    split at hbreaks
    · rename_i c hrel hcur
      exact .inr ⟨c, cause, hrel, hcur, breakCopy_observes hcur cause⟩
    · cases hbreaks

theorem windowChanged_looks (s : State) : s.looks (windowChanged s) := by
  unfold windowChanged
  split
  · exact looks_of_observes (evaluateAll_observes s) (handOn_looks _)
  · exact .inl (observes_refl s)

/-- What a look at the hall leaves as it stands. -/
theorem looks_keeps (h : s.looks t) :
    t.cfg = s.cfg ∧ t.sp.mode = s.sp.mode ∧ t.rc.stopPending = s.rc.stopPending ∧ t.rc.head = s.rc.head ∧ t.mu = s.mu
      ∧ t.sq = s.sq ∧ t.lu.estop = s.lu.estop := by
  rcases h with ⟨_, _, _, _, _, _, rfl⟩ | ⟨c, cause, -, -, _, _, _, _, _, _, rfl⟩
  · exact ⟨rfl, rfl, rfl, rfl, rfl, rfl, rfl⟩
  · exact ⟨rfl, by simp [State.brokenBy], rfl, rfl, rfl, rfl, rfl⟩

theorem looks_dark (h : s.looks t) (hdark : s.lu.arcPermit = false) : t.lu.arcPermit = false := by
  rcases h with ⟨_, _, _, _, _, _, rfl⟩ | ⟨c, cause, -, -, _, _, _, _, _, _, rfl⟩
  · exact hdark
  · rfl

/-! ### The table of the release states (R78) -/

/-- A broken copy is current, with ARC_PERMIT withdrawn (R78). -/
theorem brokenBy_table {c : Current} {cause : BreakCause} (hrel : s.rc.release = .inFlight) (h : s.releaseTable) :
    (s.brokenBy c cause).releaseTable := by
  obtain ⟨-, -, hother⟩ := h
  refine ⟨by simp [State.brokenBy, State.burning], rfl, fun hn => ?_⟩
  cases hrel.symm.trans (hother hn)

theorem looks_table (h : s.looks t) (htable : s.releaseTable) : t.releaseTable := by
  rcases h with ⟨_, _, _, _, _, _, rfl⟩ | ⟨c, cause, hrel, -, _, _, _, _, _, _, rfl⟩
  · exact htable
  · exact brokenBy_table (c := c) (cause := cause) hrel htable

theorem announce_table (a : Bool) (h : s.releaseTable) : (announce a s).releaseTable :=
  looks_table (.inl (announce_observes a s)) h

/-- A state with no copy current and ARC_PERMIT withdrawn meets the table at rest or in FAULTED (R78, R79). -/
theorem table_of_rest (hdark : s.lu.arcPermit = false) (hcur : s.rc.current = none)
    (hrel : s.rc.release = if s.rc.head.isSome then .waiting else .idle)
    (hother : s.isLoaded = false ∨ s.role ≠ .cutter → s.rc.head = none) : s.releaseTable := by
  refine ⟨by simp [State.burning, hdark, hcur], ?_, fun hn => by simp [hrel, hother hn]⟩
  cases hhead : s.rc.head <;> simp [hrel, hhead, hcur]

/-- The release controller drops its head copy (R72). -/
def Rc.dropped (r : Rc) : Rc :=
  { r with
    head := none
    release := if r.release = .waiting then .idle else r.release
    fault := r.fault.map (fun f => { f with recordAtHead := false }) }

theorem dropped_table (sp : Port) (sq : SegQueue) (h : s.releaseTable) :
    { s with sp := sp, sq := sq, rc := s.rc.dropped }.releaseTable := by
  obtain ⟨hpermit, hrow, hother⟩ := h
  refine ⟨?_, ?_, fun hn => ?_⟩
  · cases hrel : s.rc.release <;> simpa [State.burning, Rc.dropped, hrel] using hpermit
  · cases hrel : s.rc.release <;> simp_all [Rc.dropped]
  · simp [Rc.dropped, hother hn]

/-- Leaving RUN empties the queue and drops the head copy, and then the part looks at the hall (R72, R79). -/
theorem queueLeavesRun_looks (s : State) :
    ∃ sp armed, { s with sp := sp, sq := s.sq.emptied armed, rc := s.rc.dropped }.looks (queueLeavesRun s)
      ∧ sp.mode = s.sp.mode := by
  obtain ⟨sp, armed, hdiscard, hmode, -⟩ := discardAll_writes s
  refine ⟨sp, armed, ?_, hmode⟩
  have hleaves : queueLeavesRun s = if s.rc.head.isSome
      then windowChanged { s with sp := sp, sq := s.sq.emptied armed, rc := s.rc.dropped }
      else { s with sp := sp, sq := s.sq.emptied armed, rc := s.rc.dropped } := by
    simp only [queueLeavesRun, hdiscard]
    rfl
  rw [hleaves]
  split
  · exact windowChanged_looks _
  · exact .inl (observes_refl _)

/-! ### What the invariants read -/

/-- What ARC_PERMIT, the table of the release states, a pending stop and the live window turn on. -/
structure Standing where
  cfg     : Cfg
  mode    : Mode
  leave   : Bool
  estop   : Bool
  permit  : Bool
  station : Intrusion
  release : Release
  faulted : Bool
  head    : Option Copy
  current : Option Copy
  stop    : Bool
  live    : LiveWindow
  held    : List SegRecord
  cursor  : Option Cursor

def State.standing (s : State) : Standing where
  cfg := s.cfg
  mode := s.sp.mode
  leave := s.mu.leavePending
  estop := s.lu.estop
  permit := s.lu.arcPermit
  station := s.env.station
  release := s.rc.release
  faulted := s.rc.fault.isSome
  head := s.rc.head
  current := s.rc.current.map (fun c => c.copy)
  stop := s.rc.stopPending
  live := s.rc.live
  held := s.sq.held
  cursor := s.sq.cursor

/-- The live window announced is the one of the copies as they stand (R100). -/
def State.announced (s : State) : Prop := s.rc.live = s.formLive

theorem burning_congr (h : t.standing = s.standing) : t.burning = s.burning := by
  have hburn (u : State) :
      u.burning = (decide (u.standing.release = .inFlight) && u.standing.current.any (fun c => c.content.isArc)) := by
    rw [State.burning, State.standing, Option.any_map]
  rw [hburn, hburn, h]

theorem permitSafe_congr (h : t.standing = s.standing) (hs : s.permitSafe) : t.permitSafe := by
  have hb := burning_congr h
  simp only [State.standing, Standing.mk.injEq] at h
  simp_all [State.permitSafe, State.role, State.isLoaded]

theorem releaseTable_congr (h : t.standing = s.standing) (hs : s.releaseTable) : t.releaseTable := by
  have hb := burning_congr h
  simp only [State.standing, Standing.mk.injEq] at h
  have hnone : t.rc.current = none ↔ s.rc.current = none := by
    rw [← Option.map_eq_none_iff (f := fun c : Current => c.copy), ← Option.map_eq_none_iff (x := s.rc.current)
      (f := fun c : Current => c.copy)]
    simp_all
  have hsome : t.rc.current.isSome = s.rc.current.isSome := by
    rw [← Option.isSome_map (f := fun c : Current => c.copy), ← Option.isSome_map (x := s.rc.current)
      (f := fun c : Current => c.copy)]
    simp_all
  simp_all [State.releaseTable, State.role, State.isLoaded]

theorem stopSound_congr (h : t.standing = s.standing) (hs : s.stopSound) : t.stopSound := by
  simp only [State.standing, Standing.mk.injEq] at h
  simp_all [State.stopSound, State.role, State.isLoaded]

theorem formLive_congr (h : t.standing = s.standing) : t.formLive = s.formLive := by
  simp only [State.standing, Standing.mk.injEq] at h
  obtain ⟨hcfg, hmode, -, -, -, -, -, -, hhead, hcur, -, -, hheld, hcursor⟩ := h
  have hnext (p : Params) : t.sq.nextCopy p = s.sq.nextCopy p := by simp only [SegQueue.nextCopy, hheld, hcursor]
  have hlive : t.liveNext = s.liveNext := by
    unfold State.liveNext
    rw [hcfg, hhead, hnext]
    cases s.rc.head <;> cases hs : s.rc.current <;> cases ht : t.rc.current <;> simp_all
  have hwindow (p : Params) : t.rc.current.bind (fun c => c.copy.hallWindow p)
      = s.rc.current.bind (fun c => c.copy.hallWindow p) := by
    have hbind (u : State) : u.rc.current.bind (fun c => c.copy.hallWindow p)
        = (u.rc.current.map (fun c => c.copy)).bind (fun c => c.hallWindow p) := by rw [Option.bind_map]; rfl
    rw [hbind, hbind, hcur]
  rw [State.formLive, State.formLive, hlive, hwindow, hcfg, hmode]

theorem liveSound_congr (h : t.standing = s.standing) (hs : s.liveSound) : t.liveSound := by
  have hform := formLive_congr h
  simp only [State.standing, Standing.mk.injEq] at h
  simp_all [State.liveSound, State.role, State.isLoaded]

/-! ### What announces the live window (R100) -/

theorem announce_announced (a : Bool) (s : State) : (announce a s).announced := by
  obtain ⟨flc, he⟩ := announce_writes a s
  rw [he]
  rfl

theorem evaluateAll_announced (h : s.announced) : (evaluateAll s).announced := by
  obtain ⟨pt, env, he⟩ := evaluateAll_writes s
  rw [he]
  exact h

theorem noteResult_announced (h : s.announced) : (noteResult s).announced := by
  rcases noteResult_cases s with ⟨-, he⟩ | ⟨-, he⟩ <;> rw [he] <;> exact h

theorem breakCopy_announced (cause : BreakCause) (h : s.announced) : (breakCopy cause s).announced := by
  cases hcur : s.rc.current with
  | none =>
    have he : breakCopy cause s = s := by simp only [breakCopy, hcur]
    rw [he]
    exact h
  | some c =>
    rw [breakCopy_eq hcur]
    exact noteResult_announced (evaluateAll_announced (announce_announced ..))

theorem handOn_announced (h : s.announced) : (handOn s).announced := by
  simp only [handOn]
  split
  · exact breakCopy_announced _ (noteResult_announced h)
  · exact noteResult_announced h

theorem windowChanged_announced (h : s.announced) : (windowChanged s).announced := by
  unfold windowChanged
  split
  · exact handOn_announced (evaluateAll_announced h)
  · exact h

/-! ### A change of station mode (R72, R171) -/

@[simp] theorem driveLines_arcPermit (s : State) : (driveLines s).lu.arcPermit = s.lu.arcPermit := by
  unfold driveLines
  split
  · split
    · simp
    · split <;> simp
  · rfl

@[simp] theorem driveLines_leavePending (s : State) : (driveLines s).mu.leavePending = s.mu.leavePending := by
  unfold driveLines
  split
  · split
    · rfl
    · split <;> rfl
  · rfl

/-- A change of mode writes the mode; in a cutter the queue then leaves RUN and the live window is announced. -/
theorem changeMode_enters (m : Mode) (s : State) : ∃ u, u.standing = { s.standing with mode := m }
    ∧ changeMode m s
      = if s.role = .cutter then announce false (if s.sp.mode = .run then queueLeavesRun u else u) else u := by
  refine ⟨driveLines (if s.sp.mode = .offline
    then callUrgent (raise (.modeChanged s.sp.mode m) { s with sp := { s.sp with mode := m } })
    else raise (.modeChanged s.sp.mode m) { s with sp := { s.sp with mode := m } }), ?_, ?_⟩
  · split <;> simp [State.standing]
  · have hrole (u : State) (h : u.cfg = s.cfg) : u.role = s.role := by rw [State.role, State.role, h]
    simp only [changeMode]
    rw [hrole]
    split <;> simp

theorem role_of_cfg (h : t.cfg = s.cfg) : t.role = s.role := by rw [State.role, State.role, h]

theorem isLoaded_of_cfg (h : t.cfg = s.cfg) : t.isLoaded = s.isLoaded := by rw [State.isLoaded, State.isLoaded, h]

/-- The release controller of a loaded cutter need not be IDLE (R78). -/
theorem not_idled (hload : s.isLoaded = true) (hrole : s.role = .cutter) :
    ¬ (s.isLoaded = false ∨ s.role ≠ .cutter) := by simp [hload, hrole]

theorem queueLeavesRun_dark (h : s.lu.arcPermit = false) : (queueLeavesRun s).lu.arcPermit = false := by
  obtain ⟨sp, armed, hlooks, -⟩ := queueLeavesRun_looks s
  exact looks_dark hlooks h

theorem changeMode_dark (m : Mode) (h : s.lu.arcPermit = false) : (changeMode m s).lu.arcPermit = false := by
  obtain ⟨u, hu, he⟩ := changeMode_enters m s
  have hdark : u.lu.arcPermit = false := (congrArg Standing.permit hu).trans h
  rw [he]
  split
  · split
    · simpa using queueLeavesRun_dark hdark
    · simpa using hdark
  · exact hdark

theorem queueLeavesRun_table (h : s.releaseTable) : (queueLeavesRun s).releaseTable := by
  obtain ⟨sp, armed, hlooks, -⟩ := queueLeavesRun_looks s
  exact looks_table hlooks (dropped_table sp _ h)

theorem changeMode_table (m : Mode) (h : s.releaseTable) : (changeMode m s).releaseTable := by
  obtain ⟨u, hu, he⟩ := changeMode_enters m s
  have htable : u.releaseTable := releaseTable_congr (s := { s with sp := { s.sp with mode := m } }) hu h
  rw [he]
  split
  · refine announce_table _ ?_
    split
    · exact queueLeavesRun_table htable
    · exact htable
  · exact htable

theorem queueLeavesRun_stop (s : State) : (queueLeavesRun s).rc.stopPending = s.rc.stopPending := by
  obtain ⟨sp, armed, hlooks, -⟩ := queueLeavesRun_looks s
  obtain ⟨-, -, hstop, -⟩ := looks_keeps hlooks
  exact hstop

theorem changeMode_stop (m : Mode) (s : State) : (changeMode m s).rc.stopPending = s.rc.stopPending := by
  obtain ⟨u, hu, he⟩ := changeMode_enters m s
  have hstop : u.rc.stopPending = s.rc.stopPending := congrArg Standing.stop hu
  rw [he]
  split
  · rw [announce_rc]
    split
    · exact (queueLeavesRun_stop u).trans hstop
    · exact hstop
  · exact hstop

theorem changeMode_announced (m : Mode) (hrole : s.role = .cutter) : (changeMode m s).announced := by
  obtain ⟨u, -, he⟩ := changeMode_enters m s
  rw [he, if_pos hrole]
  exact announce_announced ..

/-! ### The end of a pending stop (R99) -/

theorem endStop_dark (h : s.lu.arcPermit = false) : (endStop s).lu.arcPermit = false := by
  unfold endStop
  split
  · exact changeMode_dark _ h
  · exact h

theorem endStop_table (h : s.releaseTable) : (endStop s).releaseTable := by
  unfold endStop
  split
  · exact changeMode_table (s := { s with rc := { s.rc with stopPending := false } }) _ h
  · exact h

theorem endStop_stop (s : State) : (endStop s).rc.stopPending = false := by
  unfold endStop
  split
  · exact changeMode_stop ..
  · rename_i hstop
    simpa using hstop

theorem endStop_announced (hrole : s.role = .cutter) (h : s.announced) : (endStop s).announced := by
  unfold endStop
  split
  · exact changeMode_announced (s := { s with rc := { s.rc with stopPending := false } }) _ hrole
  · exact h

theorem closed_dark (a : Bool) (h : s.lu.arcPermit = false) :
    (endStop (windowChanged (announce a s))).lu.arcPermit = false :=
  endStop_dark (looks_dark (windowChanged_looks _) (by simpa using h))

theorem closed_table (a : Bool) (h : s.releaseTable) : (endStop (windowChanged (announce a s))).releaseTable :=
  endStop_table (looks_table (windowChanged_looks _) (announce_table a h))

theorem closed_announced (a : Bool) (hrole : s.role = .cutter) :
    (endStop (windowChanged (announce a s))).announced :=
  endStop_announced (by rw [role_of_cfg (s := s) (by simp), hrole]) (windowChanged_announced (announce_announced ..))

/-! ### Faults and completions (R79, R87, R92) -/

/-- A fault as it is written, before the part looks at the hall (R92). -/
def State.faulting (s : State) (f : ReleaseFault) : State :=
  { s with
    lu := { s.lu with arcPermit := false }
    rc := s.rc.faultedBy f
    sp := (raise (.releaseFaulted f.reason f.seq f.k f.flushed) s).sp }

theorem enterFaulted_eq (f : ReleaseFault) (a : Bool) (s : State) :
    enterFaulted f a s = endStop (windowChanged (announce a (s.faulting f))) := by
  have hwritten : raise (.releaseFaulted f.reason f.seq f.k f.flushed)
      { s with lu := { s.lu with arcPermit := false }, rc := s.rc.faultedBy f } = s.faulting f := raise_eq_of rfl rfl
  rw [← hwritten]
  rfl

theorem enterFaulted_dark (f : ReleaseFault) (a : Bool) (s : State) : (enterFaulted f a s).lu.arcPermit = false := by
  rw [enterFaulted_eq]
  exact closed_dark a rfl

theorem enterFaulted_stop (f : ReleaseFault) (a : Bool) (s : State) : (enterFaulted f a s).rc.stopPending = false :=
  endStop_stop _

theorem enterFaulted_announced (f : ReleaseFault) (a : Bool) (hrole : s.role = .cutter) :
    (enterFaulted f a s).announced := by
  rw [enterFaulted_eq]
  exact closed_announced a hrole

theorem enterFaulted_table (f : ReleaseFault) (a : Bool) (hload : s.isLoaded = true) (hrole : s.role = .cutter) :
    (enterFaulted f a s).releaseTable := by
  rw [enterFaulted_eq]
  have hwritten : (s.faulting f).releaseTable :=
    ⟨by simp [State.faulting, State.burning, Rc.faultedBy], ⟨rfl, rfl⟩, fun hn => absurd hn (not_idled hload hrole)⟩
  exact closed_table a hwritten

theorem afterCompletion_dark (overrun : Option (Seq × Nat)) (a : Bool) (h : s.lu.arcPermit = false) :
    (afterCompletion overrun a s).lu.arcPermit = false := by
  cases overrun with
  | some o => exact enterFaulted_dark ..
  | none => exact closed_dark a h

theorem afterCompletion_stop (overrun : Option (Seq × Nat)) (a : Bool) (s : State) :
    (afterCompletion overrun a s).rc.stopPending = false := by
  cases overrun with
  | some o => exact enterFaulted_stop ..
  | none => exact endStop_stop _

theorem afterCompletion_announced (overrun : Option (Seq × Nat)) (a : Bool) (hrole : s.role = .cutter) :
    (afterCompletion overrun a s).announced := by
  cases overrun with
  | some o => exact enterFaulted_announced _ a hrole
  | none => exact closed_announced (s := { s with rc := s.rc.rest }) a hrole

theorem afterCompletion_table (overrun : Option (Seq × Nat)) (a : Bool) (hload : s.isLoaded = true)
    (hrole : s.role = .cutter) (hdark : s.lu.arcPermit = false) (hcur : s.rc.current = none) :
    (afterCompletion overrun a s).releaseTable := by
  cases overrun with
  | some o => exact enterFaulted_table _ a hload hrole
  | none =>
    refine closed_table a (s := { s with rc := s.rc.rest }) (table_of_rest hdark hcur rfl ?_)
    exact fun hn => absurd hn (not_idled hload hrole)

end

end Sys2Proof.Machine
end

section
/-! PROOF. The judgement of the waiting copy keeps ARC_PERMIT safe, the table of the release states, a pending stop and
the live window (R78, R83 to R87, R99 to R101). -/

namespace Sys2Proof.Machine

section
variable {s t u : State}

/-! ### ARC_PERMIT (R101) -/

/-- R101 but for the last evaluation, which is acted on as soon as it is handed on. -/
def State.permitHeld (s : State) : Prop :=
  s.lu.arcPermit = true →
    s.role = .cutter ∧ s.isLoaded = true ∧ s.sp.mode = .run ∧ s.lu.estop = false ∧ s.burning = true

theorem permitHeld_of_safe (h : s.permitSafe) : s.permitHeld := fun hon => by
  obtain ⟨hrole, hload, hmode, hestop, hburn, -⟩ := h hon
  exact ⟨hrole, hload, hmode, hestop, hburn⟩

theorem permitSafe_of_dark (h : s.lu.arcPermit = false) : s.permitSafe := fun hon => by
  cases h.symm.trans hon

theorem dark_of_safe (h : s.permitSafe) (hrel : s.rc.release ≠ .inFlight) : s.lu.arcPermit = false := by
  cases hon : s.lu.arcPermit with
  | false => rfl
  | true =>
    obtain ⟨-, -, -, -, hburn, -⟩ := h hon
    simp [State.burning, hrel] at hburn

theorem dark_of_table (h : s.releaseTable) (hrel : s.rc.release ≠ .inFlight) : s.lu.arcPermit = false := by
  obtain ⟨hpermit, -⟩ := h
  cases hon : s.lu.arcPermit with
  | false => rfl
  | true => simpa [State.burning, hrel] using hpermit.1 hon

theorem permitHeld_observes (h : s.observes t) (hs : s.permitHeld) : t.permitHeld := by
  obtain ⟨_, _, _, _, _, _, rfl⟩ := h
  exact hs

/-- A result that is handed on leaves ARC_PERMIT only where it is not CUTOFF, which breaks an arc copy in flight (R89). -/
theorem handOn_permitSafe (h : s.permitHeld) : (handOn s).permitSafe := by
  have hheld := permitHeld_observes (noteResult_observes s) h
  simp only [handOn]
  cases hbreaks : (noteResult s).resultBreaks with
  | none =>
    intro hon
    obtain ⟨hrole, hload, hmode, hestop, hburn⟩ := hheld hon
    refine ⟨hrole, hload, hmode, hestop, hburn, fun hcut => ?_⟩
    simp only [State.burning, Bool.and_eq_true, decide_eq_true_eq, Option.any_eq_true] at hburn
    obtain ⟨hrel, c, hcur, harc⟩ := hburn
    have hbreak := (resultBreaks_eq_some hrel hcur harc .cutoff).2 (.inl ⟨hcut, rfl⟩)
    cases hbreaks.symm.trans hbreak
  | some cause =>
    refine permitSafe_of_dark ?_
    unfold State.resultBreaks at hbreaks
    split at hbreaks
    · rename_i c _ hcur
      exact looks_dark (.inl (breakCopy_observes hcur cause)) rfl
    · cases hbreaks

theorem windowChanged_permitSafe (hrole : s.role = .cutter) (h : s.permitHeld) : (windowChanged s).permitSafe := by
  rw [windowChanged, if_pos hrole]
  exact handOn_permitSafe (permitHeld_observes (evaluateAll_observes s) h)

/-! ### A copy is released (R85, R86) -/

/-- The part as a release writes it, before the live window is announced and the copy's window evaluated (R85, R86). -/
def State.releasing (s : State) (c : Copy) (again : Bool) (legend : Option Legend) : State :=
  let pierces := s.rc.pierces + (if c.content.pierceBearing again then 1 else 0)
  let gone := raise (goNotice c again legend) s
  { s with
    lu := { s.lu with arcPermit := c.content.isArc }
    rc := { s.rc with
      release := .inFlight
      head := if again then s.rc.head else none
      current := some (releasedCopy s.rc.current c again legend)
      pierces := pierces
      flightTimer := s.timer (flightTime s.cfg.params c.content again) }
    sp := (if c.content.pierceBearing again ∧ pierces = s.cfg.params.pierceLimit
      then raise (.wearLimit .pierce) gone else gone).sp }

theorem startCopy_eq (c : Copy) (again : Bool) (legend : Option Legend) (s : State) :
    startCopy c again legend s = windowChanged (announce c.content.isArc (s.releasing c again legend)) := by
  let written : State := { s with
    lu := { s.lu with arcPermit := c.content.isArc }
    rc := { s.rc with
      release := .inFlight
      head := if again then s.rc.head else none
      current := some (releasedCopy s.rc.current c again legend)
      pierces := s.rc.pierces + (if c.content.pierceBearing again then 1 else 0)
      flightTimer := s.timer (flightTime s.cfg.params c.content again) } }
  have hgo : raise (goNotice c again legend) written
      = { written with sp := (raise (goNotice c again legend) s).sp } := raise_eq_of rfl rfl
  have hlimit : raise (.wearLimit .pierce) { written with sp := (raise (goNotice c again legend) s).sp }
      = { written with sp := (raise (.wearLimit .pierce) (raise (goNotice c again legend) s)).sp } :=
    raise_eq_of rfl (by simp [written])
  have hstarts : startCopy c again legend s = windowChanged (announce c.content.isArc
      (if c.content.pierceBearing again ∧ written.rc.pierces
          = (raise (goNotice c again legend) written).cfg.params.pierceLimit
        then raise (.wearLimit .pierce) (raise (goNotice c again legend) written)
        else raise (goNotice c again legend) written)) := rfl
  rw [hstarts, hgo, hlimit]
  refine congrArg (fun y => windowChanged (announce c.content.isArc y)) ?_
  by_cases hp : c.content.pierceBearing again ∧ written.rc.pierces = s.cfg.params.pierceLimit
  · simp only [State.releasing, written] at hp ⊢
    rw [if_pos hp, if_pos hp]
  · simp only [State.releasing, written] at hp ⊢
    rw [if_neg hp, if_neg hp]

theorem releasing_mode (c : Copy) (again : Bool) (legend : Option Legend) (s : State) :
    (s.releasing c again legend).sp.mode = s.sp.mode := by
  rcases em (c.content.pierceBearing again = true ∧ s.rc.pierces + (if c.content.pierceBearing again then 1 else 0)
    = s.cfg.params.pierceLimit) with h | h
  · simp only [State.releasing, if_pos h, raise_frame]
  · simp only [State.releasing, if_neg h, raise_frame]

theorem mayRelease_run {c : SegContent} {again : Bool} (h : s.mayRelease c again = true) :
    s.sp.mode = .run ∧ s.rc.stopPending = false ∧ s.lu.estop = false := by
  simp only [State.mayRelease, Bool.and_eq_true, decide_eq_true_eq, Bool.not_eq_true'] at h
  obtain ⟨⟨⟨hmode, hstop⟩, hestop⟩, -⟩ := h
  exact ⟨hmode, hstop, hestop⟩

section
variable {c : Copy} {again : Bool} {legend : Option Legend}

theorem startCopy_permitSafe (hload : s.isLoaded = true) (hrole : s.role = .cutter)
    (hmay : s.mayRelease c.content again = true) : (startCopy c again legend s).permitSafe := by
  obtain ⟨hmode, -, hestop⟩ := mayRelease_run hmay
  rw [startCopy_eq]
  refine windowChanged_permitSafe (by rw [role_of_cfg (s := s) (by simp [State.releasing]), hrole])
    (permitHeld_observes (announce_observes ..) fun hon => ?_)
  refine ⟨hrole, hload, (releasing_mode ..).trans hmode, hestop, ?_⟩
  have harc : c.content.isArc = true := hon
  simp [State.burning, State.releasing, releasedCopy, harc]

theorem startCopy_table (hload : s.isLoaded = true) (hrole : s.role = .cutter) :
    (startCopy c again legend s).releaseTable := by
  rw [startCopy_eq]
  refine looks_table (windowChanged_looks _) (announce_table _ ?_)
  exact ⟨by simp [State.burning, State.releasing, releasedCopy], rfl, fun hn => absurd hn (not_idled hload hrole)⟩

theorem startCopy_stop : (startCopy c again legend s).rc.stopPending = s.rc.stopPending := by
  rw [startCopy_eq]
  obtain ⟨-, -, hstop, -⟩ := looks_keeps (windowChanged_looks (announce c.content.isArc (s.releasing c again legend)))
  rw [hstop, announce_rc]
  rfl

theorem startCopy_announced : (startCopy c again legend s).announced := by
  rw [startCopy_eq]
  exact windowChanged_announced (announce_announced ..)

end

/-! ### Nest copies and completions (R84, R87) -/

/-- The queue forms copies for the head alone: what is current stays (R79). -/
theorem queueCompletes_current (s : State) : (queueCompletes s).1.rc.current = s.rc.current := by
  have hform (u : State) : (formHead u).rc.current = u.rc.current := by
    unfold formHead
    split
    · split <;> simp [formCopy, takeCopy]
    · rfl
  unfold queueCompletes
  split
  · rfl
  · split
    · dsimp only
      split
      · rfl
      · simp [hform]
    · simp [hform]

/-- Where a nest copy's completion leaves the part, before the queue's answer settles it (R84, R85). -/
def nestCompleted (c : Copy) (s : State) : State × Option (Seq × Nat) :=
  queueCompletes (stockEffect c.content (raise (goNotice c false none)
    { s with rc := { s.rc with head := none, release := .inFlight } }))

theorem releaseNest_eq (c : Copy) (s : State) :
    releaseNest c s = afterCompletion (nestCompleted c s).2 false (nestCompleted c s).1 := rfl

theorem nestCompleted_keeps (c : Copy) (s : State) :
    (nestCompleted c s).1.cfg = s.cfg ∧ (nestCompleted c s).1.lu = s.lu
      ∧ (nestCompleted c s).1.rc.current = s.rc.current := by
  refine ⟨by simp [nestCompleted], by simp [nestCompleted], ?_⟩
  rw [nestCompleted, queueCompletes_current]
  simp

/-- Where the end of the current copy leaves the part, before the queue's answer settles it (R87). -/
def currentCompleted (c : Current) (ms : Nat) (s : State) : State × Option (Seq × Nat) :=
  let arc := c.copy.content.isArc
  let s := { s with
    lu := { s.lu with arcPermit := false }
    rc := { s.rc with flightTimer := none, haltTimer := none } }
  let s := logMark c .done (if arc then addArc ms s else s)
  let s := { s with rc := { s.rc with current := none } }
  if c.flushed then (s, none) else queueCompletes s

theorem completeCurrent_eq (c : Current) (ms : Nat) (s : State) : completeCurrent c ms s
    = afterCompletion (currentCompleted c ms s).2 s.lu.arcPermit (currentCompleted c ms s).1 := rfl

theorem currentCompleted_keeps (c : Current) (ms : Nat) (s : State) :
    (currentCompleted c ms s).1.cfg = s.cfg ∧ (currentCompleted c ms s).1.lu.arcPermit = false
      ∧ (currentCompleted c ms s).1.rc.current = none := by
  unfold currentCompleted
  dsimp only
  split
  · refine ⟨?_, ?_, rfl⟩ <;> split <;> simp
  · refine ⟨?_, ?_, queueCompletes_current _⟩ <;> split <;> simp

/-! ### What an operation upholds -/

/-- Each of the invariants on the permission to burn that `s` meets is met by `t` too (R78, R99 to R101). -/
structure State.guards (s t : State) : Prop where
  permit : s.permitSafe → t.permitSafe
  table  : s.releaseTable → t.releaseTable
  stop   : s.stopSound → t.stopSound
  live   : s.liveSound → t.liveSound

/-- From `s`, after a good load, an operation has led to `t`. -/
structure State.upholds (s t : State) : Prop where
  of_load : s.isLoaded = true → t.cfg = s.cfg ∧ s.guards t

theorem guards_trans (h : s.guards t) (hu : t.guards u) : s.guards u :=
  ⟨fun hs => hu.permit (h.permit hs), fun hs => hu.table (h.table hs), fun hs => hu.stop (h.stop hs),
    fun hs => hu.live (h.live hs)⟩

theorem guards_of_standing (h : t.standing = s.standing) : s.guards t :=
  ⟨permitSafe_congr h, releaseTable_congr h, stopSound_congr h, liveSound_congr h⟩

theorem upholds_of_standing (h : t.standing = s.standing) : s.upholds t :=
  ⟨fun _ => ⟨congrArg Standing.cfg h, guards_of_standing h⟩⟩

theorem upholds_refl (s : State) : s.upholds s := upholds_of_standing rfl

theorem upholds_trans (h : s.upholds t) (hu : t.upholds u) : s.upholds u := by
  refine ⟨fun hload => ?_⟩
  obtain ⟨hcfg, hguards⟩ := h.of_load hload
  obtain ⟨hcfg', hguards'⟩ := hu.of_load ((isLoaded_of_cfg hcfg).trans hload)
  exact ⟨hcfg'.trans hcfg, guards_trans hguards hguards'⟩

theorem ite_upholds {p : Prop} [Decidable p] (ht : s.upholds t) (hu : s.upholds u) :
    s.upholds (if p then t else u) := by
  split <;> assumption

/-- Where no stop is pending there is nothing to ask of one (R99). -/
theorem stopSound_of_free (h : s.rc.stopPending = false) : s.stopSound := fun hstop => by
  cases h.symm.trans hstop

theorem liveSound_of_announced (hload : s.isLoaded = true) (h : s.role = .cutter → s.announced) : s.liveSound :=
  ⟨fun hn => (by cases hload.symm.trans hn), h⟩

/-- A copy that is released in a loaded cutter meets every invariant (R85, R86). -/
theorem startCopy_upholds {c : Copy} (again : Bool) (legend : Option Legend) (hrole : s.role = .cutter)
    (hmay : s.mayRelease c.content again = true) : s.upholds (startCopy c again legend s) := by
  refine ⟨fun hload => ?_⟩
  have hcfg : (startCopy c again legend s).cfg = s.cfg := by simp
  obtain ⟨-, hstop, -⟩ := mayRelease_run hmay
  exact ⟨hcfg, fun _ => startCopy_permitSafe hload hrole hmay, fun _ => startCopy_table hload hrole,
    fun _ => stopSound_of_free (startCopy_stop.trans hstop),
    fun _ => liveSound_of_announced ((isLoaded_of_cfg hcfg).trans hload) fun _ => startCopy_announced⟩

/-- A fault withdraws ARC_PERMIT, ends a pending stop and announces the live window (R92, R99). -/
theorem enterFaulted_upholds (f : ReleaseFault) (a : Bool) (hrole : s.role = .cutter) :
    s.upholds (enterFaulted f a s) := by
  refine ⟨fun hload => ?_⟩
  have hcfg : (enterFaulted f a s).cfg = s.cfg := by simp
  exact ⟨hcfg, fun _ => permitSafe_of_dark (enterFaulted_dark ..), fun _ => enterFaulted_table f a hload hrole,
    fun _ => stopSound_of_free (enterFaulted_stop ..),
    fun _ => liveSound_of_announced ((isLoaded_of_cfg hcfg).trans hload) fun _ => enterFaulted_announced f a hrole⟩

/-- A nest copy is released with no copy current, and completes (R84). -/
theorem releaseNest_upholds (c : Copy) (hrole : s.role = .cutter) (hrel : s.rc.release = .waiting) :
    s.upholds (releaseNest c s) := by
  refine ⟨fun hload => ?_⟩
  obtain ⟨hcfg, hlu, hcur⟩ := nestCompleted_keeps c s
  have hload' := (isLoaded_of_cfg hcfg).trans hload
  have hrole' := (role_of_cfg hcfg).trans hrole
  have hwaits : s.rc.release ≠ .inFlight := by simp [hrel]
  have hcfgs : (releaseNest c s).cfg = s.cfg := by simp
  have hdark (h : s.lu.arcPermit = false) : (nestCompleted c s).1.lu.arcPermit = false := by rw [hlu, h]
  refine ⟨hcfgs, fun h => ?_, fun h => ?_, fun _ => stopSound_of_free (afterCompletion_stop ..), fun _ =>
    liveSound_of_announced ((isLoaded_of_cfg hcfgs).trans hload) fun _ => afterCompletion_announced _ _ hrole'⟩
  · exact permitSafe_of_dark (afterCompletion_dark _ _ (hdark (dark_of_safe h hwaits)))
  · obtain ⟨-, hrow, -⟩ := id h
    rw [hrel] at hrow
    exact afterCompletion_table _ _ hload' hrole' (hdark (dark_of_table h hwaits)) (hcur.trans hrow.2)

/-- The current copy ends with ARC_PERMIT withdrawn (R87). -/
theorem completeCurrent_upholds (c : Current) (ms : Nat) (hrole : s.role = .cutter) :
    s.upholds (completeCurrent c ms s) := by
  refine ⟨fun hload => ?_⟩
  obtain ⟨hcfg, hdark, hcur⟩ := currentCompleted_keeps c ms s
  have hload' := (isLoaded_of_cfg hcfg).trans hload
  have hrole' := (role_of_cfg hcfg).trans hrole
  have hcfgs : (completeCurrent c ms s).cfg = s.cfg := by simp
  rw [completeCurrent_eq] at hcfgs ⊢
  exact ⟨hcfgs, fun _ => permitSafe_of_dark (afterCompletion_dark _ _ hdark),
    fun _ => afterCompletion_table _ _ hload' hrole' hdark hcur, fun _ => stopSound_of_free (afterCompletion_stop ..),
    fun _ => liveSound_of_announced ((isLoaded_of_cfg hcfgs).trans hload) fun _ => afterCompletion_announced _ _ hrole'⟩

/-! ### Judgement (R83) -/

theorem judgeOnce_upholds (s : State) : s.upholds (judgeOnce s).1 := by
  unfold judgeOnce
  split
  · rename_i hrole
    split
    · rename_i c hrel _
      split
      · rename_i hmay
        split
        · exact enterFaulted_upholds _ _ hrole
        · split
          · exact releaseNest_upholds _ hrole hrel
          · exact startCopy_upholds _ _ hrole hmay
      · exact upholds_refl s
    · split
      · rename_i hmay
        exact startCopy_upholds _ _ hrole hmay.2
      · exact upholds_refl s
    · exact upholds_refl s
  · exact upholds_refl s

theorem settleFor_upholds (n : Nat) (s : State) : s.upholds (settleFor n s) := by
  induction n generalizing s with
  | zero => exact upholds_refl s
  | succ n ih =>
    have hjudged := judgeOnce_upholds s
    unfold settleFor
    split
    · rename_i t hj
      rw [hj] at hjudged
      exact upholds_trans hjudged (ih t)
    · rename_i t hj
      rw [hj] at hjudged
      exact hjudged

theorem settle_upholds (s : State) : s.upholds (settle s) := settleFor_upholds _ s

/-! ### Looks at the hall (R14, R83, R89) -/

theorem looks_stopSound (h : s.looks t) (hs : s.stopSound) : t.stopSound := fun hstop => by
  obtain ⟨hcfg, hmode, hpending, -, hmu, -⟩ := looks_keeps h
  obtain ⟨hload, hrole, hrun, hleave, hrel⟩ := hs (hpending ▸ hstop)
  refine ⟨(isLoaded_of_cfg hcfg).trans hload, (role_of_cfg hcfg).trans hrole, hmode.trans hrun, by rw [hmu, hleave], ?_⟩
  rcases h with ⟨_, _, _, _, _, _, rfl⟩ | ⟨c, cause, -, -, _, _, _, _, _, _, rfl⟩
  · exact hrel
  · exact .inr rfl

/-- An evaluation that is handed on: of one entry, or of all (R14). -/
theorem handOn_upholds (hobs : s.observes t) (hlive : t.rc.live = s.rc.live) : s.upholds (handOn t) := by
  refine ⟨fun hload => ?_⟩
  have hlooks := looks_of_observes hobs (handOn_looks t)
  obtain ⟨hcfg, -⟩ := looks_keeps hlooks
  refine ⟨hcfg, fun h => handOn_permitSafe (permitHeld_observes hobs (permitHeld_of_safe h)), looks_table hlooks,
    looks_stopSound hlooks, fun h => liveSound_of_announced ((isLoaded_of_cfg hcfg).trans hload) fun hrole => ?_⟩
  refine handOn_announced ?_
  obtain ⟨-, hannounced⟩ := h
  have hs : s.announced := hannounced ((role_of_cfg hcfg).symm.trans hrole)
  obtain ⟨_, _, _, _, _, _, rfl⟩ := hobs
  exact hlive.trans hs

theorem windowChanged_upholds (s : State) : s.upholds (windowChanged s) := by
  unfold windowChanged
  split
  · exact handOn_upholds (evaluateAll_observes s) (by simp)
  · exact upholds_refl s

theorem envStep_upholds (s : State) : s.upholds (envStep s) := by
  unfold envStep
  split
  · exact upholds_trans (windowChanged_upholds s) (settle_upholds _)
  · exact upholds_of_standing (by simp [State.standing, craneEvaluates])
  · exact upholds_refl s

theorem envPeer_upholds (n : Nat) (roles : List Role) (s : State) : s.upholds (envPeer n roles s) := by
  unfold envPeer
  split
  · exact ite_upholds (upholds_trans (handOn_upholds (evaluateOne_observes n s) (by simp)) (settle_upholds _))
      (upholds_refl s)
  · exact ite_upholds (upholds_of_standing (by simp [State.standing, craneEvaluates])) (upholds_refl s)
  · exact upholds_refl s

end

end Sys2Proof.Machine
end

section
/-! PROOF. What the move unit, the stock table and the link leave of a crane's pending leave and of its lines' causes (R164,
R166). -/

namespace Sys2Proof.Machine

/-! ### The move unit, the stock table and the link (R121 to R131, R151 to R165) -/

@[simp] theorem countMove_leave (f : MoveCounts → MoveCounts) (s : State) :
    (countMove f s).mu.leavePending = s.mu.leavePending := rfl

@[simp] theorem ignoreMove_leave (s : State) : (ignoreMove s).mu.leavePending = s.mu.leavePending := rfl

@[simp] theorem sendMove_leave (dest : Nat) (m : Message) (s : State) :
    (sendMove dest m s).1.mu.leavePending = s.mu.leavePending := by
  unfold sendMove
  dsimp only
  (repeat' split) <;> simp

@[simp] theorem sendRevoke_leave (dest : Nat) (tag : Byte) (s : State) :
    (sendRevoke dest tag s).1.mu.leavePending = s.mu.leavePending := by
  unfold sendRevoke
  dsimp only
  (repeat' split) <;> simp

@[simp] theorem putMove_leave (n : Nat) (e : MoveEntry) (s : State) :
    (putMove n e s).mu.leavePending = s.mu.leavePending := rfl

@[simp] theorem changeMove_leave (n : Nat) (old e : MoveEntry) (taker : Option Nat) (s : State) :
    (changeMove n old e taker s).mu.leavePending = s.mu.leavePending := by
  unfold changeMove
  dsimp only
  (repeat' split) <;> simp

@[simp] theorem endMove_leave (n : Nat) (e : MoveEntry) (st : MoveStanding) (reason : Option MoveReason)
    (taker : Option Nat) (s : State) :
    (endMove n e st reason taker s).mu.leavePending = s.mu.leavePending := by
  simp [endMove]

@[simp] theorem makeCall_leave (n : Nat) (e : MoveEntry) (s : State) :
    (makeCall n e s).mu.leavePending = s.mu.leavePending := by
  simp [makeCall]

@[simp] theorem actOnBids_leave (n : Nat) (e : MoveEntry) (bids : List Bid) (s : State) :
    (actOnBids n e bids s).mu.leavePending = s.mu.leavePending := by
  induction bids generalizing s with
  | nil =>
    unfold actOnBids
    split <;> simp
  | cons b rest ih =>
    unfold actOnBids
    dsimp only
    split <;> simp [ih]

@[simp] theorem passDown_leave (n : Nat) (e : MoveEntry) (s : State) :
    (passDown n e s).mu.leavePending = s.mu.leavePending := actOnBids_leave ..

@[simp] theorem reopenMove_leave (n : Nat) (e : MoveEntry) (s : State) :
    (reopenMove n e s).mu.leavePending = s.mu.leavePending := by
  unfold reopenMove
  dsimp only
  (repeat' split) <;> simp

@[simp] theorem startedWith_leave (n : Nat) (e : MoveEntry) (crane : Nat) (s : State) :
    (startedWith n e crane s).mu.leavePending = s.mu.leavePending := by
  unfold startedWith
  dsimp only
  (repeat' split) <;> simp

@[simp] theorem loseCraneAt_leave (station n : Nat) (s : State) :
    (loseCraneAt station n s).mu.leavePending = s.mu.leavePending := by
  unfold loseCraneAt
  dsimp only
  (repeat' split) <;> simp

@[simp] theorem loseCrane_leave (station : Nat) (s : State) :
    (loseCrane station s).mu.leavePending = s.mu.leavePending := by
  unfold loseCrane
  split
  · rfl
  · clear * -
    generalize List.range 8 = l
    induction l generalizing s with
    | nil => rfl
    | cons n l ih => rw [List.foldl_cons, ih, loseCraneAt_leave]

@[simp] theorem stationLost_leave (station : Nat) (s : State) :
    (stationLost station s).mu.leavePending = s.mu.leavePending := by
  unfold stationLost unordered
  dsimp only
  (repeat' split) <;> simp

@[simp] theorem setMoveQueue_leave (q : List QueuedMove) (s : State) :
    (setMoveQueue q s).mu.leavePending = s.mu.leavePending := by
  unfold setMoveQueue
  dsimp only
  (repeat' split) <;> simp

@[simp] theorem dropUnstarted_leave (s : State) :
    (dropUnstarted s).mu.leavePending = s.mu.leavePending := by
  unfold dropUnstarted
  dsimp only
  (repeat' split) <;> simp

@[simp] theorem isolate_leave (cause : IsolationCause) (s : State) :
    (isolate cause s).mu.leavePending = s.mu.leavePending := by
  unfold isolate
  dsimp only
  (repeat' split) <;> simp

@[simp] theorem duplicate_leave (s : State) :
    (duplicate s).mu.leavePending = s.mu.leavePending := by
  unfold duplicate
  dsimp only
  (repeat' split) <;> simp

@[simp] theorem startQueued_leave (i : Nat) (s : State) :
    (startQueued i s).mu.leavePending = s.mu.leavePending := by
  unfold startQueued
  dsimp only
  (repeat' split) <;> simp

@[simp] theorem acceptedLoad_leave (id : StockId) (s : State) :
    (acceptedLoad id s).mu.leavePending = s.mu.leavePending := by
  unfold acceptedLoad
  dsimp only
  (repeat' split) <;> simp

@[simp] theorem clearRises_leave (s : State) :
    (clearRises s).mu.leavePending = s.mu.leavePending := by
  unfold clearRises
  (repeat' split) <;> simp

@[simp] theorem acceptOffer_leave (n : Nat) (o : HeldOffer) (loc : Location) (s : State) :
    (acceptOffer n o loc s).mu.leavePending = s.mu.leavePending := by
  unfold acceptOffer
  dsimp only
  (repeat' split) <;> simp

@[simp] theorem confirmOffer_leave (n : Nat) (o : HeldOffer) (loc : Location) (s : State) :
    (confirmOffer n o loc s).1.mu.leavePending = s.mu.leavePending := by
  unfold confirmOffer
  (repeat' split) <;> simp

@[simp] theorem confirmSlot_leave (n : Nat) (s : State) :
    (confirmSlot n s).mu.leavePending = s.mu.leavePending := by
  unfold confirmSlot
  (repeat' split) <;> simp

@[simp] theorem confirmHeld_leave (s : State) :
    (confirmHeld s).mu.leavePending = s.mu.leavePending := by
  unfold confirmHeld
  (repeat' split) <;> simp

@[simp] theorem holdOffer_leave (p : Piece) (giver : Nat) (s : State) :
    (holdOffer p giver s).mu.leavePending = s.mu.leavePending := by
  unfold holdOffer
  dsimp only
  (repeat' split) <;> simp

@[simp] theorem takeOffer_leave (p : Piece) (giver : Nat) (s : State) :
    (takeOffer p giver s).mu.leavePending = s.mu.leavePending := by
  unfold takeOffer
  (repeat' split) <;> simp

@[simp] theorem takeCall_leave (tag : Byte) (call : Nat) (m : MoveInfo) (source : Nat) (s : State) :
    (takeCall tag call m source s).mu.leavePending = s.mu.leavePending := by
  unfold takeCall
  (repeat' split) <;> simp

@[simp] theorem takeAward_leave (tag : Byte) (m : MoveInfo) (source : Nat) (s : State) :
    (takeAward tag m source s).mu.leavePending = s.mu.leavePending := by
  unfold takeAward joinQueue
  dsimp only
  (repeat' split) <;> simp

@[simp] theorem takeRevoke_leave (tag : Byte) (source : Nat) (s : State) :
    (takeRevoke tag source s).mu.leavePending = s.mu.leavePending := by
  unfold takeRevoke
  (repeat' split) <;> simp

@[simp] theorem ignoreBid_leave (s : State) : (ignoreBid s).mu.leavePending = s.mu.leavePending := rfl

@[simp] theorem takeMoveBid_leave (tag : Byte) (call bid source : Nat) (s : State) :
    (takeMoveBid tag call bid source s).mu.leavePending = s.mu.leavePending := by
  unfold takeMoveBid
  dsimp only
  (repeat' split) <;> simp

@[simp] theorem awardTaken_leave (n : Nat) (e : MoveEntry) (crane : Nat) (s : State) :
    (awardTaken n e crane s).mu.leavePending = s.mu.leavePending := by
  simp [awardTaken]

@[simp] theorem takeAwardReply_leave (tag : Byte) (taken : Bool) (source : Nat) (s : State) :
    (takeAwardReply tag taken source s).mu.leavePending = s.mu.leavePending := by
  unfold takeAwardReply
  (repeat' split) <;> simp

@[simp] theorem takeStarted_leave (tag : Byte) (source : Nat) (s : State) :
    (takeStarted tag source s).mu.leavePending = s.mu.leavePending := by
  unfold takeStarted
  (repeat' split) <;> simp

@[simp] theorem takeDone_leave (tag : Byte) (carried : Bool) (taker : Option Nat) (source : Nat) (s : State) :
    (takeDone tag carried taker source s).mu.leavePending = s.mu.leavePending := by
  unfold takeDone
  dsimp only
  (repeat' split) <;> simp

@[simp] theorem takeReturn_leave (tag : Byte) (source : Nat) (s : State) :
    (takeReturn tag source s).mu.leavePending = s.mu.leavePending := by
  unfold takeReturn
  (repeat' split) <;> simp

@[simp] theorem takeRevokeReply_leave (tag : Byte) (late : Bool) (source : Nat) (s : State) :
    (takeRevokeReply tag late source s).mu.leavePending = s.mu.leavePending := by
  unfold takeRevokeReply
  (repeat' split) <;> simp

@[simp] theorem loadRises_leave (s : State) :
    (loadRises s).mu.leavePending = s.mu.leavePending := by
  unfold loadRises unordered
  dsimp only
  (repeat' split) <;> simp

@[simp] theorem confirmRequest_leave (n : Nat) (o : HeldOffer) (loc : Location) (s : State) :
    (confirmRequest n o loc s).1.mu.leavePending = s.mu.leavePending := by
  have hconfirm := confirmOffer_leave n o loc s
  unfold confirmRequest
  split <;> (rename_i h; rw [h] at hconfirm; exact hconfirm)

/-! ### Requests (R126, R153, R158) -/

@[simp] theorem takeConfirm_leave (suits : Bool) (i : StockId) (s : State) :
    (takeConfirm suits i s).1.mu.leavePending = s.mu.leavePending := by
  unfold takeConfirm
  (repeat' split) <;> rfl

@[simp] theorem takeBedLoaded_leave (i : StockId) (s : State) :
    (takeBedLoaded i s).1.mu.leavePending = s.mu.leavePending := by
  unfold takeBedLoaded
  (repeat' split) <;> simp

@[simp] theorem takePlaced_leave (i : StockId) (slot : Nat) (s : State) :
    (takePlaced i slot s).1.mu.leavePending = s.mu.leavePending := by
  unfold takePlaced
  (repeat' split) <;> simp

@[simp] theorem openMove_leave (info : MoveInfo) (s : State) :
    (openMove info s).1.mu.leavePending = s.mu.leavePending := by
  unfold openMove
  dsimp only
  (repeat' split) <;> simp

@[simp] theorem takeMoveRequest_leave (suits : Bool) (m : MoveFields) (s : State) :
    (takeMoveRequest suits m s).1.mu.leavePending = s.mu.leavePending := by
  unfold takeMoveRequest judge
  (repeat' split) <;> simp

@[simp] theorem cancelUnanswered_leave (n : Nat) (e : MoveEntry) (s : State) :
    (cancelUnanswered n e s).mu.leavePending = s.mu.leavePending := by
  simp [cancelUnanswered]

@[simp] theorem cancelAwarded_leave (n : Nat) (e : MoveEntry) (crane : Nat) (s : State) :
    (cancelAwarded n e crane s).mu.leavePending = s.mu.leavePending := by
  unfold cancelAwarded
  dsimp only
  split <;> simp

@[simp] theorem cancelLive_leave (n : Nat) (e : MoveEntry) (s : State) :
    (cancelLive n e s).mu.leavePending = s.mu.leavePending := by
  unfold cancelLive
  (repeat' split) <;> simp

@[simp] theorem takeCancelMove_leave (tag : Byte) (s : State) :
    (takeCancelMove tag s).1.mu.leavePending = s.mu.leavePending := by
  unfold takeCancelMove
  split <;> simp

@[simp] theorem returnMoves_leave (ms : List QueuedMove) (s : State) :
    (returnMoves ms s).mu.leavePending = s.mu.leavePending := by
  induction ms generalizing s with
  | nil => rfl
  | cons m rest ih => simp [returnMoves, ih]

/-! ### A crane's lines (R166) -/

@[simp] theorem craneEvaluates_leave (s : State) : (craneEvaluates s).mu.leavePending = s.mu.leavePending := by
  simp [craneEvaluates]

@[simp] theorem craneEvaluates_arcPermit (s : State) : (craneEvaluates s).lu.arcPermit = s.lu.arcPermit := by
  simp [craneEvaluates]

@[simp] theorem craneEvaluates_station (s : State) : (craneEvaluates s).env.station = s.env.station := by
  simp [craneEvaluates]

@[simp] theorem takePosition_leave (v : PositionFields) (s : State) :
    (takePosition v s).1.mu.leavePending = s.mu.leavePending := by
  unfold takePosition
  dsimp only
  split <;> simp

@[simp] theorem takePosition_arcPermit (v : PositionFields) (s : State) :
    (takePosition v s).1.lu.arcPermit = s.lu.arcPermit := by
  unfold takePosition
  dsimp only
  split <;> simp

@[simp] theorem takePosition_station (v : PositionFields) (s : State) :
    (takePosition v s).1.env.station = s.env.station := by
  unfold takePosition
  dsimp only
  split <;> simp

end Sys2Proof.Machine
end

section
/-! PROOF. What the peer table, a record that leaves a crane's hook and changes of mode uphold of the permission to burn
(R26 to R35, R128, R131, R162 to R171). -/

namespace Sys2Proof.Machine

section
variable {s t u : State}

/-! ### The peer table (R26 to R35) -/

theorem stationLost_upholds (station : Nat) (s : State) : s.upholds (stationLost station s) :=
  upholds_of_standing (by simp [State.standing])

theorem putPeer_upholds (n : Nat) (o : Option PeerEntry) (s : State) : s.upholds (putPeer n o s) :=
  upholds_of_standing rfl

/-- The counters, and the flags of an entry's age, are not read (R31, R36); what an entry holds is evaluated apart. -/
theorem peers_upholds (p : PeerTable) (s : State) : s.upholds { s with pt := p } := upholds_of_standing rfl

theorem raise_upholds (d : NoticeData) (s : State) : s.upholds (raise d s) :=
  upholds_of_standing (by simp [State.standing])

theorem unordered_upholds {f g : State → State} (hf : ∀ u : State, u.upholds (f u))
    (hg : ∀ u : State, u.upholds (g u)) (s : State) : s.upholds (unordered f g s) := by
  have hcount : s.upholds { s with freeCount := s.freeCount + 1 } := upholds_of_standing rfl
  unfold unordered
  exact ite_upholds (upholds_trans hcount (upholds_trans (hf _) (hg _)))
    (upholds_trans hcount (upholds_trans (hg _) (hf _)))

theorem removePeer_upholds (n : Nat) (e : PeerEntry) (s : State) : s.upholds (removePeer n e s) :=
  upholds_trans (putPeer_upholds n _ s) (upholds_trans (stationLost_upholds _ _)
    (upholds_trans (putPeer_upholds n _ _) (envPeer_upholds n _ _)))

theorem storeBeacon_upholds (n : Nat) (e : PeerEntry) (s : State) : s.upholds (storeBeacon n e s) :=
  upholds_trans (peers_upholds _ s) (upholds_trans (putPeer_upholds ..) (envPeer_upholds n [e.data.role] _))

theorem createPeer_upholds (e : PeerEntry) (s : State) : s.upholds (createPeer e s) := by
  unfold createPeer
  split
  · exact storeBeacon_upholds _ e s
  · split
    · rename_i n old _
      exact upholds_trans (removePeer_upholds n old s) (upholds_trans (peers_upholds _ _) (storeBeacon_upholds n e _))
    · exact peers_upholds _ s

theorem changeRole_upholds (n : Nat) (old e : PeerEntry) (s : State) : s.upholds (changeRole n old e s) :=
  upholds_trans (upholds_trans (peers_upholds _ s) (putPeer_upholds n (some e) _))
    (unordered_upholds (fun u => envPeer_upholds n [old.data.role, e.data.role] u)
      (fun u => raise_upholds (.peerRoleChanged e.station old.data.role e.data.role) u) _)

theorem takeBeacon_upholds (role : Role) (source : Nat) (seq : Byte) (bs : List Byte) (s : State) :
    s.upholds (takeBeacon role source seq bs s) := by
  unfold takeBeacon
  dsimp only
  refine ite_upholds (peers_upholds _ s) (ite_upholds (upholds_refl s) ?_)
  split
  · exact createPeer_upholds _ s
  · split
    · exact upholds_refl s
    · exact ite_upholds (changeRole_upholds ..) (ite_upholds (peers_upholds _ s) (storeBeacon_upholds ..))

theorem ageToStale_upholds (n : Nat) (s : State) : s.upholds (ageToStale n s) := by
  unfold ageToStale
  split
  · exact ite_upholds (upholds_trans (putPeer_upholds ..) (envPeer_upholds ..)) (upholds_refl s)
  · exact upholds_refl s

theorem ageToLost_upholds (n : Nat) (s : State) : s.upholds (ageToLost n s) := by
  unfold ageToLost
  split
  · refine ite_upholds (ite_upholds ?_ (removePeer_upholds ..)) (upholds_refl s)
    exact upholds_trans (putPeer_upholds ..)
      (unordered_upholds (fun u => envPeer_upholds n _ u) (fun u => stationLost_upholds _ u) _)
  · exact upholds_refl s

theorem agePeer_upholds (s : State) (n : Nat) : s.upholds (agePeer s n) :=
  upholds_trans (peers_upholds _ s) (upholds_trans (ageToStale_upholds n _) (ageToLost_upholds n _))

theorem agingStep_upholds (s : State) : s.upholds (agingStep s) := by
  have haged (l : List Nat) (s : State) : s.upholds (l.foldl agePeer s) := by
    induction l generalizing s with
    | nil => exact upholds_refl s
    | cons n l ih => exact upholds_trans (agePeer_upholds s n) (ih _)
  exact upholds_trans (haged _ s) (envStep_upholds _)

/-! ### Changes of station mode (R164, R171) -/

/-- Outside a loaded cutter's RUN, or with no copy in flight or broken, a change of mode finds ARC_PERMIT withdrawn and
no stop pending (R99, R101). -/
theorem changeMode_upholds (m : Mode) (h : s.sp.mode ≠ .run ∨ s.role ≠ .cutter
      ∨ (s.rc.release ≠ .inFlight ∧ s.rc.release ≠ .broken)) : s.upholds (changeMode m s) := by
  refine ⟨fun hload => ?_⟩
  have hcfg : (changeMode m s).cfg = s.cfg := by simp
  refine ⟨hcfg, fun hs => permitSafe_of_dark (changeMode_dark m ?_), changeMode_table m, fun hs =>
    stopSound_of_free ((changeMode_stop ..).trans ?_),
    fun _ => liveSound_of_announced ((isLoaded_of_cfg hcfg).trans hload) fun hrole =>
      changeMode_announced m ((role_of_cfg hcfg).symm.trans hrole)⟩
  · cases hon : s.lu.arcPermit with
    | false => rfl
    | true =>
      obtain ⟨hrole, -, hmode, -, hburn, -⟩ := hs hon
      rcases h with h | h | ⟨h, -⟩
      · exact absurd hmode h
      · exact absurd hrole h
      · simp [State.burning, h] at hburn
  · cases hstop : s.rc.stopPending with
    | false => rfl
    | true =>
      obtain ⟨-, hrole, hmode, -, hrel⟩ := hs hstop
      rcases h with h | h | ⟨h, h'⟩
      · exact absurd hmode h
      · exact absurd hrole h
      · exact absurd hrel (by simp [h, h'])

/-- A crane's pending leave is its own: a cutter's stop does not read it (R99, R164). -/
theorem setLeave_upholds (b : Bool) (h : b = false ∨ s.role ≠ .cutter) :
    s.upholds { s with mu := { s.mu with leavePending := b } } := by
  refine ⟨fun _ => ?_⟩
  refine ⟨rfl, id, id, fun hs hstop => ?_, id⟩
  obtain ⟨hload, hrole, hmode, -, hrel⟩ := hs hstop
  exact ⟨hload, hrole, hmode, h.resolve_right (fun hn => hn hrole), hrel⟩

theorem finishMove_upholds (carried : Bool) (taker : Option Nat) (hrole : s.role ≠ .cutter) :
    s.upholds (finishMove carried taker s) := by
  unfold finishMove
  split
  · exact upholds_refl s
  · rename_i m rest _
    let done := setMoveQueue rest (sendMove m.requester (.moveDone m.tag carried taker) s).1
    have hdone : s.upholds done := upholds_of_standing (by simp [State.standing, done])
    have hother : done.role ≠ .cutter := by rwa [role_of_cfg (s := s) (by simp [done])]
    refine upholds_trans hdone (ite_upholds ?_ (upholds_refl _))
    exact upholds_trans (setLeave_upholds false (.inl rfl)) (changeMode_upholds _ (.inr (.inl hother)))

theorem recordLeaves_upholds (i : StockId) (carried : Bool) (taker : Option Nat) (hrole : s.role ≠ .cutter) :
    s.upholds (recordLeaves i carried taker s) := by
  unfold recordLeaves
  split
  · exact ite_upholds (finishMove_upholds _ _ hrole) (upholds_refl s)
  · exact upholds_refl s

theorem craneLeaves_upholds (hrole : s.role ≠ .cutter) : s.upholds (craneLeaves s).1 := by
  have hother : (returnMoves (s.mu.queue.filter (fun m => !m.started)) s).role ≠ .cutter := by
    rwa [role_of_cfg (s := s) (by simp)]
  refine upholds_trans (t := returnMoves (s.mu.queue.filter (fun m => !m.started)) s)
    (upholds_of_standing (by simp [State.standing])) ?_
  unfold craneLeaves
  dsimp only
  split
  · exact setLeave_upholds true (.inr hother)
  · exact changeMode_upholds _ (.inr (.inl hother))

/-- A record leaves a crane's hook when it is released or refused (R128, R131, R162). -/
theorem takeAccept_upholds (i : StockId) (source : Nat) (s : State) : s.upholds (takeAccept i source s) := by
  have hrefuse (r : CustodyRefusal) : s.upholds (refuseCustody source i r s) :=
    upholds_of_standing (by simp [State.standing])
  have hrelease (n : Nat) : s.upholds (releaseRecord n source i s) := by
    let sent := sendRelease source i (raise (.handoverDone i source .giver) { s with st := s.st.remove n })
    have hsent : s.upholds sent := upholds_of_standing (by simp [State.standing, sent])
    refine upholds_trans hsent ?_
    change sent.upholds (if sent.role = .crane then recordLeaves i true (some source) sent else sent)
    split
    · rename_i hrole
      exact recordLeaves_upholds _ _ _ (by simp [hrole])
    · exact upholds_refl _
  unfold takeAccept
  split
  · split
    · exact ite_upholds (hrelease _) (hrefuse _)
    all_goals exact hrefuse _
  · exact hrefuse _

theorem takeRefusal_upholds (i : StockId) (reason : CustodyRefusal) (source : Nat) (s : State) :
    s.upholds (takeRefusal i reason source s) := by
  have hreject (n : Nat) : s.upholds (rejectRecord n source i reason s) := by
    let raised := raise (.handoverRejected i source reason) { s with st := s.st.remove n }
    have hraised : s.upholds raised := upholds_of_standing (by simp [State.standing, raised])
    refine upholds_trans hraised ?_
    change raised.upholds (if raised.role = .crane then recordLeaves i false none raised else raised)
    split
    · rename_i hrole
      exact recordLeaves_upholds _ _ _ (by simp [hrole])
    · exact upholds_refl _
  unfold takeRefusal
  split
  · exact ite_upholds (upholds_of_standing (by simp [State.standing]))
      (ite_upholds (hreject _) (upholds_of_standing rfl))
  · exact upholds_of_standing rfl

/-- SET_MODE in RUN hands a leave to the role's owner (R164, R171). -/
theorem leaveRun_upholds (hmode : s.sp.mode = .run) (hleave : s.leavePending = false) : s.upholds (leaveRun s).1 := by
  unfold leaveRun
  split
  · rename_i hrole
    split
    · rename_i hrel
      refine ⟨fun hload => ⟨rfl, id, id, fun _ _ => ⟨hload, hrole, hmode, ?_, hrel⟩, id⟩⟩
      simp only [State.leavePending, Bool.or_eq_false_iff] at hleave
      exact hleave.2
    · rename_i hrel
      exact changeMode_upholds _ (.inr (.inr (not_or.1 hrel)))
  · rename_i hrole
    exact craneLeaves_upholds (by simp [hrole])
  · rename_i hrole
    exact changeMode_upholds _ (.inr (.inl (by simp [hrole])))

theorem takeSetMode_upholds (m : Mode) (s : State) : s.upholds (takeSetMode m s).1 := by
  unfold takeSetMode
  split
  · exact upholds_refl s
  · exact changeMode_upholds _ (.inl (by simp [*]))
  · exact upholds_refl s
  · exact changeMode_upholds _ (.inl (by simp [*]))
  · exact upholds_refl s
  · exact upholds_trans (changeMode_upholds _ (.inl (by simp [*]))) (settle_upholds _)
  · exact upholds_refl s
  · rename_i hmode
    split
    · exact upholds_refl s
    · rename_i hleave
      exact leaveRun_upholds hmode (by simpa using hleave)
  · split <;> exact upholds_refl s

theorem judgeSetMode_upholds (suits : Bool) (target : Option Mode) (s : State) :
    s.upholds (judgeSetMode suits target s).1 := by
  unfold judgeSetMode
  split
  · split
    · exact takeSetMode_upholds _ s
    · exact upholds_refl s
  · exact upholds_refl s

end

end Sys2Proof.Machine
end

section
/-! PROOF. What the requests of the segment queue and of the release controller uphold of the permission to burn (R60 to
R66, R87 to R96). -/

namespace Sys2Proof.Machine

section
variable {s t u : State}

/-! ### A change that is announced (R79, R100) -/

/-- What an operation upholds before it announces the live window. -/
structure State.bears (s t : State) : Prop where
  cfg    : t.cfg = s.cfg
  permit : s.permitSafe → t.permitSafe
  table  : s.releaseTable → t.releaseTable
  stop   : s.stopSound → t.stopSound

theorem announce_upholds (a : Bool) (h : s.isLoaded = true → s.bears t) : s.upholds (announce a t) := by
  refine ⟨fun hload => ?_⟩
  obtain ⟨hcfg, hpermit, htable, hstop⟩ := h hload
  have hcfgs : (announce a t).cfg = s.cfg := by simpa using hcfg
  have hannounced := announce_announced a t
  obtain ⟨flc, he⟩ := announce_writes a t
  rw [he] at hcfgs hannounced ⊢
  exact ⟨hcfgs, hpermit, htable, hstop,
    fun _ => liveSound_of_announced ((isLoaded_of_cfg hcfgs).trans hload) fun _ => hannounced⟩

/-- What changes at the head is announced, evaluated and judged (R79, R83, R100). -/
theorem rcSettles_upholds (before : State) (h : s.isLoaded = true → s.bears t) : s.upholds (rcSettles before t) := by
  rcases rcSettles_cases before t with ⟨-, -, he⟩ | ⟨-, he⟩ <;> rw [he]
  · exact announce_upholds _ h
  · exact upholds_trans (announce_upholds _ h) (upholds_trans (windowChanged_upholds _) (settle_upholds _))

/-! ### The segment queue (R60 to R68) -/

theorem formCopy_rc (c : Cursor) (s : State) : (formCopy c s).rc = { s.rc with
    head := some c.copy
    release := if s.rc.release = .idle then .waiting else s.rc.release } := rfl

/-- The queue forms a head copy, or none (R67, R79). -/
theorem formHead_rc (s : State) : (formHead s).rc = s.rc ∨ ∃ c, (formHead s).rc = { s.rc with
    head := some c
    release := if s.rc.release = .idle then .waiting else s.rc.release } := by
  unfold formHead
  split
  · split
    · exact .inr ⟨_, by rw [formCopy_rc, (by simp : (consumeHead s).rc = s.rc)]⟩
    · exact .inl rfl
    · exact .inr ⟨_, by rw [formCopy_rc]⟩
  · exact .inl rfl

/-- A head copy that is formed in a loaded cutter. -/
theorem formHead_bears (hload : s.isLoaded = true) (hrole : s.role = .cutter) : s.bears (formHead s) := by
  obtain ⟨hcfg, hlu, hmode⟩ : (formHead s).cfg = s.cfg ∧ (formHead s).lu = s.lu ∧ (formHead s).sp.mode = s.sp.mode := by
    simp
  obtain ⟨hmu, henv⟩ : (formHead s).mu = s.mu ∧ (formHead s).env = s.env := by simp
  have hload' := (isLoaded_of_cfg hcfg).trans hload
  have hrole' := (role_of_cfg hcfg).trans hrole
  obtain ⟨hrel, hcur⟩ : ((formHead s).rc.release = s.rc.release ∨ (s.rc.release = .idle
      ∧ (formHead s).rc.release = .waiting)) ∧ (formHead s).rc.current = s.rc.current := by
    rcases formHead_rc s with he | ⟨c, he⟩ <;> rw [he]
    · exact ⟨.inl rfl, rfl⟩
    · by_cases hidle : s.rc.release = .idle <;> simp [hidle]
  have hburn : (formHead s).burning = s.burning := by
    rcases hrel with h | ⟨h, h'⟩
    · simp [State.burning, h, hcur]
    · simp [State.burning, h, h']
  refine ⟨hcfg, fun h hon => ?_, fun h => ?_, fun h hstop => ?_⟩
  · obtain ⟨-, -, hrun, hestop, hb, hstation⟩ := h (hlu ▸ hon)
    exact ⟨hrole', hload', hmode.trans hrun, by rw [hlu, hestop], hburn.trans hb, by rwa [henv]⟩
  · obtain ⟨hpermit, hrow, -⟩ := h
    refine ⟨by rw [hlu, hburn]; exact hpermit, ?_, fun hn => absurd hn (not_idled hload' hrole')⟩
    rcases formHead_rc s with he | ⟨c, he⟩ <;> rw [he]
    · exact hrow
    · cases hr : s.rc.release <;> simp_all
  · have hpending : (formHead s).rc.stopPending = s.rc.stopPending := by
      rcases formHead_rc s with he | ⟨c, he⟩ <;> rw [he]
    obtain ⟨-, -, hrun, hleave, hr⟩ := h (hpending ▸ hstop)
    refine ⟨hload', hrole', hmode.trans hrun, by rw [hmu, hleave], ?_⟩
    rcases hrel with he | ⟨he, -⟩
    · rwa [he]
    · simp [he] at hr

theorem acceptRecord_upholds (r : SegRecord) (hrole : s.role = .cutter) : s.upholds (acceptRecord r s).1 := by
  refine rcSettles_upholds s fun hload => ?_
  have hformed := formHead_bears (s := { s with sq := joinRecord r s.sq }) hload hrole
  exact ⟨hformed.cfg, hformed.permit, hformed.table, hformed.stop⟩

/-- An update of the segment queue's fields that the live window does not read, and of the free values. -/
theorem queue_upholds {q : SegQueue} (n : Nat) (hheld : q.held = s.sq.held) (hcursor : q.cursor = s.sq.cursor) :
    s.upholds { s with sq := q, freeCount := n } :=
  upholds_of_standing (by simp [State.standing, hheld, hcursor])

theorem admitRecord_upholds (hd : SegHeader) (bs : List Byte) (hrole : s.role = .cutter) :
    s.upholds (admitRecord hd bs s).1 := by
  unfold admitRecord
  split
  · exact upholds_refl s
  · split
    · exact upholds_trans (queue_upholds s.freeCount (by rfl) (by rfl)) (raise_upholds _ _)
    · exact acceptRecord_upholds _ hrole

theorem takeSegment_upholds (bs : List Byte) (s : State) : s.upholds (takeSegment bs s).1 := by
  have hheader : s.upholds (useHeader bs s) := by
    unfold useHeader
    exact ite_upholds (upholds_of_standing rfl) (upholds_refl s)
  unfold takeSegment
  split
  · exact upholds_refl s
  · rename_i hcutter
    have hrole : (useHeader bs s).role = .cutter := by
      rw [role_of_cfg (s := s) (by simp)]
      simpa using (not_or.1 hcutter).1
    dsimp only
    split
    · exact upholds_refl s
    · split
      · exact upholds_trans hheader (queue_upholds _ (by rfl) (by rfl))
      · exact upholds_trans hheader (admitRecord_upholds _ _ hrole)
    · exact upholds_trans hheader (admitRecord_upholds _ _ hrole)

/-! ### FLUSH and RESYNC (R65, R66, R94) -/

/-- A part that has dropped its copies with ARC_PERMIT withdrawn (R94). -/
theorem emptied_table (hdark : s.lu.arcPermit = false) (fault : Option ReleaseFault) (timer : Option Timer) :
    { s with rc := { s.rc with
      release := .idle
      head := none
      current := none
      fault := fault
      haltTimer := timer } }.releaseTable :=
  table_of_rest hdark rfl rfl fun _ => rfl

theorem takeFlush_bears (hload : s.isLoaded = true) (hrole : s.role = .cutter) : s.bears (takeFlush s) := by
  have hcfg : (takeFlush s).cfg = s.cfg := by simp
  have hfree (h : s.stopSound) (hi : s.rc.release ≠ .inFlight) (hb : s.rc.release ≠ .broken) :
      s.rc.stopPending = false := by
    cases hstop : s.rc.stopPending with
    | false => rfl
    | true =>
      obtain ⟨-, -, -, -, hrel⟩ := h hstop
      exact absurd hrel (by simp [hi, hb])
  unfold takeFlush at hcfg ⊢
  cases hrel : s.rc.release <;> simp only [hrel] at hcfg ⊢
  case idle => exact ⟨rfl, id, id, id⟩
  case waiting =>
    refine ⟨rfl, fun h => permitSafe_of_dark (show s.lu.arcPermit = false from dark_of_safe h (by simp [hrel])),
      fun h => ?_,
      fun h => stopSound_of_free (hfree h (by simp [hrel]) (by simp [hrel]))⟩
    have hdark := dark_of_table h (by simp [hrel])
    obtain ⟨-, hrow, -⟩ := h
    simp only [hrel] at hrow
    exact table_of_rest hdark hrow.2 rfl fun _ => rfl
  case inFlight =>
    have hburn : State.burning { s with rc := { s.rc with
        release := .inFlight
        head := none
        current := s.rc.current.map (fun c => { c with flushed := true }) } } = s.burning := by
      simp [State.burning, Option.any_map, hrel]
    refine ⟨rfl, fun h hon => ?_, fun h => ?_, fun h hstop => ?_⟩
    · obtain ⟨-, -, hrun, hestop, hb, hstation⟩ := h hon
      exact ⟨hrole, hload, hrun, hestop, hburn.trans hb, hstation⟩
    · obtain ⟨hpermit, hrow, -⟩ := h
      simp only [hrel] at hrow
      refine ⟨by rw [hburn]; exact hpermit, ?_, fun hn => absurd hn (not_idled hload hrole)⟩
      simpa using hrow
    · obtain ⟨-, -, hrun, hleave, -⟩ := h hstop
      exact ⟨hload, hrole, hrun, hleave, .inl rfl⟩
  case broken =>
    refine ⟨hcfg, fun h => permitSafe_of_dark (endStop_dark ?_), fun h => ?_,
      fun _ => stopSound_of_free (endStop_stop _)⟩
    · exact dark_of_safe (s := s) h (by simp [hrel])
    · exact endStop_table (emptied_table (dark_of_table h (by simp [hrel])) _ _)
  case faulted =>
    refine ⟨rfl, fun h => permitSafe_of_dark (show s.lu.arcPermit = false from dark_of_safe h (by simp [hrel])),
      fun h => ?_,
      fun h => stopSound_of_free (hfree h (by simp [hrel]) (by simp [hrel]))⟩
    have hdark := dark_of_table h (by simp [hrel])
    obtain ⟨-, hrow, -⟩ := h
    simp only [hrel] at hrow
    exact table_of_rest hdark hrow.1 rfl fun _ => rfl

theorem flushQueue_upholds (after : SegQueue → SegQueue) (hrole : s.role = .cutter) :
    s.upholds (flushQueue after s).1 := by
  refine rcSettles_upholds s fun hload => ?_
  obtain ⟨sp, armed, hdiscard, hmode, -⟩ := discardAll_writes s
  rw [hdiscard]
  have hflush := takeFlush_bears (s := { s with sp := sp, sq := after (s.sq.emptied armed) }) hload hrole
  refine ⟨hflush.cfg, fun h => hflush.permit fun hon => ?_, hflush.table, fun h => hflush.stop fun hstop => ?_⟩
  · obtain ⟨_, _, hrun, hlast⟩ := h hon
    exact ⟨hrole, hload, hmode.trans hrun, hlast⟩
  · obtain ⟨_, _, hrun, hlast⟩ := h hstop
    exact ⟨hload, hrole, hmode.trans hrun, hlast⟩

/-! ### The release controller's requests (R87 to R96) -/

theorem addArc_upholds (ms : Nat) (s : State) : s.upholds (addArc ms s) := by
  refine upholds_of_standing ?_
  unfold addArc
  dsimp only
  split <;> simp [State.standing]

theorem logMark_upholds (c : Current) (o : MarkOutcome) (s : State) : s.upholds (logMark c o s) :=
  upholds_of_standing (by simp [State.standing])

theorem takeDoneReport_upholds (seq : Seq) (k ms : Nat) (hrole : s.role = .cutter) :
    s.upholds (takeDoneReport seq k ms s).1 := by
  unfold takeDoneReport
  split
  · exact upholds_trans (completeCurrent_upholds _ _ hrole) (settle_upholds _)
  · exact upholds_refl s

theorem takeAbort_upholds (seq : Seq) (k ms : Nat) (hrole : s.role = .cutter) :
    s.upholds (takeAbort seq k ms s).1 := by
  unfold takeAbort
  split
  · rename_i c _
    let counted := if c.copy.content.isArc then addArc ms s else s
    have hcounted : s.upholds counted := ite_upholds (addArc_upholds ms s) (upholds_refl s)
    have hcfg : (logMark c .aborted counted).cfg = s.cfg := by
      simp only [counted]
      split <;> simp
    exact upholds_trans hcounted (upholds_trans (logMark_upholds c .aborted _)
      (enterFaulted_upholds _ _ ((role_of_cfg hcfg).trans hrole)))
  · exact upholds_refl s

/-- The copy that a report names is the current one (R87 to R90). -/
theorem haltedCopy_current {seq : Seq} {k : Nat} {c : Current} (h : s.haltedCopy seq k = some c) :
    s.rc.release = .broken ∧ s.rc.current = some c ∧ c.named seq k = true ∧ c.halted = false := by
  unfold State.haltedCopy at h
  split at h
  · rename_i d hrel hcur
    split at h
    · rename_i hd
      cases h
      exact ⟨hrel, hcur, hd.1, by simpa using hd.2⟩
    · cases h
  · cases h

theorem takeHalt_upholds (seq : Seq) (k ms : Nat) (s : State) : s.upholds (takeHalt seq k ms s).1 := by
  unfold takeHalt
  split
  · rename_i c hc
    obtain ⟨-, hcur, -⟩ := haltedCopy_current hc
    let counted := if c.copy.content.isArc then addArc ms s else s
    have hcounted : s.upholds counted := ite_upholds (addArc_upholds ms s) (upholds_refl s)
    have hcur' : counted.rc.current = some c := by
      simp only [counted]
      split
      · obtain ⟨_, he, -⟩ := addArc_writes ms s
        rw [he]
        exact hcur
      · exact hcur
    let halted : State := { counted with rc := { counted.rc with
      current := some { c with halted := true }
      haltTimer := none } }
    have hhalted : counted.upholds halted := upholds_of_standing (by simp [State.standing, halted, hcur'])
    exact upholds_trans hcounted (upholds_trans hhalted (settle_upholds _))
  · exact upholds_refl s

theorem takeContinue_upholds (hrole : s.role = .cutter) : s.upholds (takeContinue s).1 := by
  unfold takeContinue
  split
  · exact upholds_refl s
  · rename_i hfaulted
    have hrel : s.rc.release = .faulted := by simpa using hfaulted
    refine rcSettles_upholds s fun hload => ?_
    obtain ⟨hcfg, hlu, hmode⟩ : (discardFaulted s).cfg = s.cfg ∧ (discardFaulted s).lu = s.lu
        ∧ (discardFaulted s).sp.mode = s.sp.mode := by
      unfold discardFaulted
      split <;> simp
    obtain ⟨hcur, hstop⟩ : (discardFaulted s).rc.current = s.rc.current
        ∧ (discardFaulted s).rc.stopPending = s.rc.stopPending := by
      unfold discardFaulted
      split
      · rcases formHead_rc (discardHead { s with rc := { s.rc with head := none } }) with he | ⟨c, he⟩ <;>
          rw [he] <;> simp
      · exact ⟨rfl, rfl⟩
    have hcalm : s.rc.release ≠ .inFlight := by simp [hrel]
    refine ⟨hcfg, fun h => permitSafe_of_dark ?_, fun h => ?_, fun h => stopSound_of_free (hstop.trans ?_)⟩
    · exact (congrArg Lines.arcPermit hlu).trans (dark_of_safe h hcalm)
    · have hdark := (congrArg Lines.arcPermit hlu).trans (dark_of_table h hcalm)
      obtain ⟨-, hrow, -⟩ := h
      simp only [hrel] at hrow
      exact table_of_rest hdark (hcur.trans hrow.1) rfl fun hn =>
        absurd hn (not_idled ((isLoaded_of_cfg hcfg).trans hload) ((role_of_cfg hcfg).trans hrole))
    · cases hpending : s.rc.stopPending with
      | false => rfl
      | true =>
        obtain ⟨-, -, -, -, hr⟩ := h hpending
        simp [hrel] at hr

theorem takeWearRestore_upholds (pierces ms : Nat) (s : State) : s.upholds (takeWearRestore pierces ms s).1 := by
  unfold takeWearRestore
  split
  · exact upholds_refl s
  · let known : State := { s with rc := { s.rc with
      pierces := min pierces s.cfg.params.pierceLimit
      wearKnown := true } }
    have hknown : s.upholds known := upholds_of_standing rfl
    exact upholds_trans hknown (upholds_trans
      (ite_upholds (p := s.cfg.params.pierceLimit ≤ pierces) (raise_upholds (.wearLimit .pierce) known)
        (upholds_refl known))
      (upholds_trans (addArc_upholds ms _) (settle_upholds _)))

theorem takeConsumable_upholds (s : State) : s.upholds (takeConsumable s).1 := by
  unfold takeConsumable
  split
  · exact upholds_refl s
  · let cleared : State := { s with rc := { s.rc with pierces := 0, arcMs := 0, wearKnown := true } }
    have hcleared : s.upholds cleared := upholds_of_standing rfl
    exact upholds_trans hcleared (settle_upholds _)

end

end Sys2Proof.Machine
end

section
/-! PROOF. What a change of ESTOP and a load uphold of the permission to burn (R97, R172 to R180). -/

namespace Sys2Proof.Machine

section
variable {s t u : State}

theorem guards_refl (s : State) : s.guards s := guards_of_standing rfl

theorem guards_of_upholds (h : s.upholds t) (hload : s.isLoaded = true) : s.guards t := by
  obtain ⟨-, hguards⟩ := h.of_load hload
  exact hguards

/-- ARC_PERMIT is asserted only after a good load, in a cutter (R101). -/
theorem dark_of_unburnt (h : s.permitSafe) (hn : s.isLoaded = false ∨ s.role ≠ .cutter ∨ s.burning = false) :
    s.lu.arcPermit = false := by
  cases hon : s.lu.arcPermit with
  | false => rfl
  | true =>
    obtain ⟨hrole, hload, -, -, hburn, -⟩ := h hon
    simp [hrole, hload, hburn] at hn

/-! ### ESTOP (R97, R172) -/

theorem sensed_standing (level : Bool) (s : State) :
    (s.sensed level).standing = { s.standing with estop := level } := by
  simp [State.standing, State.sensed, State.estopAt]

/-- A level of ESTOP is read by ARC_PERMIT's conditions alone. -/
theorem estopLevel_keeps {level : Bool} (h : t.standing = { s.standing with estop := level }) :
    (s.releaseTable → t.releaseTable) ∧ (s.stopSound → t.stopSound) ∧ (s.liveSound → t.liveSound) :=
  ⟨releaseTable_congr (s := s.estopAt level) h, stopSound_congr (s := s.estopAt level) h,
    liveSound_congr (s := s.estopAt level) h⟩

theorem estopLevel_guards {level : Bool} (h : t.standing = { s.standing with estop := level })
    (hpermit : level = false ∨ s.isLoaded = false ∨ s.role ≠ .cutter ∨ s.burning = false) : s.guards t := by
  obtain ⟨htable, hstop, hlive⟩ := estopLevel_keeps h
  refine ⟨fun hs => permitSafe_congr (s := s.estopAt level) h fun hon => ?_, htable, hstop, hlive⟩
  obtain ⟨hrole, hload, hmode, -, hburn, hstation⟩ := hs hon
  rcases hpermit with hlevel | hquiet
  · exact ⟨hrole, hload, hmode, hlevel, hburn, hstation⟩
  · cases (dark_of_unburnt hs hquiet).symm.trans hon

/-- A burning copy is broken at once, with ARC_PERMIT withdrawn (R89, R97). -/
theorem breakCopy_guards {c : Current} (cause : BreakCause) (hload : s.isLoaded = true)
    (hrel : s.rc.release = .inFlight) (hcur : s.rc.current = some c) :
    (breakCopy cause s).lu.arcPermit = false ∧ s.guards (breakCopy cause s) := by
  have hbroken := breakCopy_observes hcur cause
  have hlooks : s.looks (breakCopy cause s) := .inr ⟨c, cause, hrel, hcur, hbroken⟩
  have hdark : (breakCopy cause s).lu.arcPermit = false := looks_dark (.inl hbroken) rfl
  obtain ⟨hcfg, -⟩ := looks_keeps hlooks
  refine ⟨hdark, fun _ => permitSafe_of_dark hdark, looks_table hlooks, looks_stopSound hlooks, fun h => ?_⟩
  obtain ⟨-, hannounced⟩ := h
  exact liveSound_of_announced ((isLoaded_of_cfg hcfg).trans hload) fun hrole =>
    breakCopy_announced cause (hannounced ((role_of_cfg hcfg).symm.trans hrole))

theorem estopOn_guards (hload : s.isLoaded = true) : s.guards (estopOn (s.sensed true)) := by
  have hsensed := sensed_standing true s
  have hquiet (h : s.isLoaded = false ∨ s.role ≠ .cutter ∨ s.burning = false) {t : State}
      (ht : t.standing = (s.sensed true).standing) : s.guards t :=
    estopLevel_guards (ht.trans hsensed) (.inr h)
  unfold estopOn
  split
  · split
    · rename_i hbreaks
      have hburn : (s.sensed true).burning = true := hbreaks
      simp only [State.burning, Bool.and_eq_true, decide_eq_true_eq, Option.any_eq_true] at hburn
      obtain ⟨hrel, c, hcur, -⟩ := hburn
      obtain ⟨hdark, hbroken⟩ := breakCopy_guards .estop (s := s.sensed true) hload hrel hcur
      obtain ⟨htable, hstop, hlive⟩ := estopLevel_keeps hsensed
      exact ⟨fun _ => permitSafe_of_dark hdark, fun h => hbroken.table (htable h), fun h => hbroken.stop (hstop h),
        fun h => hbroken.live (hlive h)⟩
    · rename_i hbreaks
      have hunburnt : s.burning = false := by simpa using show ¬ s.burning = true from hbreaks
      exact hquiet (.inr (.inr hunburnt)) rfl
  · rename_i hrole
    exact hquiet (.inr (.inl (by rw [show s.role = .crane from hrole]; decide))) (by simp [State.standing])
  · rename_i hrole
    exact hquiet (.inr (.inl (by rw [show s.role = .rack from hrole]; decide))) rfl

theorem estopOff_guards (hload : s.isLoaded = true) : s.guards (estopOff (s.sensed false)) := by
  have hsensed : s.guards (s.sensed false) := estopLevel_guards (sensed_standing false s) (.inl rfl)
  refine guards_trans hsensed (guards_of_upholds ?_ hload)
  unfold estopOff
  split
  · let cleared : State := { s.sensed false with rc := { (s.sensed false).rc with
      lastNonclear := some (s.sensed false).time
      resumeTimer := (s.sensed false).timer (s.sensed false).cfg.params.resumeDelay } }
    have hcleared : (s.sensed false).upholds cleared := upholds_of_standing rfl
    exact upholds_trans hcleared (settle_upholds _)
  · exact upholds_of_standing (by simp [State.standing])
  · exact upholds_refl _

theorem senseEstop_guards {level : Bool} {act : State → State}
    (ha : s.isLoaded = true → s.guards (act (s.sensed level))) : s.guards (senseEstop level act s) := by
  by_cases hsame : s.lu.estop = level
  · rw [senseEstop_unchanged hsame]
    exact guards_refl s
  · cases hload : s.isLoaded with
    | false =>
      rw [senseEstop_unloaded hsame hload]
      exact estopLevel_guards (level := level) rfl (.inr (.inl hload))
    | true =>
      rw [senseEstop_loaded hsame hload]
      exact ha hload

/-! ### Loads and resets (R174 to R180) -/

/-- A part that is not loaded keeps ARC_PERMIT withdrawn, the release controller idle and no window live, whatever
becomes of its configuration. -/
theorem guards_of_unloaded (hload : s.isLoaded = false) (h : t.standing = { s.standing with cfg := t.cfg }) :
    s.guards t := by
  let loads : State := { s with cfg := t.cfg }
  have hidle (hs : s.releaseTable) : s.rc.release = .idle := by
    obtain ⟨-, -, hother⟩ := hs
    exact hother (.inl hload)
  have hfree (hs : s.stopSound) : s.rc.stopPending = false := by
    cases hstop : s.rc.stopPending with
    | false => rfl
    | true =>
      obtain ⟨hl, -⟩ := hs hstop
      cases hload.symm.trans hl
  refine ⟨fun hs => permitSafe_congr (s := loads) h
      (permitSafe_of_dark (show s.lu.arcPermit = false from dark_of_unburnt hs (.inl hload))),
    fun hs => releaseTable_congr (s := loads) h ?_,
    fun hs => stopSound_congr (s := loads) h (stopSound_of_free (hfree hs)),
    fun hs => liveSound_congr (s := loads) h ?_⟩
  · have hi := hidle hs
    obtain ⟨hpermit, hrow, -⟩ := hs
    exact ⟨hpermit, hrow, fun _ => hi⟩
  · obtain ⟨habsent, -⟩ := hs
    obtain ⟨hmode, hlive⟩ := habsent hload
    have hform : loads.formLive = .absent := by simp [State.formLive, loads, hmode]
    exact ⟨fun _ => ⟨hmode, hlive⟩, fun _ => hlive.trans hform.symm⟩

/-- Power-on and a RESTART leave a part that meets every invariant (R59, R174). -/
theorem guards_of_reset (hdark : t.lu.arcPermit = false) (hrel : t.rc.release = .idle) (hhead : t.rc.head = none)
    (hcur : t.rc.current = none) (hstop : t.rc.stopPending = false) (hlive : t.rc.live = .absent)
    (hmode : t.sp.mode = .offline) : s.guards t := by
  have hform : t.formLive = .absent := by simp [State.formLive, hmode]
  exact ⟨fun _ => permitSafe_of_dark hdark, fun _ => table_of_rest hdark hcur (by simp [hrel, hhead]) fun _ => hhead,
    fun _ => stopSound_of_free hstop, fun _ => ⟨fun _ => ⟨hmode, hlive⟩, fun _ => hlive.trans hform.symm⟩⟩

/-- A load reads its image, and ends in a fault or loads it (R175 to R180). -/
theorem transfer_guards (acked : Bool) (data : List Byte) (s : State) :
    s.guards (if s.cfg.load = .loading then (if acked then takeBytes data s else refuseTransfer s) else s) := by
  have hwritten {t : State} (hl : s.cfg.load = .loading) (h : t.standing = { s.standing with cfg := t.cfg }) :
      s.guards t := guards_of_unloaded (by simp [State.isLoaded, hl]) h
  split
  · rename_i hl
    split
    · unfold takeBytes
      dsimp only
      split
      · unfold judgeImage
        split
        · exact hwritten hl (by simp [endInFault, State.standing])
        · have hwear (r : Rc) (same : Bool) (limit : Nat) : (r.afterLoad same limit).release = r.release
              ∧ (r.afterLoad same limit).fault = r.fault ∧ (r.afterLoad same limit).head = r.head
              ∧ (r.afterLoad same limit).current = r.current ∧ (r.afterLoad same limit).stopPending = r.stopPending
              ∧ (r.afterLoad same limit).live = r.live := by
            cases same <;> simp [Rc.afterLoad]
          exact hwritten hl (by simp [succeed, hwear, State.standing])
        · exact hwritten hl (by simp [endInFault, State.standing])
      · exact hwritten hl rfl
    · unfold refuseTransfer
      split
      · exact hwritten hl (by simp [endInFault, State.standing])
      · exact hwritten hl rfl
  · exact guards_refl s

end

end Sys2Proof.Machine
end

section
/-! PROOF. The walk over every command for the permission to burn (R78, R99 to R101). -/

namespace Sys2Proof.Machine

section
variable {s t u : State}

theorem ite_guards {p : Prop} [Decidable p] (ht : p → s.guards t) (hu : s.guards u) :
    s.guards (if p then t else u) := by
  split
  · exact ht ‹_›
  · exact hu

/-- A timer ends after a good load alone (R174). -/
theorem loaded_of_expired {timer : Option Timer} (h : s.expired timer = true) : s.isLoaded = true := by
  simp only [State.expired, Bool.and_eq_true] at h
  exact h.1

theorem due_guards {timer : Option Timer} (ht : s.upholds t) : s.expired timer = true → s.guards t :=
  fun h => guards_of_upholds ht (loaded_of_expired h)

/-! ### Requests and telegrams (R37 to R40, R168) -/

theorem request_guards (length : Byte) (cut inFault : Bool) (code : RequestCode) {act : State → State × Answer}
    (ha : ∀ u : State, u.isLoaded = true ∨ inFault = true → u.guards (act u).1) (s : State) :
    s.guards (request length cut inFault code act s) := by
  rcases request_cases length cut inFault code act s with ⟨-, he⟩ | ⟨-, he⟩ | ⟨-, he⟩ | ⟨-, -, hl, he⟩ <;> rw [he]
  · exact guards_of_standing rfl
  · exact guards_of_standing rfl
  · exact guards_of_standing rfl
  · have hbegun : s.guards s.begun := guards_of_standing rfl
    have hanswered : (act s.begun).1.guards (takenRequest code act s) := guards_of_standing rfl
    exact guards_trans hbegun (guards_trans (ha s.begun (hl.imp id fun h => h.1)) hanswered)

theorem loadedRequest_guards (length : Byte) (cut : Bool) (code : RequestCode) {act : State → State × Answer}
    (ha : ∀ u : State, u.upholds (act u).1) (s : State) : s.guards (request length cut false code act s) :=
  request_guards _ _ _ code (fun u hl => guards_of_upholds (ha u) (by simpa using hl)) s

theorem judge_upholds {act : State → State × Answer} (checks : Option ResultCode)
    (ha : checks = none → s.upholds (act s).1) : s.upholds (judge checks act s).1 := by
  unfold judge
  split
  · exact upholds_refl s
  · exact ha rfl

theorem roleRequest_guards (f : WriteFrame) (code : RequestCode) (roleOk : Role → Bool)
    {act : State → State × Answer} (ha : ∀ u : State, roleOk u.role = true → u.upholds (act u).1) (s : State) :
    s.guards (roleRequest f code roleOk act s) := by
  refine loadedRequest_guards _ _ code (fun u => judge_upholds _ fun hnone => ha u ?_) s
  cases hr : roleOk u.role with
  | true => rfl
  | false => simp [firstOf, hr] at hnone

theorem receive_guards {deliver : State → State} (kind : Byte) (length : Option Nat) (g : Telegram)
    (hd : ∀ u : State, u.upholds (deliver u)) (s : State) : s.guards (receive kind length deliver g s) := by
  unfold receive
  cases hload : s.isLoaded with
  | false => exact guards_refl s
  | true =>
    have hreceived : s.upholds (countLink (fun c => { c with received := bump c.received }) s) :=
      upholds_of_standing rfl
    refine guards_of_upholds ?_ hload
    refine ite_upholds (upholds_refl s) (ite_upholds (upholds_refl s) (ite_upholds (upholds_of_standing rfl)
      (ite_upholds (upholds_of_standing rfl) (ite_upholds (upholds_of_standing ?_) (ite_upholds
      (upholds_of_standing rfl) (ite_upholds (upholds_of_standing rfl) (upholds_trans hreceived (hd _))))))))
    simp [State.standing]

theorem message_guards {ignore : State → State} {act : Message → State → State} (k : TelegramKind) (g : Telegram)
    (hi : ∀ u : State, u.upholds (ignore u)) (ha : ∀ m (u : State), u.upholds (act m u)) (s : State) :
    s.guards (receiveKind k (takeMessage k g ignore act) g s) := by
  refine receive_guards _ _ g (fun u => ?_) s
  unfold takeMessage
  split
  · exact ha _ u
  · exact hi u

theorem custody_guards {act : Message → State → State} (k : TelegramKind) (g : Telegram)
    (ha : ∀ m (u : State), u.upholds (act m u)) (s : State) : s.guards (receiveKind k (takeCustody k g act) g s) := by
  refine receive_guards _ _ g (fun u => ?_) s
  unfold takeCustody takeMessage
  split
  · split
    · exact ha _ u
    · exact upholds_of_standing rfl
  · exact upholds_of_standing rfl

/-! ### Commands -/

/-- What a command answers keeps the permission to burn safe where it is a next state. -/
def Guarded (s : State) : Host.Outcome State Fault Refusal → Prop
  | .next t => s.guards t
  | .fault _ => True
  | .refused _ => True

theorem ite_guarded {p : Prop} [Decidable p] (ht : p → s.guards t) (hu : s.guards u) :
    Guarded s (if p then .next t else .next u) := by
  split
  · exact ht ‹_›
  · exact hu

theorem agingStep_guarded (s : State) : Guarded s (execAgingStep s) := by
  unfold execAgingStep
  split
  · rename_i timer _
    refine ite_guarded (due_guards ?_) (guards_refl s)
    exact upholds_trans (peers_upholds { s.pt with agingTimer := some timer.again } s) (agingStep_upholds _)
  · exact guards_refl s

theorem beaconTimer_guarded (s : State) : Guarded s (execBeaconTimerExpiry s) := by
  unfold execBeaconTimerExpiry
  split
  · refine ite_guarded (fun _ => ?_) (guards_refl s)
    exact ite_guards (fun _ => guards_of_standing rfl) (guards_of_standing rfl)
  · exact guards_refl s

theorem startAttempt_standing (c : TxClass) (s : State) : (startAttempt c s).standing = s.standing := by
  unfold startAttempt
  split
  · rfl
  · split
    · split <;> rfl
    · rfl

theorem collide_standing (c : TxClass) (q : Queued) (rest : List Queued) (s : State) :
    (collide c q rest s).standing = s.standing := by
  unfold collide
  dsimp only
  split
  · simp [State.standing]
  · split
    · split <;> rfl
    · split
      · simp [State.standing]
      · rfl

theorem attemptStart_guarded (s : State) : Guarded s (execAttemptStart s) := by
  unfold execAttemptStart
  split
  · exact ite_guards (fun _ => guards_of_standing (startAttempt_standing ..)) (guards_refl s)
  · exact guards_refl s

theorem loaded_of_sending {a : Attempt} (h : s.sending = some a) : s.isLoaded = true := by
  unfold State.sending at h
  split at h
  · assumption
  · cases h

theorem restoreLink_upholds (s : State) : s.upholds (restoreLink s) := by
  let restored : State := raise .linkRestored (callUrgent (withFlc (fun f => { f with
    link := .normal
    collisionRun := 0
    probeTimer := none
    probePending := false }) s))
  have hrestored : s.upholds restored := upholds_of_standing (by simp [State.standing, restored])
  exact upholds_trans hrestored (settle_upholds _)

theorem probeClean_upholds (s : State) : s.upholds (probeClean s) := by
  unfold probeClean
  split
  · exact restoreLink_upholds s
  · exact restoreLink_upholds s
  · exact upholds_refl s
  · exact upholds_refl s

theorem attemptClean_guarded (s : State) : Guarded s (execAttemptClean s) := by
  unfold execAttemptClean
  split
  · exact guards_of_standing rfl
  · rename_i hsending
    have hended : s.upholds (countSent (endAttempt s)) := upholds_of_standing rfl
    exact guards_of_upholds (upholds_trans hended (probeClean_upholds _)) (loaded_of_sending hsending)
  · exact guards_refl s

theorem attemptCollided_guarded (s : State) : Guarded s (execAttemptCollided s) := by
  unfold execAttemptCollided
  split
  · split
    · exact guards_of_standing (collide_standing ..)
    · exact guards_of_standing rfl
  · exact guards_of_standing rfl
  · exact guards_refl s

theorem jabberLimit_guarded (s : State) : Guarded s (execJabberLimit s) := by
  unfold execJabberLimit
  split
  · exact guards_of_standing (by simp [State.standing])
  · exact guards_of_standing rfl
  · exact guards_refl s

theorem probeTimer_guarded (s : State) : Guarded s (execProbeTimerExpiry s) := by
  unfold execProbeTimerExpiry
  split
  · exact ite_guarded (fun _ => guards_of_standing rfl) (guards_refl s)
  · exact guards_refl s

/-- A fault of the copy that a timer finds in flight or broken (R86, R90). -/
theorem timedOut_guards (f : ReleaseFault) (a : Bool) (hload : s.isLoaded = true) (hrel : s.rc.release ≠ .idle)
    (h : t.standing = s.standing) : s.guards (enterFaulted f a t) := by
  refine guards_trans (guards_of_standing h) ?_
  have hload' : t.isLoaded = true := (isLoaded_of_cfg (congrArg Standing.cfg h)).trans hload
  have hrel' : t.rc.release ≠ .idle := fun hidle => hrel ((congrArg Standing.release h).symm.trans hidle)
  have hcfg : (enterFaulted f a t).cfg = t.cfg := by simp
  refine ⟨fun _ => permitSafe_of_dark (enterFaulted_dark ..), fun htable => ?_,
    fun _ => stopSound_of_free (enterFaulted_stop ..),
    fun _ => liveSound_of_announced ((isLoaded_of_cfg hcfg).trans hload') fun hrole =>
      enterFaulted_announced f a ((role_of_cfg hcfg).symm.trans hrole)⟩
  obtain ⟨-, -, hother⟩ := htable
  refine enterFaulted_table f a hload' ?_
  by_contra hrole
  exact hrel' (hother (.inr hrole))

theorem inFlightTimeout_guarded (s : State) : Guarded s (execInFlightTimeout s) := by
  unfold execInFlightTimeout
  split
  · rename_i c hrel _
    refine ite_guarded (fun h => timedOut_guards _ _ (loaded_of_expired h) (by simp [hrel]) ?_) (guards_refl s)
    simp [State.standing]
  · exact guards_refl s

theorem haltTimeout_guarded (s : State) : Guarded s (execHaltTimeout s) := by
  unfold execHaltTimeout
  split
  · rename_i c hrel _
    exact ite_guarded (fun h => timedOut_guards _ _ (loaded_of_expired h) (by simp [hrel]) rfl) (guards_refl s)
  · exact guards_refl s

theorem offerTimeout_guarded (n : Nat) (s : State) : Guarded s (execOfferTimeout n s) := by
  unfold execOfferTimeout
  split
  · exact ite_guarded (fun _ => guards_of_standing (by simp [State.standing])) (guards_refl s)
  · exact guards_refl s

theorem heldOfferExpiry_guarded (n : Nat) (s : State) : Guarded s (execHeldOfferExpiry n s) := by
  unfold execHeldOfferExpiry
  split
  · exact ite_guarded (fun _ => guards_of_standing rfl) (guards_refl s)
  · exact guards_refl s

theorem pendingTimeout_guarded (n : Nat) (s : State) : Guarded s (execPendingTimeout n s) := by
  unfold execPendingTimeout
  split
  · exact ite_guarded (fun _ => guards_of_standing (by simp [State.standing])) (guards_refl s)
  · exact guards_refl s

theorem bidWindowExpiry_guarded (n : Nat) (s : State) : Guarded s (execBidWindowExpiry n s) := by
  unfold execBidWindowExpiry
  split
  · exact ite_guarded (fun _ => guards_of_standing (by simp [State.standing])) (guards_refl s)
  · exact guards_refl s

theorem awardReplyTimeout_guarded (n : Nat) (s : State) : Guarded s (execAwardReplyTimeout n s) := by
  unfold execAwardReplyTimeout
  split
  · exact ite_guarded (fun _ => guards_of_standing (by simp [State.standing])) (guards_refl s)
  · exact guards_refl s

theorem cancelReplyTimeout_guarded (n : Nat) (s : State) : Guarded s (execCancelReplyTimeout n s) := by
  unfold execCancelReplyTimeout
  split
  · exact ite_guarded (fun _ => guards_of_standing (by simp [State.standing])) (guards_refl s)
  · exact guards_refl s

theorem clockReply_guards (clocked : Nat) (s : State) : s.guards (clockReply clocked s) := by
  refine guards_of_standing ?_
  unfold clockReply
  dsimp only
  split <;> rfl

theorem clockNotice_guards (clocked : Nat) (s : State) : s.guards (clockNotice clocked s) := by
  refine guards_of_standing ?_
  unfold clockNotice
  dsimp only
  split <;> rfl

theorem voidTransaction_guarded (operation : Byte) (s : State) : Guarded s (execVoidTransaction operation s) := by
  unfold execVoidTransaction
  split
  · exact guards_of_standing rfl
  · exact guards_of_standing rfl
  · exact clockReply_guards 0 s
  · exact clockNotice_guards 0 s

theorem restart_guarded (f : WriteFrame) (s : State) : Guarded s (execRestart f s) := by
  exact ite_guards (fun _ => guards_of_standing rfl) (guards_of_reset rfl rfl rfl rfl rfl rfl rfl)

theorem takeMoveFinish_upholds (hrole : s.role ≠ .cutter) : s.upholds (takeMoveFinish s).1 := by
  unfold takeMoveFinish
  split
  · split
    · exact finishMove_upholds _ _ hrole
    · exact upholds_refl s
  · exact upholds_refl s

/-- Each command is one row: what its operation leaves of the permission to burn. The operations of the stock table, the
search unit, the move unit and the port leave all of it as it stands. -/
theorem exec_guarded (i : Instr) (s : State) : Guarded s (exec i s) := by
  have hsame {u v : State} (h : v.standing = u.standing := by simp [State.standing]) : u.guards v :=
    guards_of_standing h
  have hkeeps {u v : State} (h : v.standing = u.standing := by simp [State.standing]) : u.upholds v :=
    upholds_of_standing h
  have hcutter {u : State} (h : cutterOnly u.role = true) : u.role = .cutter := by simpa [cutterOnly] using h
  have hcrane {u : State} (h : craneOnly u.role = true) : u.role ≠ .cutter := by simp_all [craneOnly]
  cases i with
  | powerOn => exact guards_of_reset rfl rfl rfl rfl rfl rfl rfl
  | timeBaseTick => exact hsame rfl
  | i2cTransferDone acked data => exact transfer_guards acked data s
  | agingStep => exact agingStep_guarded s
  | beaconTimerExpiry => exact beaconTimer_guarded s
  | urgentSpacingExpiry =>
    exact ite_guards (fun _ => ite_guards (fun _ => ite_guards (fun _ => hsame rfl) (hsame rfl)) (hsame rfl))
      (hsame rfl)
  | attemptStart => exact attemptStart_guarded s
  | attemptClean => exact attemptClean_guarded s
  | attemptCollided => exact attemptCollided_guarded s
  | backoffEnd => exact hsame rfl
  | jabberLimit => exact jabberLimit_guarded s
  | probeTimerExpiry => exact probeTimer_guarded s
  | probeStart => exact ite_guards (fun _ => ite_guards (fun _ => hsame rfl) (hsame rfl)) (hsame rfl)
  | telegramFramingError => exact ite_guards (fun _ => hsame rfl) (hsame rfl)
  | telegramOfUnknownKind kind g => exact receive_guards _ _ g upholds_refl s
  | beaconCutter g => exact receive_guards _ _ g (takeBeacon_upholds _ _ _ _) s
  | beaconCrane g => exact receive_guards _ _ g (takeBeacon_upholds _ _ _ _) s
  | beaconRack g => exact receive_guards _ _ g (takeBeacon_upholds _ _ _ _) s
  | custodyOffer g =>
    refine custody_guards _ g (fun m u => ?_) s
    cases m with
    | custodyOffer p => exact hkeeps
    | _ => exact hkeeps rfl
  | custodyAccept g =>
    refine custody_guards _ g (fun m u => ?_) s
    cases m with
    | custodyAccept i => exact takeAccept_upholds _ _ u
    | _ => exact hkeeps rfl
  | custodyRelease g =>
    refine custody_guards _ g (fun m u => ?_) s
    cases m with
    | custodyRelease i => exact hkeeps
    | _ => exact hkeeps rfl
  | custodyRefuse g =>
    refine custody_guards _ g (fun m u => ?_) s
    cases m with
    | custodyRefuse i r => exact takeRefusal_upholds _ _ _ u
    | _ => exact hkeeps rfl
  | stockQuery g =>
    refine message_guards _ g (fun _ => hkeeps) (fun m u => ?_) s
    cases m with
    | stockQuery n q => exact hkeeps
    | _ => exact hkeeps rfl
  | stockCandidate g =>
    refine message_guards _ g (fun _ => hkeeps) (fun m u => ?_) s
    cases m with
    | stockCandidate n c => exact hkeeps
    | _ => exact hkeeps rfl
  | reserve g =>
    refine message_guards _ g (fun _ => hkeeps) (fun m u => ?_) s
    cases m with
    | reserve n i r => exact hkeeps
    | _ => exact hkeeps rfl
  | reserveReply g =>
    refine message_guards _ g (fun _ => hkeeps) (fun m u => ?_) s
    cases m with
    | reserveReply n i r => exact hkeeps
    | _ => exact hkeeps rfl
  | unreserve g =>
    refine message_guards _ g (fun _ => hkeeps) (fun m u => ?_) s
    cases m with
    | unreserve i => exact hkeeps
    | _ => exact hkeeps rfl
  | moveCall g =>
    refine message_guards _ g (fun _ => hkeeps) (fun m u => ?_) s
    cases m with
    | moveCall tag call i => exact hkeeps
    | _ => exact hkeeps rfl
  | moveBid g =>
    refine message_guards _ g (fun _ => hkeeps) (fun m u => ?_) s
    cases m with
    | moveBid tag call bid => exact hkeeps
    | _ => exact hkeeps rfl
  | moveAward g =>
    refine message_guards _ g (fun _ => hkeeps) (fun m u => ?_) s
    cases m with
    | moveAward tag i => exact hkeeps
    | _ => exact hkeeps rfl
  | awardReply g =>
    refine message_guards _ g (fun _ => hkeeps) (fun m u => ?_) s
    cases m with
    | awardReply tag taken => exact hkeeps
    | _ => exact hkeeps rfl
  | moveRevoke g =>
    refine message_guards _ g (fun _ => hkeeps) (fun m u => ?_) s
    cases m with
    | moveRevoke tag => exact hkeeps
    | _ => exact hkeeps rfl
  | revokeReply g =>
    refine message_guards _ g (fun _ => hkeeps) (fun m u => ?_) s
    cases m with
    | revokeReply tag late => exact hkeeps
    | _ => exact hkeeps rfl
  | moveStarted g =>
    refine message_guards _ g (fun _ => hkeeps) (fun m u => ?_) s
    cases m with
    | moveStarted tag => exact hkeeps
    | _ => exact hkeeps rfl
  | moveReturn g =>
    refine message_guards _ g (fun _ => hkeeps) (fun m u => ?_) s
    cases m with
    | moveReturn tag => exact hkeeps
    | _ => exact hkeeps rfl
  | moveDone g =>
    refine message_guards _ g (fun _ => hkeeps) (fun m u => ?_) s
    cases m with
    | moveDone tag carried taker => exact hkeeps
    | _ => exact hkeeps rfl
  | estopAsserted => exact senseEstop_guards estopOn_guards
  | estopReleased => exact senseEstop_guards estopOff_guards
  | loadAttachedRises =>
    have hrises : (loadRises { s with lu := { s.lu with loadAttached := true } }).standing = s.standing := by
      simp [State.standing]
    exact ite_guards (fun _ => hsame rfl) (ite_guards (fun _ => hsame hrises) (hsame rfl))
  | loadAttachedFalls =>
    have hfalls : (loadFalls { s with lu := { s.lu with loadAttached := false } }).standing = s.standing := by
      simp [State.standing]
    exact ite_guards (fun _ => hsame rfl) (ite_guards (fun _ => hsame hfalls) (hsame rfl))
  | inFlightTimeout => exact inFlightTimeout_guarded s
  | haltTimeout => exact haltTimeout_guarded s
  | resumeTimerExpiry =>
    have hstopped : s.upholds { s with rc := { s.rc with resumeTimer := none } } := hkeeps rfl
    exact ite_guards (due_guards (upholds_trans hstopped (settle_upholds _))) (guards_refl s)
  | offerTimeout n => exact offerTimeout_guarded n s
  | heldOfferExpiry n => exact heldOfferExpiry_guarded n s
  | pendingTimeout n => exact pendingTimeout_guarded n s
  | queryWindowExpiry => exact ite_guards (fun _ => hsame) (guards_refl s)
  | reserveTimerExpiry => exact ite_guards (fun _ => hsame) (guards_refl s)
  | bidWindowExpiry n => exact bidWindowExpiry_guarded n s
  | awardReplyTimeout n => exact awardReplyTimeout_guarded n s
  | cancelReplyTimeout n => exact cancelReplyTimeout_guarded n s
  | segment w => exact loadedRequest_guards _ _ _ (takeSegment_upholds _) s
  | flush f => exact roleRequest_guards f _ _ (fun _ h => flushQueue_upholds _ (hcutter h)) s
  | resync f target => exact roleRequest_guards f _ _ (fun _ h => flushQueue_upholds _ (hcutter h)) s
  | segmentDone f seq k ms => exact roleRequest_guards f _ _ (fun _ h => takeDoneReport_upholds _ _ _ (hcutter h)) s
  | segmentAborted f seq k ms => exact roleRequest_guards f _ _ (fun _ h => takeAbort_upholds _ _ _ (hcutter h)) s
  | segmentHalted f seq k ms => exact roleRequest_guards f _ _ (fun u _ => takeHalt_upholds _ _ _ u) s
  | continueRequest f => exact roleRequest_guards f _ _ (fun _ h => takeContinue_upholds (hcutter h)) s
  | wearRestore f pierces ms => exact roleRequest_guards f _ _ (fun u _ => takeWearRestore_upholds _ _ u) s
  | consumableChanged f => exact roleRequest_guards f _ _ (fun u _ => takeConsumable_upholds u) s
  | declareStock f record location slot => exact loadedRequest_guards _ _ _ (fun _ => hkeeps) s
  | handOff f i taker => exact loadedRequest_guards _ _ _ (fun _ => hkeeps) s
  | confirmCustody f i => exact loadedRequest_guards _ _ _ (fun _ => hkeeps) s
  | bedLoaded f i => exact loadedRequest_guards _ _ _ (fun _ => judge_upholds _ fun _ => hkeeps) s
  | placed f i slot => exact loadedRequest_guards _ _ _ (fun _ => judge_upholds _ fun _ => hkeeps) s
  | lockSlot f slot => exact roleRequest_guards f _ _ (fun _ _ => hkeeps) s
  | unlockSlot f slot => exact roleRequest_guards f _ _ (fun _ _ => hkeeps) s
  | queryStock f q => exact loadedRequest_guards _ _ _ (fun _ => hkeeps) s
  | cancelQuery f => exact roleRequest_guards f _ _ (fun _ _ => hkeeps) s
  | moveRequest f m => exact loadedRequest_guards _ _ _ (fun _ => hkeeps) s
  | cancelMove f tag => exact roleRequest_guards f _ _ (fun _ _ => hkeeps) s
  | moveFinish f => exact roleRequest_guards f _ _ (fun _ h => takeMoveFinish_upholds (hcrane h)) s
  | position f v => exact roleRequest_guards f _ _ (fun _ _ => hkeeps) s
  | setMode f target => exact loadedRequest_guards _ _ _ (judgeSetMode_upholds _ _) s
  | status f => exact request_guards _ _ _ _ (fun _ _ => hsame) s
  | readTable f table i => exact loadedRequest_guards _ _ _ (fun _ => hkeeps) s
  | restart f => exact restart_guarded f s
  | unknownRequest f code => exact loadedRequest_guards _ _ _ upholds_refl s
  | readReply clocked => exact clockReply_guards clocked s
  | readNotice clocked => exact clockNotice_guards clocked s
  | voidTransaction operation => exact voidTransaction_guarded operation s

/-- A step idles, or takes the front command (log 2). -/
theorem step_guards (h : step s = .next t) : s.guards t := by
  unfold step at h
  split at h
  · rename_i c rest _
    have hexec := exec_guarded c { s with pending := rest }
    rw [h] at hexec
    have hfront : s.guards { s with pending := rest } := guards_of_standing rfl
    exact guards_trans hfront hexec
  · cases h
    exact guards_refl s

end

/-- Settles O10: of all commands only a release asserts ARC_PERMIT, and what ends its conditions withdraws it. -/
theorem arcPermitStaysSafe : Obligations.ArcPermitStaysSafe := fun _ _ h hstep => (step_guards hstep).permit h

end Sys2Proof.Machine
end

section
/-! PROOF. The live window is the smallest rectangle that contains the windows of the current and the next copy, with
the higher of their classes (R100). -/

namespace Sys2Proof.Machine

/-- A rectangle lies in another, each bound by itself. -/
def Rect.liesIn (a b : Rect) : Prop := b.xlo ≤ a.xlo ∧ a.xhi ≤ b.xhi ∧ b.ylo ≤ a.ylo ∧ a.yhi ≤ b.yhi

theorem liesIn_iff (a b : Rect) : a.liesIn b ↔ a.within b := and_assoc.symm

theorem liesIn_refl (a : Rect) : a.liesIn a := ⟨le_refl _, le_refl _, le_refl _, le_refl _⟩

theorem liesIn_join_left (a b : Rect) : a.liesIn (a.join b) := (liesIn_iff ..).2 (Rect.within_join a b)

theorem liesIn_join_right (a b : Rect) : b.liesIn (a.join b) :=
  ⟨min_le_right _ _, le_max_right _ _, min_le_right _ _, le_max_right _ _⟩

theorem join_liesIn {a b r : Rect} (ha : a.liesIn r) (hb : b.liesIn r) : (a.join b).liesIn r := by
  obtain ⟨haxl, haxh, hayl, hayh⟩ := ha
  obtain ⟨hbxl, hbxh, hbyl, hbyh⟩ := hb
  exact ⟨le_min haxl hbxl, max_le haxh hbxh, le_min hayl hbyl, max_le hayh hbyh⟩

theorem rank_le_higher_left (f g : FumeClass) : f.rank ≤ (f.higher g).rank := by
  unfold FumeClass.higher
  split
  · assumption
  · exact le_refl _

theorem rank_le_higher_right (f g : FumeClass) : g.rank ≤ (f.higher g).rank := by
  unfold FumeClass.higher
  split
  · exact le_refl _
  · omega

theorem higher_eq (f g : FumeClass) : f.higher g = f ∨ f.higher g = g := by
  unfold FumeClass.higher
  split
  · exact .inr rfl
  · exact .inl rfl

/-- A live window spans copies' windows with their classes: it contains each, and is the smallest that does; its class
is the highest of theirs (R100). -/
def LiveWindow.spans (l : LiveWindow) (has : Rect × FumeClass → Prop) : Prop :=
  ∀ x, has x → ∃ w, l.window = some w ∧ x.1.liesIn w ∧ x.2.rank ≤ l.fume.rank ∧ (∃ y, has y ∧ y.2 = l.fume)
    ∧ ∀ r, (∀ y, has y → y.1.liesIn r) → w.liesIn r

theorem spans_one (a : Rect × FumeClass) : LiveWindow.spans ⟨some a.1, a.2⟩ (fun x => x = a) := by
  rintro x rfl
  exact ⟨x.1, rfl, liesIn_refl _, le_refl _, ⟨x, rfl, rfl⟩, fun r h => h x rfl⟩

theorem spans_two (a b : Rect × FumeClass) :
    LiveWindow.spans ⟨some (a.1.join b.1), a.2.higher b.2⟩ (fun x => x = a ∨ x = b) := by
  intro x hx
  have hfume : ∃ y, (y = a ∨ y = b) ∧ y.2 = a.2.higher b.2 := by
    rcases higher_eq a.2 b.2 with h | h
    · exact ⟨a, .inl rfl, h.symm⟩
    · exact ⟨b, .inr rfl, h.symm⟩
  refine ⟨_, rfl, ?_, ?_, hfume, fun r h => join_liesIn (h a (.inl rfl)) (h b (.inr rfl))⟩
  · rcases hx with rfl | rfl
    · exact liesIn_join_left _ _
    · exact liesIn_join_right _ _
  · rcases hx with rfl | rfl
    · exact rank_le_higher_left _ _
    · exact rank_le_higher_right _ _

section
variable {s : State}

/-- The window of the current copy, or of the next one (R100). -/
def State.arcWindow (s : State) (x : Rect × FumeClass) : Prop :=
  s.rc.current.bind (fun c => c.copy.hallWindow s.cfg.params) = some x
    ∨ s.liveNext.bind (fun c => c.hallWindow s.cfg.params) = some x

theorem formLive_absent (h : s.sp.mode ≠ .run ∨ ∀ x, ¬ s.arcWindow x) : s.formLive = .absent := by
  unfold State.formLive
  split
  · rename_i hmode
    have hnone := h.resolve_left (not_not_intro hmode)
    split
    · rename_i a b ha hb
      exact absurd (.inl ha) (hnone a)
    · rename_i a ha hb
      exact absurd (.inl ha) (hnone a)
    · rename_i b ha hb
      exact absurd (.inr hb) (hnone b)
    · rfl
  · rfl

theorem formLive_spans (hmode : s.sp.mode = .run) : s.formLive.spans s.arcWindow := by
  have hwindows {has : Rect × FumeClass → Prop} {l : LiveWindow} (hl : l.spans has) (h : ∀ x, s.arcWindow x ↔ has x) :
      l.spans s.arcWindow := by rwa [show s.arcWindow = has from funext fun x => propext (h x)]
  unfold State.formLive
  rw [if_pos hmode]
  split
  · rename_i a b ha hb
    exact hwindows (spans_two a b) fun x => by simp [State.arcWindow, ha, hb, eq_comm]
  · rename_i a ha hb
    exact hwindows (spans_one a) fun x => by simp [State.arcWindow, ha, hb, eq_comm]
  · rename_i b ha hb
    exact hwindows (spans_one b) fun x => by simp [State.arcWindow, ha, hb, eq_comm]
  · rename_i ha hb
    rintro x (h | h)
    · cases ha.symm.trans h
    · cases hb.symm.trans h

end

/-- Settles O18: a step keeps what it finds, and the live window is formed of the copies' windows. -/
theorem releaseTableHolds : Obligations.ReleaseTableHolds :=
  ⟨fun _ _ h hstep => (step_guards hstep).table h, fun _ _ h hstep => (step_guards hstep).stop h,
    fun _ _ h hstep => (step_guards hstep).live h, fun _ => ⟨formLive_absent, formLive_spans⟩⟩

end Sys2Proof.Machine
end

section
/-! PROOF. The reports on the current copy, CONTINUE and the wear (R86 to R96). -/

namespace Sys2Proof.Machine

section
variable {s : State} {f : WriteFrame} {seq : Seq} {k ms : Nat} {c : Current}

/-! ### Which copy a report names (R87, R88, R90) -/

theorem named_eq_false (h : c.copy.seq ≠ seq ∨ c.copy.k ≠ k) : c.named seq k = false := by
  simpa [Current.named, imp_iff_not_or] using h

/-- A report that names no current copy, in flight or broken, is for no copy (R87, R88, R90). -/
theorem reported_none (h : (s.rc.release ≠ .inFlight ∧ s.rc.release ≠ .broken)
      ∨ (∀ c, s.rc.current = some c → c.copy.seq ≠ seq ∨ c.copy.k ≠ k)) :
    s.doneCopy seq k = none ∧ s.abortedCopy seq k = none ∧ s.haltedCopy seq k = none := by
  have hnamed (c : Current) (hrel : s.rc.release = .inFlight ∨ s.rc.release = .broken)
      (hcur : s.rc.current = some c) : c.named seq k = false := by
    rcases h with ⟨hflies, hbroken⟩ | h
    · exact absurd hrel (by simp [hflies, hbroken])
    · exact named_eq_false (h c hcur)
  refine ⟨?_, ?_, ?_⟩
  · unfold State.doneCopy
    split
    · simp [hnamed _ (.inl ‹_›) ‹_›]
    · simp [hnamed _ (.inr ‹_›) ‹_›]
    · rfl
  · unfold State.abortedCopy
    split
    · simp [hnamed _ (.inl ‹_›) ‹_›]
    · simp [hnamed _ (.inr ‹_›) ‹_›]
    · rfl
  · unfold State.haltedCopy
    split
    · simp [hnamed _ (.inr ‹_›) ‹_›]
    · rfl

/-- A broken copy that has been halted waits to go again, and is reported no more (R87, R90, R91). -/
theorem reported_halted (hrel : s.rc.release = .broken) (h : ∀ c, s.rc.current = some c → c.halted = true) :
    s.doneCopy seq k = none ∧ s.haltedCopy seq k = none := by
  constructor
  · unfold State.doneCopy
    split
    · simp_all
    · simp [h _ ‹_›]
    · rfl
  · unfold State.haltedCopy
    split
    · simp [h _ ‹_›]
    · rfl

theorem haltedCopy_unbroken (hrel : s.rc.release ≠ .broken) : s.haltedCopy seq k = none := by
  unfold State.haltedCopy
  split
  · exact absurd ‹_› hrel
  · rfl

/-! ### Reports that are refused (R87, R88, R90) -/

theorem exec_segmentDone_refused (htakes : s.takes f) (hrole : s.role = .cutter) (h : s.doneCopy seq k = none) :
    exec (.segmentDone f seq k ms) s = .next (s.replied .segmentDone .notInFlight .none s.begun) := by
  refine congrArg Host.Outcome.next (cutterRequest_takes htakes hrole ?_)
  simp only [takeDoneReport, show s.begun.doneCopy seq k = none from h]
  rfl

theorem exec_segmentAborted_refused (htakes : s.takes f) (hrole : s.role = .cutter)
    (h : s.abortedCopy seq k = none) :
    exec (.segmentAborted f seq k ms) s = .next (s.replied .segmentAborted .notInFlight .none s.begun) := by
  refine congrArg Host.Outcome.next (cutterRequest_takes htakes hrole ?_)
  simp only [takeAbort, show s.begun.abortedCopy seq k = none from h]
  rfl

theorem exec_segmentHalted_refused (htakes : s.takes f) (hrole : s.role = .cutter)
    (h : s.haltedCopy seq k = none) :
    exec (.segmentHalted f seq k ms) s = .next (s.replied .segmentHalted .notInFlight .none s.begun) := by
  refine congrArg Host.Outcome.next (cutterRequest_takes htakes hrole ?_)
  simp only [takeHalt, show s.begun.haltedCopy seq k = none from h]
  rfl

/-! ### A halted copy that waits (R82, R90) -/

/-- ESTOP, a pending stop and, for an arc copy, an intrusion hold a copy back (R80, R81). -/
theorem mayRelease_held {content : SegContent} (again : Bool)
    (h : s.lu.estop = true ∨ s.rc.stopPending = true ∨ (content.isArc = true ∧ s.env.station ≠ .clear)) :
    s.mayRelease content again = false := by
  rcases h with h | h | ⟨harc, h⟩ <;> simp_all [State.mayRelease]

/-- The arc time that a report adds to the wear is no cause for release (R95). -/
theorem takeHalt_waits (hhalted : s.haltedCopy seq k = some c)
    (h : s.lu.estop = true ∨ s.rc.stopPending = true ∨ (c.copy.content.isArc = true ∧ s.env.station ≠ .clear)) :
    let u := if c.copy.content.isArc then addArc ms s else s
    takeHalt seq k ms s
      = ({ u with rc := { u.rc with current := some { c with halted := true }, haltTimer := none } }, .ok, .none) := by
  intro u
  have hrel : u.rc.release = s.rc.release ∧ u.rc.stopPending = s.rc.stopPending ∧ u.lu = s.lu ∧ u.env = s.env := by
    simp only [u]
    split
    · obtain ⟨_, he, -⟩ := addArc_writes ms s
      rw [he]
      exact ⟨rfl, rfl, rfl, rfl⟩
    · exact ⟨rfl, rfl, rfl, rfl⟩
  obtain ⟨hrel, hstop, hlu, henv⟩ := hrel
  obtain ⟨hbroken, -⟩ := haltedCopy_current hhalted
  have hwaits : settle { u with rc := { u.rc with current := some { c with halted := true }, haltTimer := none } }
      = { u with rc := { u.rc with current := some { c with halted := true }, haltTimer := none } } := by
    refine settle_waits fun d again hd => ?_
    simp only [Rc.waiting, hrel, hbroken, Option.map_some, Option.some.injEq, Prod.mk.injEq] at hd
    obtain ⟨rfl, -⟩ := hd
    refine mayRelease_held again ?_
    simpa [hlu, hstop, henv] using h
  simp only [takeHalt, hhalted]
  exact congrArg (fun v => (v, ResultCode.ok, ReplyData.none)) hwaits

end

/-- Settles O37: each report looks for one copy, and without it is refused; a halted copy that is held is judged and
waits. -/
theorem reportsMustNameTheCopy : Obligations.ReportsMustNameTheCopy := by
  unfold Obligations.ReportsMustNameTheCopy
  refine ⟨fun s f seq k ms htakes hrole => ⟨fun h => ?_, fun hrel h => ?_, fun hrel => ?_⟩,
    fun s f seq k ms c htakes hrole hhalted h => ?_, fun s f seq k ms htakes hrole => ?_⟩
  · obtain ⟨hdone, haborted, hhalted⟩ := reported_none h
    exact ⟨exec_segmentDone_refused htakes hrole hdone, exec_segmentAborted_refused htakes hrole haborted,
      exec_segmentHalted_refused htakes hrole hhalted⟩
  · obtain ⟨hdone, hhalted⟩ := reported_halted hrel h
    exact ⟨exec_segmentDone_refused htakes hrole hdone, exec_segmentHalted_refused htakes hrole hhalted⟩
  · exact exec_segmentHalted_refused htakes hrole (haltedCopy_unbroken hrel)
  · exact congrArg Host.Outcome.next
      (cutterRequest_takes htakes hrole (takeHalt_waits (s := s.begun) (seq := seq) (k := k) hhalted h))
  · exact ⟨congrArg _ (cutterRequest_refused htakes hrole), congrArg _ (cutterRequest_refused htakes hrole),
      congrArg _ (cutterRequest_refused htakes hrole)⟩

end Sys2Proof.Machine
end

section
/-! PROOF. The wear of the consumables (R95, R96). -/

namespace Sys2Proof.Machine

section
variable {s : State} {f : WriteFrame}

/-- Arc time that reaches the limit from below is reported (R95). -/
theorem addArc_reaches {ms : Nat} (hbelow : s.rc.arcMs < s.cfg.params.arcLimit * 1000)
    (hreached : s.cfg.params.arcLimit * 1000 ≤ min (s.rc.arcMs + ms) 4294967295) :
    addArc ms s = raise (.wearLimit .arc) { s with rc := { s.rc with arcMs := min (s.rc.arcMs + ms) 4294967295 } } :=
  if_pos ⟨hbelow, hreached⟩

theorem addArc_below {ms : Nat} (h : s.cfg.params.arcLimit * 1000 ≤ s.rc.arcMs
      ∨ min (s.rc.arcMs + ms) 4294967295 < s.cfg.params.arcLimit * 1000) :
    addArc ms s = { s with rc := { s.rc with arcMs := min (s.rc.arcMs + ms) 4294967295 } } :=
  if_neg fun hn => by omega

/-! ### WEAR_RESTORE (R96) -/

theorem takeWearRestore_known {pierces ms : Nat} (h : s.rc.wearKnown = true) :
    takeWearRestore pierces ms s = (s, .wearKnown, .none) := if_pos h

/-- Outside RUN no copy is judged after the wear is set. -/
theorem takeWearRestore_unknown {pierces ms : Nat} (h : s.rc.wearKnown = false) (hmode : s.sp.mode ≠ .run) :
    let limit := s.cfg.params.pierceLimit
    let u : State := { s with rc := { s.rc with pierces := min pierces limit, wearKnown := true } }
    takeWearRestore pierces ms s
      = (addArc ms (if limit ≤ pierces then raise (.wearLimit .pierce) u else u), .ok, .none) := by
  intro limit u
  have hraised : (if limit ≤ pierces then raise (.wearLimit .pierce) u else u).sp.mode = s.sp.mode := by
    split <;> simp [u]
  have hsettled : settle (addArc ms (if limit ≤ pierces then raise (.wearLimit .pierce) u else u))
      = addArc ms (if limit ≤ pierces then raise (.wearLimit .pierce) u else u) := by
    obtain ⟨sp, he, hsp, -⟩ := addArc_writes ms (if limit ≤ pierces then raise (.wearLimit .pierce) u else u)
    refine settle_notRun ?_
    rw [he]
    exact fun hrun => hmode (hraised.symm.trans (hsp.symm.trans hrun))
  have hunknown : ¬ s.rc.wearKnown = true := by simp [h]
  exact (if_neg hunknown).trans (congrArg (fun v => (v, ResultCode.ok, ReplyData.none)) hsettled)

/-! ### CONSUMABLE_CHANGED (R96) -/

theorem consumableBusy_iff : s.consumableBusy = true
    ↔ s.rc.release = .inFlight ∨ (s.rc.release = .broken ∧ ∃ c, s.rc.current = some c ∧ c.halted = false) := by
  simp [State.consumableBusy, Option.any_eq_true]

theorem takeConsumable_busy
    (h : s.rc.release = .inFlight ∨ (s.rc.release = .broken ∧ ∃ c, s.rc.current = some c ∧ c.halted = false)) :
    takeConsumable s = (s, .busy, .none) := if_pos (consumableBusy_iff.2 h)

theorem takeConsumable_clears (hflies : s.rc.release ≠ .inFlight)
    (hhalted : s.rc.release = .broken → ∀ c, s.rc.current = some c → c.halted = true) (hmode : s.sp.mode ≠ .run) :
    takeConsumable s = ({ s with rc := { s.rc with pierces := 0, arcMs := 0, wearKnown := true } }, .ok, .none) := by
  have hidle : ¬ s.consumableBusy = true := by
    rw [consumableBusy_iff]
    rintro (h | ⟨hbroken, c, hcur, hc⟩)
    · exact hflies h
    · cases hc.symm.trans (hhalted hbroken c hcur)
  have hsettled := settle_notRun (s := { s with rc := { s.rc with pierces := 0, arcMs := 0, wearKnown := true } }) hmode
  exact (if_neg hidle).trans (congrArg (fun v => (v, ResultCode.ok, ReplyData.none)) hsettled)

end

/-- Settles O39: arc time is compared with the limit before and after, and outside RUN nothing is judged. -/
theorem wearIsCountedRestoredAndCleared : Obligations.WearIsCountedRestoredAndCleared := by
  unfold Obligations.WearIsCountedRestoredAndCleared
  refine ⟨fun ms s => ⟨addArc_reaches, addArc_below⟩, fun s f pierces ms htakes hrole => ⟨fun h => ?_,
    fun h hmode => ?_, fun h => ?_, fun hflies hhalted hmode => ?_⟩, fun s f pierces ms htakes hrole => ?_⟩
  · exact congrArg _ (cutterRequest_takes htakes hrole (takeWearRestore_known (s := s.begun) h))
  · exact congrArg _ (cutterRequest_takes htakes hrole (takeWearRestore_unknown (s := s.begun) h hmode))
  · exact congrArg _ (cutterRequest_takes htakes hrole (takeConsumable_busy (s := s.begun) h))
  · exact congrArg _ (cutterRequest_takes htakes hrole (takeConsumable_clears (s := s.begun) hflies hhalted hmode))
  · exact ⟨congrArg _ (cutterRequest_refused htakes hrole), congrArg _ (cutterRequest_refused htakes hrole)⟩

end Sys2Proof.Machine
end

section
/-! PROOF. What faults the release controller, and how CONTINUE leaves FAULTED (R86, R88, R90, R92, R93). -/

namespace Sys2Proof.Machine

section
variable {s w : State} {f : WriteFrame} {seq : Seq} {k ms : Nat} {c : Current}

/-! ### SEGMENT_ABORTED and the timeouts (R86, R88, R90, R92) -/

/-- An abort writes the mark log alone: only a DONE entry marks its remnant (R112, R113). -/
theorem logMark_aborted (c : Current) (s : State) :
    logMark c .aborted s = { s with lc := s.lc.entered c .aborted } := by
  rcases c with ⟨⟨seq, content, k, copies, window⟩, cause, before, halted, flushed, legend⟩
  cases content with
  | mark tool w budget template target part =>
    cases legend with
    | none => rfl
    | some g => cases tool <;> rfl
  | _ => rfl

/-- The copy that a report of an abort names is the current one, in flight or broken (R88). -/
theorem abortedCopy_named (h : s.abortedCopy seq k = some c) : c.copy.seq = seq ∧ c.copy.k = k := by
  have hnamed : c.named seq k = true := by
    unfold State.abortedCopy at h
    split at h
    · split at h <;> cases h
      assumption
    · split at h <;> cases h
      assumption
    · cases h
  simpa [Current.named] using hnamed

/-- A notice that finds room joins the others at their end (R170). -/
theorem raise_notices {d : NoticeData} (h : s.sp.notices.length < 32) :
    (raise d s).sp.notices = s.sp.notices ++ [⟨s.time, d⟩] := by
  rcases raise_cases d s with ⟨-, he⟩ | ⟨hfull, -⟩
  · rw [he]
  · omega

/-- Where an abort leaves the part before the fault is entered (R88, R95, R112). -/
theorem abort_writes (c : Current) (ms : Nat) (s : State) :
    ∃ sp, logMark c .aborted (if c.copy.content.isArc then addArc ms s else s) = { s with
        sp := sp
        lc := s.lc.entered c .aborted
        rc := { s.rc with
          arcMs := if c.copy.content.isArc then min (s.rc.arcMs + ms) 4294967295 else s.rc.arcMs } }
      ∧ sp.front = s.sp.front ∧ sp.notices.length ≤ s.sp.notices.length + 1 := by
  rw [logMark_aborted]
  by_cases harc : c.copy.content.isArc = true
  · simp only [if_pos harc]
    obtain ⟨sp, he, -, hfront, hlength⟩ := addArc_writes ms s
    rw [he]
    exact ⟨sp, rfl, hfront, hlength⟩
  · simp only [if_neg harc]
    exact ⟨s.sp, rfl, rfl, Nat.le_succ _⟩

theorem exec_segmentAborted_takes (htakes : s.takes f) (hrole : s.role = .cutter)
    (haborted : s.abortedCopy seq k = some c) :
    exec (.segmentAborted f seq k ms) s = .next (s.replied .segmentAborted .ok .none
      (enterFaulted (c.fault .controllerAbort) s.lu.arcPermit
        (logMark c .aborted (if c.copy.content.isArc then addArc ms s.begun else s.begun)))) := by
  refine congrArg Host.Outcome.next (cutterRequest_takes htakes hrole ?_)
  simp only [takeAbort, show s.begun.abortedCopy seq k = some c from haborted]
  rfl

theorem exec_inFlightTimeout_faults (hrel : s.rc.release = .inFlight) (hcur : s.rc.current = some c)
    (hdue : s.expired s.rc.flightTimer = true) :
    exec .inFlightTimeout s
      = .next (enterFaulted (c.fault .inFlightTimeout) s.lu.arcPermit (logMark c .aborted s)) := by
  change execInFlightTimeout s = _
  simp only [execInFlightTimeout, hrel, hcur, hdue, if_true]

theorem exec_haltTimeout_faults (hrel : s.rc.release = .broken) (hcur : s.rc.current = some c)
    (hdue : s.expired s.rc.haltTimer = true) :
    exec .haltTimeout s = .next (enterFaulted (c.fault .haltTimeout) s.lu.arcPermit s) := by
  change execHaltTimeout s = _
  simp only [execHaltTimeout, hrel, hcur, hdue, if_true]

end

/-- Settles O36: each way to FAULTED is one entry of a fault, after an abort's and an overdue copy's entry in the mark
log. -/
theorem abortsAndTimeoutsFaultTheCopy : Obligations.AbortsAndTimeoutsFaultTheCopy := by
  unfold Obligations.AbortsAndTimeoutsFaultTheCopy
  refine ⟨fun s f seq k ms c htakes hrole haborted hstop => ?_, fun s c hrole hcur hstop =>
    ⟨fun hrel hdue => ?_, fun hrel hdue => ?_⟩⟩
  · obtain ⟨rfl, rfl⟩ := abortedCopy_named haborted
    obtain ⟨sp, hwrites, hfront, hlength⟩ := abort_writes c ms s.begun
    let w : State := { s.begun with
      sp := sp
      lc := s.lc.entered c .aborted
      rc := { s.rc with
        arcMs := if c.copy.content.isArc then min (s.rc.arcMs + ms) 4294967295 else s.rc.arcMs } }
    obtain ⟨_, _, _, _, _, _, he⟩ :=
      enterFaulted_observes (w := w) (c.fault .controllerAbort) s.lu.arcPermit hrole hstop
    have hexec := exec_segmentAborted_takes (ms := ms) htakes hrole haborted
    rw [show logMark c .aborted (if c.copy.content.isArc then addArc ms s.begun else s.begun) = w from hwrites, he]
      at hexec
    refine ⟨_, hexec, rfl, rfl, rfl, rfl, rfl, rfl, rfl, rfl, fun hroom => ?_, ?_, rfl, rfl, rfl, rfl, rfl, rfl⟩
    · have hbegun : s.begun.sp.notices.length = s.sp.notices.length := rfl
      have hraised : w.sp.notices.length < 32 := show sp.notices.length < 32 by omega
      have hnotices := raise_notices (d := .releaseFaulted .controllerAbort c.copy.seq c.copy.k c.flushed) hraised
      exact hnotices ▸ List.mem_append_right _ (List.mem_singleton.2 rfl)
    · have hbuffer : (raise (.releaseFaulted .controllerAbort c.copy.seq c.copy.k c.flushed) w).sp.buffer
          = s.sp.buffer := by
        refine (buffer_of_front (p := sp) ?_).trans (buffer_of_front (p := s.begun.sp) hfront)
        simp [w]
      exact congrArg (fun l => l ++ [(⟨s.sp.number, .segmentAborted, .ok, .none⟩ : Reply)]) hbuffer
  · have hexec := exec_inFlightTimeout_faults hrel hcur hdue
    rw [logMark_aborted] at hexec
    obtain ⟨_, _, _, _, _, _, he⟩ := enterFaulted_observes (w := { s with lc := s.lc.entered c .aborted })
      (c.fault .inFlightTimeout) s.lu.arcPermit hrole hstop
    rw [he] at hexec
    exact ⟨_, hexec, rfl, rfl, rfl, rfl, rfl, rfl, rfl, rfl, rfl, rfl, rfl, rfl, rfl, rfl⟩
  · have hexec := exec_haltTimeout_faults hrel hcur hdue
    obtain ⟨_, _, _, _, _, _, he⟩ :=
      enterFaulted_observes (c.fault .haltTimeout) s.lu.arcPermit hrole hstop
    rw [he] at hexec
    exact ⟨_, hexec, rfl, rfl, rfl, rfl, rfl, rfl, rfl, rfl, rfl, rfl, rfl, rfl, rfl, rfl⟩

section
variable {s t : State}

/-! ### CONTINUE (R93) -/

/-- The part once CONTINUE has discarded the faulted copy's record (R93). -/
def State.continued (s : State) : State :=
  { discardFaulted s with rc := { (discardFaulted s).rc with
    fault := none
    release := if (discardFaulted s).rc.head.isSome then .waiting else .idle } }

theorem discardFaulted_spares (s : State) :
    (discardFaulted s).st = s.st ∧ (discardFaulted s).lc = s.lc ∧ (discardFaulted s).su = s.su
      ∧ (discardFaulted s).mu = s.mu ∧ (discardFaulted s).cfg = s.cfg ∧ (discardFaulted s).sp.mode = s.sp.mode
      ∧ (discardFaulted s).sp.front = s.sp.front ∧ (discardFaulted s).rc.current = s.rc.current := by
  unfold discardFaulted
  split
  · have hcur : (formHead (discardHead { s with rc := { s.rc with head := none } })).rc.current = s.rc.current := by
      rcases formHead_rc (discardHead { s with rc := { s.rc with head := none } }) with he | ⟨c, he⟩ <;>
        rw [he] <;> simp
    refine ⟨?_, ?_, ?_, ?_, ?_, ?_, ?_, hcur⟩ <;> simp
  · exact ⟨rfl, rfl, rfl, rfl, rfl, rfl, rfl, rfl⟩

/-- A fault whose record has left the queue leaves the queue as it stands (R93). -/
theorem discardFaulted_gone {g : ReleaseFault} (hg : s.rc.fault = some g) (h : g.recordAtHead = false) :
    discardFaulted s = s := by
  simp [discardFaulted, hg, h]

/-- The only record held is discarded, and no copy is formed after it (R71, R93). -/
theorem discardFaulted_last {g : ReleaseFault} {r : SegRecord} (hg : s.rc.fault = some g)
    (h : g.recordAtHead = true) (hheld : s.sq.held = [r]) :
    (discardFaulted s).sq.held = [] ∧ (discardFaulted s).sq.cursor = none ∧ (discardFaulted s).rc.head = none
      ∧ (discardFaulted s).sq.discarded = s.sq.discarded + 1 ∧ (discardFaulted s).sq.consumed = s.sq.consumed := by
  let v : State := { s with rc := { s.rc with head := none } }
  obtain ⟨sp, armed, hlow, -, -⟩ := lowWater_writes { v with
    sq := { v.sq with held := [], cursor := none, discarded := v.sq.discarded + 1 } }
  have hdiscard : discardHead v = { v with
      sp := sp
      sq := { v.sq with held := [], cursor := none, discarded := v.sq.discarded + 1, armed := armed } } := by
    simp only [discardHead, show v.sq.held = [r] from hheld]
    exact hlow
  have hany : s.rc.fault.any (fun f => f.recordAtHead) = true := by simp [hg, h]
  have hlast : discardFaulted s = discardHead v :=
    (if_pos hany).trans (formHead_empty (s := discardHead v) (by rw [hdiscard]))
  rw [hlast, hdiscard]
  exact ⟨rfl, rfl, rfl, rfl, rfl⟩

/-- Outside RUN the part that CONTINUE leaves is looked at, and nothing is released (R79, R83, R93). -/
theorem takeContinue_continues (hrole : s.role = .cutter) (hrel : s.rc.release = .faulted)
    (hmode : s.sp.mode ≠ .run) : ∃ t, takeContinue s = (t, .ok, .none) ∧ s.continued.observes t := by
  obtain ⟨-, -, -, -, hcfg, hcontinues, -⟩ := discardFaulted_spares s
  have hrole' : s.continued.role = .cutter := (role_of_cfg (t := s.continued) hcfg).trans hrole
  have hmode' : s.continued.sp.mode ≠ .run := fun hrun => hmode (hcontinues.symm.trans hrun)
  have hann := announce_observes false s.continued
  obtain ⟨hcutter, hstate, -⟩ := observes_keeps hann
  have hcalm : s.continued.rc.release ≠ .inFlight := by
    simp only [State.continued]
    split <;> simp
  have hobs := observes_trans hann (windowChanged_observes (hcutter.trans hrole') (hstate ▸ hcalm))
  refine ⟨rcSettles s s.continued, if_neg (not_not_intro hrel), ?_⟩
  rcases rcSettles_cases s s.continued with ⟨-, -, he⟩ | ⟨-, he⟩ <;> rw [he]
  · exact hann
  · obtain ⟨_, _, _, _, _, _, hwritten⟩ := id hobs
    rw [settle_notRun (by rw [hwritten]; exact hmode')]
    exact hobs

end

/-- Settles O38: outside RUN, CONTINUE writes `continued` and looks at the hall. -/
theorem continueLeavesFaulted : Obligations.ContinueLeavesFaulted := by
  unfold Obligations.ContinueLeavesFaulted
  refine fun s f htakes => ⟨fun hrole => congrArg _ (cutterRequest_refused htakes hrole), fun hrole =>
    ⟨fun hrel => ?_, fun hrel hmode htable g hg => ?_⟩⟩
  · exact congrArg _ (cutterRequest_takes htakes hrole (if_pos hrel))
  · obtain ⟨t, htakeContinue, _, _, _, _, _, _, he⟩ := takeContinue_continues (s := s.begun) hrole hrel
      (show s.sp.mode ≠ .run by simp [hmode])
    obtain ⟨hst, hlc, hsu, hmu, hcfg, hmode', hfront, hcur⟩ := discardFaulted_spares s.begun
    obtain ⟨-, hrow, -⟩ := htable
    rw [hrel] at hrow
    obtain ⟨hcopyless, -⟩ := hrow
    subst he
    have hexec : exec (.continueRequest f) s = .next _ :=
      congrArg Host.Outcome.next (cutterRequest_takes htakes hrole htakeContinue)
    refine ⟨_, hexec, rfl, hcur.trans hcopyless, rfl, ?_,
      fun hgone => ?_, fun hstands r hheld => ?_, hst, hlc, hsu, hmu, hcfg, hmode'.trans hmode⟩
    · have hbuffer : (discardFaulted s.begun).sp.buffer = s.sp.buffer := buffer_of_front (p := s.begun.sp) hfront
      exact congrArg (fun l => l ++ [(⟨s.sp.number, .continueRequest, .ok, .none⟩ : Reply)]) hbuffer
    · have hsame := discardFaulted_gone (s := s.begun) hg hgone
      have hqueue : (discardFaulted s.begun).sq = s.begun.sq := by rw [hsame]
      have hhead : (discardFaulted s.begun).rc.head = s.begun.rc.head := by rw [hsame]
      exact ⟨hqueue, hhead⟩
    · exact discardFaulted_last (s := s.begun) hg hstands hheld

end Sys2Proof.Machine
end

section
/-! PROOF. The checks of a copy at its release, and what the nest copies do to the stock table (R84, R92, R119,
R120). -/

namespace Sys2Proof.Machine

section
variable {s : State} {c : Copy}

/-! ### The checks at release (R84) -/

theorem releaseCheck_nestStart {i : StockId} (hc : c.content = .nestStart i) :
    releaseCheck c s
      = if s.bedRecord.map (fun r => r.piece.id) = some i then .ok none else .error .plateMismatch := by
  simp only [releaseCheck, hc]

theorem releaseCheck_remnant {n l w : Nat} {k : Option Notch} (hc : c.content = .remnant n l w k) :
    releaseCheck c s
      = if s.bedRecord.isNone then .error .noSourceRecord
        else if (s.st.find ⟨s.cfg.params.station, n⟩).isSome ∨ ⟨s.cfg.params.station, n⟩ ∈ s.st.retired then
          .error .stockIdInUse
        else if s.st.isFull then .error .stockFull
        else .ok none := by
  simp only [releaseCheck, hc]

theorem releaseCheck_mark {tool : Tool} {w : Rect} {budget template : Nat} {target : MarkTarget}
    {part : Option Text} (hc : c.content = .mark tool w budget template target part) :
    releaseCheck c s = (compose s c.seq template target part).map some := by
  simp only [releaseCheck, hc]
  cases compose s c.seq template target part <;> rfl

/-- The other copies pass without a check. -/
theorem releaseCheck_free (h : c.content.kind ∈ [CopyKind.cut, .travel, .nestEnd]) : releaseCheck c s = .ok none := by
  unfold releaseCheck
  cases hc : c.content <;> simp_all [SegContent.kind]

/-! ### The stock effects (R119, R120) -/

theorem createRemnant_eq {n l w m : Nat} {k : Option Notch} {bed : StockRecord} (hbed : s.bedRecord = some bed)
    (hm : lowestEmpty s.st.records = some m) :
    createRemnant n l w k s = { s with st := { s.st with records := s.st.records.set m (some
      { piece :=
          { id := ⟨s.cfg.params.station, n⟩
            kind := .remnant
            grade := bed.piece.grade
            thickness := bed.piece.thickness
            length := l
            width := w
            notch := k
            heat := bed.piece.heat
            parent := some bed.piece.id
            marked := false
            reservation := none }
        location := .table
        custody := .held
        partner := none
        entryTime := s.time
        timer := none }) } } := by
  simp only [createRemnant, hbed, Stock.enter, hm]
  rfl

theorem retireBed_eq {n : Nat} {bed : StockRecord} (hn : s.st.bed = some n)
    (hbed : entryAt s.st.records n = some bed) :
    retireBed s = raise (.plateRetired bed.piece.id) { s with st := { s.st with
      records := s.st.records.set n none
      bed := none
      retired := (bed.piece.id :: s.st.retired).take 64 } } := by
  have hrecord : s.bedRecord = some bed := by simp [State.bedRecord, hn, hbed]
  simp [retireBed, hn, hrecord, Stock.remove, Stock.retire]

theorem retireBed_none (h : s.bedRecord = none) : retireBed s = s := by
  unfold retireBed
  rw [h]
  split
  · simp_all
  · rfl

/-! ### The resume timer (R83) -/

/-- The part once its resume timer has stopped. -/
def State.resumed (s : State) : State := { s with rc := { s.rc with resumeTimer := none } }

theorem exec_resumeTimer (hdue : s.expired s.rc.resumeTimer = true) :
    exec .resumeTimerExpiry s = .next (settle s.resumed) :=
  congrArg Host.Outcome.next (if_pos hdue)

/-- A copy whose check fails faults the release controller (R84, R92). -/
theorem judgeOnce_fails {reason : FaultReason} (hrole : s.role = .cutter) (hrel : s.rc.release = .waiting)
    (hhead : s.rc.head = some c) (hmay : s.mayRelease c.content false = true)
    (hcheck : releaseCheck c s = .error reason) :
    judgeOnce s = (enterFaulted ⟨reason, c.seq, c.k, false, true⟩ false s, false) := by
  simp only [judgeOnce, hrole, hrel, hhead, hmay, hcheck, if_true]

end

/-- Settles O34: each check and each effect is one function of the bed record and the table, and a failed check one
fault. -/
theorem nestCopiesAreCheckedAndApplied : Obligations.NestCopiesAreCheckedAndApplied := by
  unfold Obligations.NestCopiesAreCheckedAndApplied
  refine ⟨⟨fun s c => ⟨fun i hc => ⟨fun hbed => ?_, fun r hbed => ⟨fun hid => ⟨?_, ?_⟩, fun hid => ?_⟩⟩,
    fun tool w budget template target part hc => ⟨fun reason h => ?_, fun l h => ?_⟩, releaseCheck_free,
    fun n l w k hc => ⟨fun hbed => ?_, fun hbed => ⟨fun hused => ?_, fun hfind hretired => ?_⟩⟩⟩,
    fun s c reason hrole hdue hrel hhead hmay hcheck => ?_⟩,
    fun s n l w k bed m => createRemnant_eq, fun s n bed => retireBed_eq, fun s => retireBed_none⟩
  · simp [releaseCheck_nestStart hc, hbed]
  · simp [releaseCheck_nestStart hc, hbed, hid]
  · simp only [hc, stockEffect]
  · simp [releaseCheck_nestStart hc, hbed, hid]
  · rw [releaseCheck_mark hc, h]
    rfl
  · rw [releaseCheck_mark hc, h]
    rfl
  · simp [releaseCheck_remnant hc, hbed]
  · have hbed' : ¬ s.bedRecord.isNone = true := by simpa using hbed
    rw [releaseCheck_remnant hc, if_neg hbed', if_pos hused]
  · have hbed' : ¬ s.bedRecord.isNone = true := by simpa using hbed
    rw [releaseCheck_remnant hc, if_neg hbed', if_neg (by simp [hfind, hretired])]
  · have hjudged := judgeOnce_fails (s := s.resumed) hrole hrel hhead hmay hcheck
    obtain ⟨-, hstop, -⟩ := mayRelease_run hmay
    obtain ⟨_, _, _, _, _, _, he⟩ :=
      enterFaulted_observes (w := s.resumed) ⟨reason, c.seq, c.k, false, true⟩ false hrole hstop
    have hexec := exec_resumeTimer hdue
    rw [settle_once hjudged, he] at hexec
    exact ⟨_, hexec, rfl, rfl, hhead, rfl, rfl, rfl, rfl, rfl, rfl, rfl⟩

end Sys2Proof.Machine
end

section
/-! PROOF. SET_MODE follows the table of modes (R99, R164, R171). -/

namespace Sys2Proof.Machine

section
variable {s t : State} {f : WriteFrame} {m : Mode}

/-! ### Changes of mode (R72, R171) -/

theorem changeMode_mode (m : Mode) (s : State) : (changeMode m s).sp.mode = m := by
  obtain ⟨u, hu, he⟩ := changeMode_enters m s
  have hmode : u.sp.mode = m := congrArg Standing.mode hu
  rw [he]
  split
  · split <;> simp [hmode]
  · exact hmode

theorem changeMode_leave (m : Mode) (s : State) : (changeMode m s).mu.leavePending = s.mu.leavePending := by
  obtain ⟨u, hu, he⟩ := changeMode_enters m s
  have hleave : u.mu.leavePending = s.mu.leavePending := congrArg Standing.leave hu
  rw [he]
  split
  · split <;> simp [hleave]
  · exact hleave

/-- MODE_CHANGED comes directly after the notices already there (log 13). -/
theorem changeMode_notices (m : Mode) (h : s.sp.notices.length < 32) :
    (s.sp.notices ++ [⟨s.time, .modeChanged s.sp.mode m⟩]) <+: (changeMode m s).sp.notices := by
  let entered : State := raise (.modeChanged s.sp.mode m) { s with sp := { s.sp with mode := m } }
  have hentered : entered.sp.notices = s.sp.notices ++ [⟨s.time, .modeChanged s.sp.mode m⟩] :=
    raise_notices (s := { s with sp := { s.sp with mode := m } }) h
  have hstands : entered.stands entered.pt.bare (s.sp.notices ++ [⟨s.time, .modeChanged s.sp.mode m⟩]) :=
    ⟨rfl, by rw [hentered]⟩
  have hdriven := driveLines_stands (ite_stands (p := s.sp.mode = .offline) (callUrgent_stands hstands) hstands)
  obtain ⟨-, hprefix⟩ : (changeMode m s).stands entered.pt.bare _ :=
    ite_stands (announce_stands _ (ite_stands (queueLeavesRun_stands hdriven) hdriven)) hdriven
  exact hprefix

/-- A change of mode outside RUN leaves the queue as it stands. -/
theorem changeMode_sq (h : s.sp.mode ≠ .run) : (changeMode m s).sq = s.sq := by
  unfold changeMode
  dsimp only
  rw [if_neg h]
  split
  · split <;> simp
  · split <;> simp

/-- In the other roles a change of mode reports itself and drives the lines. -/
theorem changeMode_other (hrole : s.role ≠ .cutter) :
    (changeMode m s).sq = s.sq ∧ (changeMode m s).st = s.st ∧ (changeMode m s).env = s.env
      ∧ (changeMode m s).pt = s.pt := by
  have hother (u : State) (h : u.cfg = s.cfg) : ¬ u.role = .cutter := by rwa [role_of_cfg h]
  unfold changeMode
  dsimp only
  rw [if_neg (hother _ (by split <;> simp))]
  split <;> simp

/-- Of a leave of RUN in a cutter: the queue is emptied and the head copy dropped (R72). -/
theorem changeMode_empties (hrole : s.role = .cutter) (hmode : s.sp.mode = .run) :
    (changeMode m s).sq.held = [] ∧ (changeMode m s).rc.head = none
      ∧ (changeMode m s).sq.discarded = s.sq.discarded + BitVec.ofNat 32 s.sq.held.length := by
  let u : State := raise (.modeChanged s.sp.mode m) { s with sp := { s.sp with mode := m } }
  have hsq : u.sq = s.sq := by simp [u]
  have hleaves : changeMode m s = announce false (queueLeavesRun u) := by
    have hcutter : u.role = .cutter := (role_of_cfg (by simp [u])).trans hrole
    have hdriven : driveLines u = u := driveLines_other (by simp [hcutter])
    unfold changeMode
    simp only [hmode, reduceCtorEq, if_false]
    rw [show raise (.modeChanged .run m) { s with sp := { s.sp with mode := m } } = u by simp only [u, hmode], hdriven,
      if_pos hcutter, if_pos trivial]
  obtain ⟨sp, armed, hlooks, -⟩ := queueLeavesRun_looks u
  obtain ⟨-, -, -, hhead, -, hqueue, -⟩ := looks_keeps hlooks
  obtain ⟨flc, he⟩ := announce_writes false (queueLeavesRun u)
  rw [hleaves, he]
  refine ⟨by rw [hqueue]; rfl, hhead, ?_⟩
  rw [hqueue, ← hsq]
  rfl

/-! ### The judgement on entering RUN (R83) -/

/-- No stop is pending, and the mode stands. -/
def State.runsOn (s : State) (m : Mode) : Prop := s.sp.mode = m ∧ s.rc.stopPending = false

theorem looks_runsOn (h : s.looks t) (hs : s.runsOn m) : t.runsOn m := by
  obtain ⟨hmode, hstop⟩ := hs
  obtain ⟨-, hmode', hstop', -⟩ := looks_keeps h
  exact ⟨hmode'.trans hmode, hstop'.trans hstop⟩

theorem endStop_runsOn (h : s.runsOn m) : (endStop s).runsOn m := by
  obtain ⟨hmode, hstop⟩ := h
  rw [endStop_free hstop]
  exact ⟨hmode, hstop⟩

/-- What closes a fault and a completion (R79, R99). -/
theorem closed_runsOn (a : Bool) (h : s.runsOn m) : (endStop (windowChanged (announce a s))).runsOn m :=
  endStop_runsOn (looks_runsOn (looks_of_observes (announce_observes a s) (windowChanged_looks _)) h)

theorem enterFaulted_runsOn (f : ReleaseFault) (a : Bool) (h : s.runsOn m) : (enterFaulted f a s).runsOn m := by
  obtain ⟨hmode, hstop⟩ := h
  rw [enterFaulted_eq]
  exact closed_runsOn a ⟨by simpa [State.faulting] using hmode, hstop⟩

theorem startCopy_runsOn (c : Copy) (again : Bool) (legend : Option Legend) (h : s.runsOn m) :
    (startCopy c again legend s).runsOn m := by
  obtain ⟨hmode, hstop⟩ := h
  rw [startCopy_eq]
  exact looks_runsOn (looks_of_observes (announce_observes ..) (windowChanged_looks _))
    ⟨(releasing_mode ..).trans hmode, hstop⟩

theorem formHead_stop (s : State) : (formHead s).rc.stopPending = s.rc.stopPending := by
  rcases formHead_rc s with he | ⟨c, he⟩ <;> rw [he]

theorem queueCompletes_stop (s : State) : (queueCompletes s).1.rc.stopPending = s.rc.stopPending := by
  unfold queueCompletes
  split
  · rfl
  · split
    · dsimp only
      split
      · rfl
      · simp [formHead_stop]
    · simp [formHead_stop]

theorem releaseNest_runsOn (c : Copy) (h : s.runsOn m) : (releaseNest c s).runsOn m := by
  obtain ⟨hmode, hstop⟩ := h
  have hcompleted : (nestCompleted c s).1.runsOn m := by
    refine ⟨?_, ?_⟩
    · simpa [nestCompleted] using hmode
    · rw [nestCompleted, queueCompletes_stop]
      simpa using hstop
  rw [releaseNest_eq]
  unfold afterCompletion
  split
  · exact enterFaulted_runsOn _ _ hcompleted
  · exact closed_runsOn (s := { (nestCompleted c s).1 with rc := (nestCompleted c s).1.rc.rest }) false hcompleted

theorem judgeOnce_runsOn (h : s.runsOn m) : (judgeOnce s).1.runsOn m := by
  unfold judgeOnce
  split
  · split
    · split
      · split
        · exact enterFaulted_runsOn _ _ h
        · split
          · exact releaseNest_runsOn _ h
          · exact startCopy_runsOn _ _ _ h
      · exact h
    · split
      · exact startCopy_runsOn _ _ _ h
      · exact h
    · exact h
  · exact h

theorem settleFor_runsOn (n : Nat) (h : s.runsOn m) : (settleFor n s).runsOn m := by
  induction n generalizing s with
  | zero => exact h
  | succ n ih =>
    have hjudged := judgeOnce_runsOn h
    unfold settleFor
    split
    · rename_i t hj
      rw [hj] at hjudged
      exact ih hjudged
    · rename_i t hj
      rw [hj] at hjudged
      exact hjudged

theorem settle_runsOn (h : s.runsOn m) : (settle s).runsOn m := settleFor_runsOn _ h

/-! ### A crane's leave of RUN (R164) -/

theorem mu_queue_setMoveQueue (q : List QueuedMove) (s : State) : (setMoveQueue q s).mu.queue = q := by
  unfold setMoveQueue
  dsimp only
  split <;> simp

/-- The moves given back are those of the same requester and tag. -/
theorem mu_queue_returnMoves (ms : List QueuedMove) (s : State) :
    (returnMoves ms s).mu.queue = s.mu.queue.filter (fun q => ms.all (fun m => !q.is m.requester m.tag)) := by
  induction ms generalizing s with
  | nil => simp [returnMoves]
  | cons m rest ih =>
    simp only [returnMoves, ih, mu_queue_setMoveQueue, List.filter_filter, List.all_cons]
    simp [Bool.and_comm, countMove]

/-- In an ordered queue no two moves share requester and tag, so the started move stays (R160, R164). -/
theorem returnMoves_unstarted (h : s.mu.ordered) :
    (returnMoves (s.mu.queue.filter (fun q => !q.started)) s).mu.queue = s.mu.queue.filter (fun q => q.started) := by
  obtain ⟨hpairs, -⟩ := h
  have hdistinct : s.mu.queue.Pairwise (fun a b => ¬ (a.requester = b.requester ∧ a.tag = b.tag)) :=
    hpairs.imp fun ⟨_, _, hne⟩ => hne
  have hsymm : Std.Symm (fun a b : QueuedMove => ¬ (a.requester = b.requester ∧ a.tag = b.tag)) :=
    ⟨fun a b hab ⟨hrequester, htag⟩ => hab ⟨hrequester.symm, htag.symm⟩⟩
  rw [mu_queue_returnMoves]
  refine List.filter_congr fun q hq => ?_
  cases hstarted : q.started with
  | true =>
    simp only [List.all_eq_true, List.mem_filter, Bool.not_eq_true', and_imp]
    intro m hm hunstarted
    have hne : q ≠ m := by
      rintro rfl
      cases hstarted.symm.trans hunstarted
    have hapart := hdistinct.forall hq hm hne
    simpa [QueuedMove.is] using hapart
  | false =>
    simp only [List.all_eq_false, List.mem_filter, Bool.not_eq_true']
    exact ⟨q, ⟨hq, hstarted⟩, by simp [QueuedMove.is]⟩

theorem anyStarted_filter (q : List QueuedMove) :
    (q.filter (fun m => m.started)).any (fun m => m.started) = q.any (fun m => m.started) := by
  simp [List.any_filter]

/-! ### SET_MODE (R171) -/

theorem exec_setMode_takes {r : ResultCode} {d : ReplyData} (htakes : s.takes f)
    (h : takeSetMode m s.begun = (t, r, d)) : exec (.setMode f (some m)) s = .next (s.replied .setMode r d t) := by
  obtain ⟨-, -, -, -, hsuits⟩ := id htakes
  refine congrArg Host.Outcome.next ((loadedRequest_takes htakes _ _).trans (takenRequest_eq ?_))
  simpa [judgeSetMode, hsuits] using h

theorem takeSetMode_same (hmode : s.sp.mode = m) (hleave : m = .run → s.leavePending = false) :
    takeSetMode m s = (s, .ok, .mode false) := by
  subst hmode
  cases hm : s.sp.mode <;> simp_all [takeSetMode, modeDone]

theorem takeSetMode_wrong (h : s.sp.mode = .offline ∧ m = .run ∨ s.sp.mode = .run ∧ m = .offline) :
    takeSetMode m s = (s, .wrongMode, .none) := by
  rcases h with ⟨hmode, rfl⟩ | ⟨hmode, rfl⟩ <;> simp only [takeSetMode, hmode, refuse]

/-- Where RUN is left, and no leave is pending, the role's owner hands it back (R99, R164, R171). -/
theorem takeSetMode_leaves (hmode : s.sp.mode = .run) (hleave : s.leavePending = false) :
    takeSetMode .ready s = ((leaveRun s).1, .ok, .mode (leaveRun s).2) := by
  simp only [takeSetMode, hmode, hleave, Bool.false_eq_true, if_false]

/-- The changes of mode that are made at once (R171). -/
theorem takeSetMode_changes (h : (s.sp.mode = .offline ∧ m = .ready) ∨ (s.sp.mode = .ready ∧ m = .offline)
      ∨ (s.sp.mode = .ready ∧ m = .run ∧ s.leavePending = false)
      ∨ (s.sp.mode = .run ∧ m = .ready ∧ s.leavePending = false ∧ (s.role = .rack
        ∨ (s.role = .cutter ∧ s.rc.release ≠ .inFlight ∧ s.rc.release ≠ .broken)))) :
    takeSetMode m s = (changeMode m s, .ok, .mode false)
      ∨ (s.sp.mode = .ready ∧ m = .run ∧ s.leavePending = false
        ∧ takeSetMode m s = (settle (changeMode m s), .ok, .mode false)) := by
  rcases h with ⟨hmode, rfl⟩ | ⟨hmode, rfl⟩ | ⟨hmode, rfl, hleave⟩ | ⟨hmode, rfl, hleave, hrole⟩
  · exact .inl (by simp only [takeSetMode, hmode, modeDone])
  · exact .inl (by simp only [takeSetMode, hmode, modeDone])
  · exact .inr ⟨hmode, rfl, hleave, by simp only [takeSetMode, hmode, modeDone]⟩
  · refine .inl ((takeSetMode_leaves hmode hleave).trans ?_)
    rcases hrole with hrole | ⟨hrole, hflies, hbroken⟩
    · simp only [leaveRun, hrole]
    · have hrests : ¬ (s.rc.release = .inFlight ∨ s.rc.release = .broken) := by simp [hflies, hbroken]
      simp only [leaveRun, hrole, if_neg hrests]

/-- What the station has after a change of mode, whether or not a copy is judged after it. -/
theorem changeMode_settles (ht : t = changeMode m s ∨ (s.rc.stopPending = false ∧ t = settle (changeMode m s)))
    (hroom : s.sp.notices.length < 32) :
    t.sp.mode = m ∧ t.sp.buffer = s.sp.buffer
      ∧ (s.sp.notices ++ [⟨s.time, .modeChanged s.sp.mode m⟩]) <+: t.sp.notices
      ∧ t.su = s.su ∧ t.cfg = s.cfg ∧ t.mu.queue = s.mu.queue ∧ t.mu.moves = s.mu.moves := by
  have hnotices := changeMode_notices (m := m) hroom
  have hfront : (changeMode m s).sp.front = s.sp.front := by simp
  rcases ht with rfl | ⟨hstop, rfl⟩
  · exact ⟨changeMode_mode m s, buffer_of_front hfront, hnotices, by simp, by simp, by simp, by simp⟩
  · obtain ⟨hmode, -⟩ := settle_runsOn
      (show (changeMode m s).runsOn m from ⟨changeMode_mode m s, (changeMode_stop m s).trans hstop⟩)
    obtain ⟨-, hprefix⟩ := settle_stands (show (changeMode m s).stands _ _ from ⟨rfl, hnotices⟩)
    have hsettled : (settle (changeMode m s)).sp.front = (changeMode m s).sp.front := by simp
    exact ⟨hmode, buffer_of_front (hsettled.trans hfront), hprefix, by simp, by simp, by simp, by simp⟩

/-- A crane's leave of RUN gives back its unstarted moves; with none started the mode changes at once (R164). -/
theorem craneLeaves_leaves (hrole : s.role = .crane) (hmode : s.sp.mode = .run) (hleave : s.leavePending = false)
    (hordered : s.mu.ordered) :
    (craneLeaves s).2 = s.mu.anyStarted ∧ (craneLeaves s).1.mu.queue = s.mu.queue.filter (fun q => q.started)
      ∧ (s.mu.anyStarted = true → (craneLeaves s).1.sp.mode = .run ∧ (craneLeaves s).1.mu.leavePending = true)
      ∧ (s.mu.anyStarted = false → (craneLeaves s).1.sp.mode = .ready ∧ (craneLeaves s).1.mu.leavePending = false
        ∧ (32 ≤ (craneLeaves s).1.sp.notices.length
          ∨ (⟨s.time, .modeChanged .run .ready⟩ : Notice) ∈ (craneLeaves s).1.sp.notices))
      ∧ (craneLeaves s).1.st = s.st ∧ (craneLeaves s).1.env = s.env ∧ (craneLeaves s).1.pt = s.pt := by
  let u : State := returnMoves (s.mu.queue.filter (fun q => !q.started)) s
  have hqueue : u.mu.queue = s.mu.queue.filter (fun q => q.started) := returnMoves_unstarted hordered
  have hany : u.mu.anyStarted = s.mu.anyStarted := by
    rw [Moves.anyStarted, hqueue, anyStarted_filter]
    rfl
  have hother : u.role ≠ .cutter := by rw [role_of_cfg (s := s) (by simp [u]), hrole]; decide
  have hleaves : craneLeaves s = if u.mu.anyStarted then ({ u with mu := { u.mu with leavePending := true } }, true)
      else (changeMode .ready u, false) := rfl
  have hrun : u.sp.mode = .run := by simpa [u] using hmode
  rw [hleaves, hany]
  cases hstarted : s.mu.anyStarted with
  | true => exact ⟨rfl, hqueue, fun _ => ⟨hrun, rfl⟩, nofun, by simp [u], by simp [u], by simp [u]⟩
  | false =>
    obtain ⟨-, hst, henv, hpt⟩ := changeMode_other (m := .ready) hother
    have hfree : u.mu.leavePending = false := by
      simp only [State.leavePending, Bool.or_eq_false_iff] at hleave
      obtain ⟨-, hfree⟩ := hleave
      simpa [u] using hfree
    refine ⟨rfl, ?_, nofun, fun _ => ⟨changeMode_mode .ready u, (changeMode_leave .ready u).trans hfree, ?_⟩,
      ?_, ?_, ?_⟩
    · simpa using hqueue
    · by_cases hroom : u.sp.notices.length < 32
      · have hprefix := changeMode_notices (m := .ready) hroom
        rw [hrun, show u.time = s.time by simp [u]] at hprefix
        exact .inr (hprefix.subset (by simp))
      · have hstands := changeMode_stands .ready (stands_refl u)
        obtain ⟨-, hprefix⟩ := hstands
        exact .inl ((not_lt.1 hroom).trans hprefix.length_le)
    · exact hst.trans (by simp [u])
    · exact henv.trans (by simp [u])
    · exact hpt.trans (by simp [u])

end

/-- Settles O60: the rows of the table are those of `takeSetMode`; a leave of RUN is the role's own. -/
theorem setModeFollowsTheTable : Obligations.SetModeFollowsTheTable := by
  unfold Obligations.SetModeFollowsTheTable
  refine fun s f m htakes => ⟨fun hmode hleave => ?_, fun h => ?_, fun hmode hm hleave => ?_,
    fun hmode hm hleave => ?_, fun hmode hm hleave hrole hrel => ?_, fun hmode hm hleave hrole hordered => ?_,
    fun h hroom => ?_⟩
  · exact exec_setMode_takes htakes (takeSetMode_same (s := s.begun) hmode hleave)
  · exact exec_setMode_takes htakes (takeSetMode_wrong (s := s.begun) h)
  · subst hm
    exact exec_setMode_takes htakes (by
      simp only [takeSetMode, show s.begun.sp.mode = .run from hmode, show s.begun.leavePending = true from hleave,
        if_true, refuse])
  · subst hm
    exact exec_setMode_takes htakes (by
      simp only [takeSetMode, show s.begun.sp.mode = .run from hmode, show s.begun.leavePending = true from hleave,
        if_true])
  · subst hm
    refine exec_setMode_takes htakes ((takeSetMode_leaves (s := s.begun) hmode hleave).trans ?_)
    simp only [leaveRun, show s.begun.role = .cutter from hrole]
    rw [if_pos (show s.begun.rc.release = .inFlight ∨ s.begun.rc.release = .broken from hrel)]
    rfl
  · subst hm
    have hleaves : leaveRun s.begun = craneLeaves s.begun := by
      simp only [leaveRun, show s.begun.role = .crane from hrole]
    have hexec := exec_setMode_takes htakes (takeSetMode_leaves (s := s.begun) hmode hleave)
    obtain ⟨hpending, hqueue, hstarted, hnone, hst, henv, hpt⟩ :=
      craneLeaves_leaves (s := s.begun) hrole hmode hleave hordered
    rw [hleaves, hpending] at hexec
    have hfront : (craneLeaves s.begun).1.sp.front = s.begun.sp.front := by simp
    have hcfg : (craneLeaves s.begun).1.cfg = s.begun.cfg := by simp
    have hbuffer : (craneLeaves s.begun).1.sp.buffer = s.begun.sp.buffer := buffer_of_front hfront
    exact ⟨_, hexec, hqueue, congrArg (· ++ _) hbuffer, hstarted, hnone, hst, henv, hpt, hcfg⟩
  · obtain ⟨t, htake, ht⟩ : ∃ t, takeSetMode m s.begun = (t, .ok, .mode false)
        ∧ (t = changeMode m s.begun ∨ (s.rc.stopPending = false ∧ s.sp.mode ≠ .run ∧ m = .run
          ∧ t = settle (changeMode m s.begun))) := by
      rcases takeSetMode_changes (s := s.begun) h with he | ⟨hmode, hm, hleave, he⟩
      · exact ⟨_, he, .inl rfl⟩
      · simp only [State.leavePending, Bool.or_eq_false_iff] at hleave
        obtain ⟨hstop, -⟩ := hleave
        exact ⟨_, he, .inr ⟨hstop, by rw [show s.sp.mode = .ready from hmode]; decide, hm, rfl⟩⟩
    obtain ⟨hmode, hbuffer, hprefix, hsu, hcfg, hqueue, hmoves⟩ :=
      changeMode_settles (s := s.begun) (ht.imp id fun ⟨hstop, _, _, he⟩ => ⟨hstop, he⟩) hroom
    refine ⟨_, exec_setMode_takes htakes htake, hmode, congrArg (· ++ _) hbuffer, hprefix, fun hrun hrole => ?_,
      fun hrun hm => ?_, hsu, hcfg, hqueue, hmoves⟩
    · rcases ht with rfl | ⟨-, hnot, -⟩
      · exact changeMode_empties (s := s.begun) hrole hrun
      · exact absurd hrun hnot
    · rcases ht with rfl | ⟨-, -, hm', -⟩
      · exact changeMode_sq (s := s.begun) hrun
      · exact absurd hm' hm

end Sys2Proof.Machine
end

section
/-! PROOF. The judgement of the waiting copy when the resume timer ends (R80 to R86, R89 to R91). -/

namespace Sys2Proof.Machine

section
variable {s t : State} {c : Copy} {again : Bool} {legend : Option Legend}

/-! ### When a copy may go (R80 to R82) -/

theorem delayPassed_iff : s.delayPassed = true
    ↔ ∀ t, s.rc.lastNonclear = some t → s.cfg.params.resumeDelay ≤ min (s.time - t).toNat 65535 := by
  unfold State.delayPassed
  cases s.rc.lastNonclear <;> simp [ageOf, elapsed]

theorem mayRelease_iff (content : SegContent) : s.mayRelease content again = true ↔
    s.sp.mode = .run ∧ s.rc.stopPending = false ∧ s.lu.estop = false
      ∧ (content.isArc = true →
        s.flc.link = .normal ∧ s.env.station = .clear
        ∧ (∀ t, s.rc.lastNonclear = some t → s.cfg.params.resumeDelay ≤ min (s.time - t).toNat 65535)
        ∧ s.rc.arcMs < s.cfg.params.arcLimit * 1000
        ∧ (content.pierceBearing again = true →
          s.rc.wearKnown = true ∧ s.rc.pierces < s.cfg.params.pierceLimit)) := by
  rw [← delayPassed_iff]
  simp only [State.mayRelease, Bool.and_eq_true, Bool.or_eq_true, Bool.not_eq_true', decide_eq_true_eq, and_assoc,
    ← Bool.not_eq_true, ← imp_iff_not_or]

/-- Only a CUT bears a pierce, and a CUT burns (R80). -/
theorem pierceBearing_isArc {content : SegContent} (h : content.pierceBearing again = true) :
    content.isArc = true := by
  cases content with
  | cut current pierce w d n =>
    simp only [SegContent.isArc, SegContent.fume]
    split <;> rfl
  | _ => simp [SegContent.pierceBearing] at h

/-- There is no hold reason exactly when every condition holds (R80 to R82). -/
theorem reasonsFor_nil_iff (content : SegContent) :
    s.reasonsFor content again = [] ↔ s.mayRelease content again = true := by
  rw [mayRelease_iff, ← delayPassed_iff]
  have hpierce := pierceBearing_isArc (content := content) (again := again)
  have hnil {p : Prop} [Decidable p] (r : HoldReason) : (if p then [r] else []) = [] ↔ ¬ p := by
    split <;> simp [*]
  simp only [State.reasonsFor, List.append_eq_nil_iff, hnil]
  cases harc : content.isArc <;> cases hp : content.pierceBearing again <;>
    simp_all [not_or, and_assoc]

/-! ### What a result leaves of a copy in flight (R83, R89, R90) -/

theorem evaluateEntry_again (s : State) (e : PeerEntry) :
    s.evaluateEntry (s.evaluateEntry e) = s.evaluateEntry e := by
  unfold State.evaluateEntry
  cases s.windowUnderTest with
  | none => rfl
  | some w =>
    cases hd : e.data with
    | crane d => rfl
    | cutter d => rfl
    | rack d => rfl

/-- A second evaluation of the same window gives the same station result (R12). -/
theorem evaluateAll_station_again (hrole : s.role = .cutter) (hpt : t.pt = (evaluateAll s).pt) (hcfg : t.cfg = s.cfg)
    (htime : t.time = s.time) (hwindow : t.windowUnderTest = s.windowUnderTest) :
    (evaluateAll t).env.station = (evaluateAll s).env.station := by
  have hentries : t.pt.entries = s.evaluated := by rw [hpt, evaluateAll_cutter hrole]
  have hentry : t.evaluateEntry = s.evaluateEntry := by
    funext e
    simp only [State.evaluateEntry, hwindow, hcfg, htime]
  have hagain : t.evaluated = s.evaluated := by
    rw [State.evaluated, hentry, hentries, State.evaluated, List.map_map]
    refine List.map_congr_left fun o _ => ?_
    cases o <;> simp [evaluateEntry_again]
  rw [evaluateAll_cutter hrole, evaluateAll_cutter ((role_of_cfg hcfg).trans hrole), hwindow, hagain]

/-- A result breaks the copy in flight: only an arc copy's, and for the cause it gives (R89). -/
theorem resultBreaks_breaks {d : Current} {cause : BreakCause} (hcur : s.rc.current = some d)
    (h : s.resultBreaks = some cause) :
    s.rc.release = .inFlight ∧ d.copy.content.isArc = true ∧ s.breaks d cause := by
  have hstate : s.rc.release = .inFlight ∧ d.copy.content.isArc = true := by
    unfold State.resultBreaks at h
    split at h
    · rename_i e hrel he
      cases hcur.symm.trans he
      split at h
      · exact ⟨hrel, ‹_›⟩
      · cases h
    · cases h
  obtain ⟨hrel, harc⟩ := hstate
  exact ⟨hrel, harc, (resultBreaks_eq_some hrel hcur harc cause).1 h⟩

/-- A copy that a result breaks at once: what the break writes, the hall looked at again, and the result noted. -/
structure State.breaksAtOnce (s : State) (d : Current) (cause : BreakCause) (t : State) : Prop where
  written : (s.brokenBy d cause).observes t
  arc     : d.copy.content.isArc = true
  unclear : t.env.station ≠ .clear
  noted   : t.rc.lastNonclear = some s.time
  reason  : cause = .cutoff ∨ (cause = .hold ∧ s.cfg.params.breakMode = .breakFirst ∧ d.copy.content.kind = .cut
    ∧ d.brokenBefore = false)

/-- The result with which a copy is broken is found again after the break. -/
theorem breakCopy_breaksAtOnce {d : Current} {cause : BreakCause} (hrole : s.role = .cutter)
    (hrel : s.rc.release = .inFlight) (hcur : s.rc.current = some d) (harc : d.copy.content.isArc = true)
    (hbreaks : (evaluateAll s).breaks d cause) :
    s.breaksAtOnce d cause (breakCopy cause (evaluateAll s).noted) := by
  obtain ⟨pt, env, he⟩ := evaluateAll_writes s
  let v : State := (evaluateAll s).noted
  have hv : s.observes v := ⟨s.flc, pt, env, s.rc.live, some s.time, some ⟨s.time, s.cfg.params.resumeDelay⟩, by
    simp only [v, he]
    rfl⟩
  have hvcur : v.rc.current = some d := by simp only [v, he, State.noted, hcur]
  let w : State := announce true (v.brokenBy d cause)
  have hw : (s.brokenBy d cause).observes w := observes_trans (brokenBy_observes hv d cause) (announce_observes ..)
  have hbroken : breakCopy cause v = noteResult (evaluateAll w) := breakCopy_eq hvcur cause
  have hunclear : (evaluateAll s).env.station ≠ .clear := by rcases hbreaks with ⟨h, -⟩ | ⟨h, -⟩ <;> simp [h]
  have hstation : (evaluateAll w).env.station = (evaluateAll s).env.station := by
    have hwindow : w.windowUnderTest = s.windowUnderTest := by
      rw [windowUnderTest_current (.inl hrel) hcur]
      obtain ⟨_, _, _, _, _, _, hwritten⟩ := hw
      rw [windowUnderTest_current (c := d.broken cause) (.inr (by rw [hwritten]; rfl)) (by rw [hwritten]; rfl),
        hwritten]
      rfl
    refine evaluateAll_station_again hrole ?_ ?_ ?_ hwindow
    · simp [w, v, State.brokenBy, State.noted]
    · simp [w, v, State.brokenBy, State.noted]
    · simp [w, v, State.brokenBy, State.noted]
  have hwunclear : (evaluateAll w).env.station ≠ .clear := hstation ▸ hunclear
  refine ⟨?_, harc, ?_, ?_, ?_⟩
  · rw [hbroken]
    exact observes_trans hw (observes_trans (evaluateAll_observes w) (noteResult_observes _))
  · rw [hbroken, noteResult_nonclear hwunclear]
    exact hwunclear
  · rw [hbroken, noteResult_nonclear hwunclear]
    simp [State.noted, w, v, State.brokenBy]
  · rcases hbreaks with ⟨-, hcause⟩ | ⟨-, hcause, hmode, hcut, hbefore⟩
    · exact .inl hcause
    · exact .inr ⟨hcause, by rwa [he] at hmode, hcut, hbefore⟩

/-- The window of a copy in flight is evaluated: the copy flies on, with a result that is not CLEAR noted, or it is
broken at once (R14, R83, R89, R90). -/
theorem windowChanged_flies {d : Current} (hrole : s.role = .cutter) (hrel : s.rc.release = .inFlight)
    (hcur : s.rc.current = some d) :
    (s.observes (windowChanged s) ∧ (windowChanged s).rc.lastNonclear
        = if (windowChanged s).env.station = .clear then s.rc.lastNonclear else some s.time)
      ∨ ∃ cause, s.breaksAtOnce d cause (windowChanged s) := by
  obtain ⟨pt, env, he⟩ := evaluateAll_writes s
  have hobs := evaluateAll_observes s
  have hwindow : windowChanged s = handOn (evaluateAll s) := if_pos hrole
  rw [hwindow]
  by_cases hclear : (evaluateAll s).env.station = .clear
  · rw [handOn_clear hclear, if_pos hclear]
    exact .inl ⟨hobs, by rw [he]⟩
  · have hcur' : (evaluateAll s).noted.rc.current = some d := by simp only [he, State.noted, hcur]
    cases hbreaks : (evaluateAll s).noted.resultBreaks with
    | none =>
      have hnoted : handOn (evaluateAll s) = (evaluateAll s).noted := by
        simp only [handOn, noteResult_nonclear hclear, hbreaks]
      have hnotes := noteResult_observes (evaluateAll s)
      rw [noteResult_nonclear hclear] at hnotes
      rw [hnoted]
      refine .inl ⟨observes_trans hobs hnotes, ?_⟩
      rw [if_neg (show ¬ (evaluateAll s).noted.env.station = .clear from hclear)]
      simp only [State.noted, he]
    | some cause =>
      have hbroken : handOn (evaluateAll s) = breakCopy cause (evaluateAll s).noted := by
        simp only [handOn, noteResult_nonclear hclear, hbreaks]
      obtain ⟨-, harc, hcause⟩ := resultBreaks_breaks hcur' hbreaks
      rw [hbroken]
      exact .inr ⟨cause, breakCopy_breaksAtOnce hrole hrel hcur harc hcause⟩

/-! ### A copy that is released (R85, R86) -/

/-- A copy that goes for the first time bears no flags; one that goes again has been broken before. -/
theorem releasedCopy_brokenBefore {prev : Option Current}
    (h : again = true → ∃ b, prev = some b ∧ b.brokenBefore = true) :
    (releasedCopy prev c again legend).brokenBefore = again := by
  cases again with
  | false => rfl
  | true =>
    obtain ⟨b, rfl, hb⟩ := h rfl
    simp [releasedCopy, hb]

/-- The part `t` has released the copy `c`, which is in flight or has been broken at once. -/
structure State.releases (s : State) (c : Copy) (again : Bool) (legend : Option Legend) (d : Current) (t : State) :
    Prop where
  current  : t.rc.current = some d
  copy     : d.copy = c
  legend   : d.legend = legend
  halted   : d.halted = false
  first    : again = false → d.flushed = false
  flushed  : ∀ b, again = true → s.rc.current = some b → d.flushed = b.flushed
  head     : t.rc.head = if again then s.rc.head else none
  pierces  : t.rc.pierces = s.rc.pierces + (if c.content.pierceBearing again then 1 else 0)
  nonclear : t.rc.lastNonclear = if t.env.station = .clear then s.rc.lastNonclear else some s.time
  outcome  : (t.rc.release = .inFlight ∧ t.lu.arcPermit = c.content.isArc ∧ d.cause = none
        ∧ d.brokenBefore = again ∧ t.lc = s.lc
        ∧ t.rc.flightTimer = some ⟨s.time, c.content.budget + c.content.budget / 8
          + (if c.content.pierceBearing again then s.cfg.params.pierceAllowance else 0)⟩)
      ∨ (t.rc.release = .broken ∧ t.lu.arcPermit = false ∧ t.env.station ≠ .clear ∧ c.content.isArc = true
        ∧ (d.cause = some .cutoff ∨ (d.cause = some .hold ∧ s.cfg.params.breakMode = .breakFirst
          ∧ c.content.kind = .cut ∧ again = false))
        ∧ d.brokenBefore = true ∧ t.lc = s.lc.entered d .broken ∧ t.rc.haltTimer = some ⟨s.time, 2000⟩)
  stands   : t.sq = s.sq ∧ t.st = s.st ∧ t.su = s.su ∧ t.mu = s.mu ∧ t.sp.mode = s.sp.mode ∧ t.cfg = s.cfg

theorem startCopy_releases (hrole : s.role = .cutter)
    (h : again = true → ∃ b, s.rc.current = some b ∧ b.brokenBefore = true) :
    ∃ d, s.releases c again legend d (startCopy c again legend s) := by
  let d : Current := releasedCopy s.rc.current c again legend
  have hbefore : d.brokenBefore = again := releasedCopy_brokenBefore h
  have hfirst : again = false → d.flushed = false := by rintro rfl; rfl
  have hflushed (b : Current) (hagain : again = true) (hb : s.rc.current = some b) : d.flushed = b.flushed := by
    simp [d, releasedCopy, hagain, hb]
  have hmode := releasing_mode c again legend s
  obtain ⟨flc, hy⟩ := announce_writes c.content.isArc (s.releasing c again legend)
  rw [startCopy_eq, hy]
  generalize hu : { s.releasing c again legend with
    flc := flc
    rc := { (s.releasing c again legend).rc with live := (s.releasing c again legend).formLive } } = u
  have hurole : u.role = .cutter := by rw [← hu]; exact hrole
  have hurel : u.rc.release = .inFlight := by rw [← hu]; rfl
  have hucur : u.rc.current = some d := by rw [← hu]; rfl
  rcases windowChanged_flies hurole hurel hucur with ⟨⟨_, _, _, _, _, _, he⟩, hlast⟩ | ⟨cause, hbreaks⟩
  · rw [he] at hlast ⊢
    subst hu
    exact ⟨d, rfl, rfl, rfl, rfl, hfirst, hflushed, rfl, rfl, hlast, .inl ⟨rfl, rfl, rfl, hbefore, rfl, rfl⟩,
      rfl, rfl, rfl, rfl, hmode, rfl⟩
  · obtain ⟨⟨_, _, _, _, _, _, he⟩, harc, hunclear, hnoted, hreason⟩ := hbreaks
    rw [he] at hunclear hnoted ⊢
    subst hu
    refine ⟨d.broken cause, rfl, rfl, rfl, rfl, hfirst, hflushed, rfl, rfl, hnoted.trans (if_neg hunclear).symm,
      .inr ⟨rfl, rfl, hunclear, harc, ?_, rfl, rfl, rfl⟩, rfl, rfl, rfl, rfl, ?_, rfl⟩
    · exact hreason.imp (congrArg some) fun ⟨hcause, hmode, hcut, hnot⟩ =>
        ⟨congrArg some hcause, hmode, hcut, hbefore.symm.trans hnot⟩
    · simpa [State.brokenBy] using hmode

/-- The notice of the release comes directly after those already there (log 13). -/
theorem startCopy_notices (hroom : s.sp.notices.length < 32) :
    (s.sp.notices ++ [⟨s.time, goNotice c again legend⟩]) <+: (startCopy c again legend s).sp.notices := by
  let gone : State := raise (goNotice c again legend) s
  have hgone : gone.stands gone.pt.bare (s.sp.notices ++ [⟨s.time, goNotice c again legend⟩]) :=
    ⟨rfl, by rw [show gone.sp.notices = _ from raise_notices hroom]⟩
  have hreleasing : (s.releasing c again legend).stands gone.pt.bare
      (s.sp.notices ++ [⟨s.time, goNotice c again legend⟩]) := by
    obtain ⟨-, hprefix⟩ := ite_stands (p := c.content.pierceBearing again
        ∧ s.rc.pierces + (if c.content.pierceBearing again then 1 else 0) = s.cfg.params.pierceLimit)
      (raise_stands (.wearLimit .pierce) hgone) hgone
    refine ⟨by simp [gone, State.releasing], ?_⟩
    rw [State.releasing]
    exact hprefix
  rw [startCopy_eq]
  obtain ⟨-, hprefix⟩ := windowChanged_stands (announce_stands c.content.isArc hreleasing)
  exact hprefix

theorem judgeOnce_starts (hrole : s.role = .cutter) (hrel : s.rc.release = .waiting) (hhead : s.rc.head = some c)
    (hmay : s.mayRelease c.content false = true) (hcheck : releaseCheck c s = .ok legend)
    (hnest : c.content.isNest = false) : judgeOnce s = (startCopy c false legend s, false) := by
  simp only [judgeOnce, hrole, hrel, hhead, hmay, hcheck, hnest, if_true, Bool.false_eq_true, if_false]

theorem judgeOnce_resumes {b : Current} (hrole : s.role = .cutter) (hrel : s.rc.release = .broken)
    (hcur : s.rc.current = some b) (hhalted : b.halted = true) (hmay : s.mayRelease b.copy.content true = true) :
    judgeOnce s = (startCopy b.copy true b.legend s, false) := by
  simp only [judgeOnce, hrole, hrel, hcur, hhalted, hmay, and_self, if_true]

/-! ### A nest copy that is released (R84) -/

theorem isNest_eq_true {content : SegContent} (h : content.kind ∈ [CopyKind.nestStart, .nestEnd, .remnant]) :
    content.isNest = true := by
  revert h
  cases content <;> simp [SegContent.kind, SegContent.isNest]

theorem judgeOnce_nest (hrole : s.role = .cutter) (hrel : s.rc.release = .waiting) (hhead : s.rc.head = some c)
    (hmay : s.mayRelease c.content false = true) (hcheck : releaseCheck c s = .ok legend)
    (hnest : c.content.isNest = true) : judgeOnce s = (releaseNest c s, true) := by
  simp only [judgeOnce, hrole, hrel, hhead, hmay, hcheck, hnest, if_true]

/-- The stock effect reads the table, the parameters and the time alone (R119, R120). -/
theorem stockEffect_congr (content : SegContent) (hst : t.st = s.st) (hcfg : t.cfg = s.cfg) (htime : t.time = s.time) :
    (stockEffect content t).st = (stockEffect content s).st := by
  have hbed : t.bedRecord = s.bedRecord := by rw [State.bedRecord, State.bedRecord, hst]
  cases content with
  | nestEnd =>
    simp only [stockEffect, retireBed, hbed, hst]
    split <;> simp [hst]
  | remnant n l w k =>
    simp only [stockEffect, createRemnant, hbed, hst, hcfg, htime]
    split <;> simp only [hst]
  | _ => exact hst

/-- What the last copy's completion leaves of the queue's record (R70, R74). -/
theorem queueCompletes_last {cur : Cursor} {r : SegRecord} (hcursor : s.sq.cursor = some cur)
    (hlast : cur.copies ≤ cur.k + 1) (hheld : s.sq.held = [r]) :
    ∃ sp armed, queueCompletes s = ({ s with
        sp := sp
        sq := { s.sq with held := [], cursor := none, consumed := s.sq.consumed + 1, armed := armed } }, none)
      ∧ sp.mode = s.sp.mode := by
  let q : SegQueue := { s.sq with held := [], cursor := none, consumed := s.sq.consumed + 1 }
  obtain ⟨sp, armed, hlow, hmode, -⟩ := lowWater_writes { s with sq := q }
  let w : State := { s with sp := sp, sq := { q with armed := armed } }
  have hconsume : consumeHead s = w := by
    simp only [consumeHead, hheld]
    exact hlow
  refine ⟨sp, armed, ?_, hmode⟩
  simp only [queueCompletes, hcursor, if_neg (Nat.not_lt.2 hlast), hconsume]
  rw [formHead_empty (s := w) rfl]

/-- The part `t` has released a nest copy, the last of the only record held: its stock effect is applied and the record
consumed. -/
structure State.nests (s : State) (c : Copy) (t : State) : Prop where
  rests    : t.rc.release = .idle ∧ t.rc.head = none ∧ t.rc.current = none
  empty    : t.sq.held = [] ∧ t.sq.cursor = none
  consumed : t.sq.consumed = s.sq.consumed + 1
  counted  : t.sq.discarded = s.sq.discarded ∧ t.sq.accepted = s.sq.accepted
  stock    : t.st = (stockEffect c.content s).st
  lines    : t.lu = s.lu ∧ t.lc = s.lc
  wear     : t.rc.pierces = s.rc.pierces ∧ t.rc.arcMs = s.rc.arcMs
  stands   : t.su = s.su ∧ t.mu = s.mu ∧ t.sp.mode = s.sp.mode ∧ t.cfg = s.cfg

theorem releaseNest_last {cur : Cursor} {r : SegRecord} (hrole : s.role = .cutter) (hcur : s.rc.current = none)
    (hstop : s.rc.stopPending = false) (hcursor : s.sq.cursor = some cur) (hlast : cur.copies ≤ cur.k + 1)
    (hheld : s.sq.held = [r]) : s.nests c (releaseNest c s) := by
  let raised : State := raise (goNotice c false none) { s with rc := { s.rc with head := none, release := .inFlight } }
  let u : State := stockEffect c.content raised
  have hurc : u.rc = { s.rc with head := none, release := .inFlight } := by simp [u, raised]
  have husq : u.sq = s.sq := by simp [u, raised]
  have hst : u.st = (stockEffect c.content s).st :=
    stockEffect_congr _ (by simp [raised]) (by simp [raised]) (by simp [raised])
  obtain ⟨hlu, hlc, hsu, hmu, hmode, hcfg⟩ : u.lu = s.lu ∧ u.lc = s.lc ∧ u.su = s.su ∧ u.mu = s.mu
      ∧ u.sp.mode = s.sp.mode ∧ u.cfg = s.cfg := by simp [u, raised]
  obtain ⟨sp, armed, hqueue, hsp⟩ := queueCompletes_last (husq ▸ hcursor) hlast (husq ▸ hheld)
  let w : State := { u with
    sp := sp
    sq := { u.sq with held := [], cursor := none, consumed := u.sq.consumed + 1, armed := armed } }
  have hrest : w.rc.rest = { s.rc with head := none, release := .idle } := by
    simp only [Rc.rest, w, hurc]
    rfl
  have hrests := rest_observes (w := w) false ((role_of_cfg hcfg).trans hrole)
  have hnest : releaseNest c s = endStop (windowChanged (announce false { w with rc := w.rc.rest })) := by
    rw [releaseNest_eq, nestCompleted, show queueCompletes u = (w, none) from hqueue]
    rfl
  obtain ⟨_, _, _, _, _, _, he⟩ := hrests
  obtain ⟨hconsumed, hdiscarded, haccepted⟩ : u.sq.consumed + 1 = s.sq.consumed + 1
      ∧ u.sq.discarded = s.sq.discarded ∧ u.sq.accepted = s.sq.accepted := by simp [husq]
  rw [hnest, he, endStop_free (by simpa [hrest] using hstop), hrest]
  exact ⟨⟨rfl, rfl, hcur⟩, ⟨rfl, rfl⟩, hconsumed, ⟨hdiscarded, haccepted⟩, hst, ⟨hlu, hlc⟩, ⟨rfl, rfl⟩, hsu, hmu,
    hsp.trans hmode, hcfg⟩

theorem releaseNest_notices (hroom : s.sp.notices.length < 32) :
    (s.sp.notices ++ [⟨s.time, goNotice c false none⟩]) <+: (releaseNest c s).sp.notices := by
  let raised : State := raise (goNotice c false none) { s with rc := { s.rc with head := none, release := .inFlight } }
  have hnotices : raised.sp.notices = s.sp.notices ++ [⟨s.time, goNotice c false none⟩] :=
    raise_notices (s := { s with rc := { s.rc with head := none, release := .inFlight } }) hroom
  have hraised : raised.stands raised.pt.bare (s.sp.notices ++ [⟨s.time, goNotice c false none⟩]) :=
    ⟨rfl, by rw [hnotices]⟩
  obtain ⟨-, hprefix⟩ := afterCompletion_stands (queueCompletes (stockEffect c.content raised)).2 false
    (queueCompletes_stands (stockEffect_stands c.content hraised))
  exact hprefix

/-- The judgement ends with the nest copy, since no copy waits after it (R83, R84). -/
theorem settle_nest (hjudged : judgeOnce s = (t, true)) (hheld : s.sq.held ≠ []) (hidle : t.rc.release = .idle) :
    settle s = t := by
  obtain ⟨r, rest, hrecords⟩ := List.exists_cons_of_ne_nil hheld
  simp only [settle, hrecords, List.length_cons, settleFor, hjudged, judgeOnce_noWait (.inl hidle)]

/-! ### A copy that waits on (R82, R83) -/

theorem settle_holds (h : (s.rc.release = .waiting ∧ s.rc.head = some c ∧ s.mayRelease c.content false = false)
      ∨ (s.rc.release = .broken ∧ ∃ d, s.rc.current = some d ∧ d.copy = c
        ∧ (d.halted = false ∨ s.mayRelease c.content true = false))
      ∨ s.rc.release = .idle ∨ s.rc.release = .inFlight ∨ s.rc.release = .faulted) : settle s = s := by
  rcases h with ⟨hrel, hhead, hmay⟩ | ⟨hrel, d, hcur, rfl, hhalted | hmay⟩ | hrel | hrel | hrel
  · refine settle_waits fun c' again hwait => ?_
    simp only [Rc.waiting, hrel, hhead, Option.map_some, Option.some.injEq, Prod.mk.injEq] at hwait
    obtain ⟨rfl, rfl⟩ := hwait
    exact hmay
  · exact settle_noWait (.inr (.inr ⟨hrel, d, hcur, hhalted⟩))
  · refine settle_waits fun c' again hwait => ?_
    simp only [Rc.waiting, hrel, hcur, Option.map_some, Option.some.injEq, Prod.mk.injEq] at hwait
    obtain ⟨rfl, rfl⟩ := hwait
    exact hmay
  · exact settle_noWait (.inl hrel)
  · exact settle_noWait (.inr (.inl hrel))
  · exact settle_faulted hrel

end

/-- Settles O33: the expiry judges `resumed`, where each copy that may go is one release. -/
theorem resumeTimerJudgesTheWaitingCopy : Obligations.ResumeTimerJudgesTheWaitingCopy := by
  unfold Obligations.ResumeTimerJudgesTheWaitingCopy
  refine ⟨fun s content again => ⟨reasonsFor_nil_iff content, mayRelease_iff content⟩,
    fun s c again legend go hrole hdue hgo hwaits hmay => ?_,
    fun s c legend r cur hrole hdue hrel hhead hcur hkind hmay hcheck hheld hcursor hlast => ?_,
    fun s c hrole hdue h => ?_⟩
  · obtain ⟨hnotice, hnest⟩ : goNotice c again legend = go ∧ c.content.isNest = false := by
      split at hgo
      · rename_i hc
        simp [goNotice, hc, hgo, SegContent.isNest]
      · rename_i hc
        obtain ⟨-, rfl⟩ := hgo
        simp [goNotice, hc, SegContent.isNest]
      · rename_i hc
        obtain ⟨g, rfl, rfl⟩ := hgo
        simp [goNotice, hc, SegContent.isNest]
      · exact hgo.elim
    have hjudged : judgeOnce s.resumed = (startCopy c again legend s.resumed, false) := by
      rcases hwaits with ⟨hrel, hhead, rfl, hcheck⟩ | ⟨hrel, rfl, b, hcur, rfl, hhalted, -, rfl⟩
      · exact judgeOnce_starts (s := s.resumed) hrole hrel hhead hmay hcheck hnest
      · exact judgeOnce_resumes (s := s.resumed) hrole hrel hcur hhalted hmay
    have hbroken : again = true → ∃ b, s.rc.current = some b ∧ b.brokenBefore = true := by
      rcases hwaits with ⟨-, -, rfl, -⟩ | ⟨-, -, b, hcur, -, -, hbefore, -⟩
      · exact nofun
      · exact fun _ => ⟨b, hcur, hbefore⟩
    obtain ⟨d, h⟩ := startCopy_releases (s := s.resumed) (c := c) (legend := legend) hrole hbroken
    have hexec := exec_resumeTimer hdue
    rw [settle_once hjudged] at hexec
    refine ⟨_, d, hexec, h.current, h.copy, h.legend, h.halted, h.first, h.flushed, h.head, h.pierces, fun hroom => ?_,
      h.nonclear, h.outcome, h.stands⟩
    rw [← hnotice]
    exact startCopy_notices (s := s.resumed) hroom
  · have hnest := isNest_eq_true hkind
    obtain ⟨-, hstop, -⟩ := mayRelease_run hmay
    have h := releaseNest_last (s := s.resumed) (c := c) hrole hcur hstop hcursor hlast hheld
    obtain ⟨hidle, -⟩ := h.rests
    have hexec := exec_resumeTimer hdue
    rw [settle_nest (s := s.resumed) (judgeOnce_nest (s := s.resumed) hrole hrel hhead hmay hcheck hnest)
      (by rw [show s.resumed.sq.held = [r] from hheld]; exact List.cons_ne_nil _ _) hidle] at hexec
    obtain ⟨-, hhead', hcur'⟩ := h.rests
    obtain ⟨hempty, hcursor'⟩ := h.empty
    obtain ⟨hdiscarded, haccepted⟩ := h.counted
    obtain ⟨hlu, hlc⟩ := h.lines
    obtain ⟨hpierces, harcMs⟩ := h.wear
    obtain ⟨hsu, hmu, hmode, hcfg⟩ := h.stands
    refine ⟨_, hexec, hidle, hhead', hcur', hempty, hcursor', h.consumed, hdiscarded, haccepted, ?_, fun hroom => ?_,
      hlu, hlc, hpierces, harcMs, hsu, hmu, hmode, hcfg⟩
    · exact h.stock.trans (stockEffect_congr _ rfl rfl rfl)
    · have hnotice : goNotice c false none = .segmentGo c.seq c.k c.content.kind none false false true := by
        unfold goNotice
        cases hc : c.content <;> simp_all [SegContent.kind]
      rw [← hnotice]
      exact releaseNest_notices (s := s.resumed) hroom
  · exact (exec_resumeTimer hdue).trans (congrArg Host.Outcome.next (settle_holds (s := s.resumed) (c := c) h))

end Sys2Proof.Machine
end

section
/-! PROOF. A good image is loaded (R136, R139, R177 to R179). -/

namespace Sys2Proof.Machine

/-! ### The identity stands through the load (R177, R178) -/

/-- The parameters bear the role and the station of the identity block. -/
def Loading.bears (l : Loading) (role : Role) (station : Nat) : Prop :=
  l.params.role = role ∧ l.params.station = station

section
variable {role : Role} {station : Nat} {l : Loading}

theorem useBlock_bears {name : ImageBlock} {block : Option (List Byte)} {f : Loading → List Byte → Loading}
    {acc : Loading × List ImageBlock} (hf : ∀ l c, l.bears role station → (f l c).bears role station)
    (h : acc.1.bears role station) : (useBlock name block f acc).1.bears role station := by
  unfold useBlock
  split
  · exact hf _ _ h
  · exact h

theorem placeBed_bears (h : l.bears role station) : (adjust placeBed l).bears role station := by
  unfold Loading.bears adjust placeBed
  dsimp only
  split <;> exact h

theorem raiseSlots_bears (same : Bool) (t : Stock) (h : l.bears role station) :
    (adjust (raiseSlots same t) l).bears role station := by
  unfold Loading.bears adjust raiseSlots
  dsimp only
  split <;> exact h

theorem loadImage_bears (role : Role) (station : Nat) (identity bs : List Byte) :
    (loadImage role station identity bs).1.bears role station := by
  have hadjusted {l : Loading} (h : l.bears role station) :
      (adjust raiseLost (adjust raiseMargins (adjust placeBed l))).bears role station := placeBed_bears h
  have htemplates {l : Loading} {v : Text × List (List TemplateItem)} (h : l.bears role station) :
      (loadTemplates l v).bears role station := h
  unfold loadImage
  dsimp only
  refine hadjusted ?_
  split
  on_goal 1 => refine htemplates ?_
  all_goals exact useBlock_bears (fun _ _ h => h) (useBlock_bears (fun _ _ h => h) (useBlock_bears (fun _ _ h => h)
    (useBlock_bears (fun _ _ h => h) (useBlock_bears (fun _ _ h => h) (useBlock_bears (fun _ _ h => h)
      ⟨rfl, rfl⟩)))))

end

/-! ### The blocks that take their defaults (R177, R184) -/

/-- What a block that is not used adds to the list of those that take their defaults. -/
def skipped {α : Type} (name : ImageBlock) (block : Option α) : List ImageBlock :=
  if block.isSome then [] else [name]

theorem mem_skipped {α : Type} {n name : ImageBlock} {block : Option α} :
    n ∈ skipped name block ↔ n = name ∧ block = none := by
  cases block <;> simp [skipped]

theorem useBlock_skipped (name : ImageBlock) (block : Option (List Byte)) (f : Loading → List Byte → Loading)
    (acc : Loading × List ImageBlock) : (useBlock name block f acc).2 = acc.2 ++ skipped name block := by
  cases block <;> simp [useBlock, skipped]

theorem loadImage_skipped (role : Role) (station : Nat) (identity bs : List Byte) :
    (loadImage role station identity bs).2
      = skipped .geometry (usableBlock bs 1 (fun _ => 28)) ++ skipped .margins (usableBlock bs 2 (fun _ => 16))
        ++ skipped .timing (usableBlock bs 3 (fun _ => 33)) ++ skipped .wear (usableBlock bs 4 (fun _ => 5))
        ++ skipped .rackSlots (usableBlock bs 5 (fun c => 2 + fieldNat c 1 1))
        ++ skipped .groupsAndPins (usableBlock bs 6 groupsNeed)
        ++ skipped .templates ((imageBlock bs 7).bind readTemplates) := by
  unfold loadImage
  dsimp only
  split
  · rename_i v hv
    simp [useBlock_skipped, skipped, hv]
  · rename_i hv
    simp [useBlock_skipped, skipped, hv]

/-- A block is not used when it is not there, or shorter than it needs. -/
theorem usableBlock_none {bs : List Byte} {i : Nat} {need : List Byte → Nat} :
    usableBlock bs i need = none ↔ ∀ c, imageBlock bs i = some c → c.length < need c := by
  simp [usableBlock, Option.filter_eq_none_iff]

/-! ### The load (R179) -/

theorem keptRecord_eq (role : Role) (r : StockRecord) : keptRecord role r = { r with
    piece := if role = .rack then { r.piece with reservation := none } else r.piece
    custody := if r.custody = .offered then .held else if r.custody = .pending then .disputed else r.custody
    partner := if r.custody = .offered then none else r.partner
    timer := none } := by
  unfold keptRecord
  cases r.custody <;> simp

/-- The last check of R177 is that the identity can be read. -/
theorem imageIdentity_of_good {bs : List Byte} (h : imageFault bs = none) : (imageIdentity bs).isSome = true := by
  unfold imageFault at h
  split at h
  · cases h
  · split at h
    · cases h
    · split at h
      · cases h
      · split at h
        · cases h
        · rename_i hsome
          simpa [Option.isSome_iff_ne_none] using hsome

theorem exec_transfer_good {s : State} {d block : List Byte} {role : Role} {station : Nat}
    (hload : s.cfg.load = .loading) (hread : imageRead (s.cfg.image ++ d) = true)
    (hgood : imageFault (s.cfg.image ++ d) = none)
    (hidentity : imageIdentity (s.cfg.image ++ d) = some (role, station, block)) :
    exec (.i2cTransferDone true d) s = .next (succeed role station block
      { s with cfg := { s.cfg with image := s.cfg.image ++ d, refusals := 0 } }) := by
  refine congrArg Host.Outcome.next ?_
  have hjudged : judgeImage { s with cfg := { s.cfg with image := s.cfg.image ++ d, refusals := 0 } }
      = succeed role station block { s with cfg := { s.cfg with image := s.cfg.image ++ d, refusals := 0 } } := by
    simp only [judgeImage, hgood, hidentity]
  rw [if_pos hload, if_pos rfl, takeBytes, if_pos hread, hjudged]

/-- Settles O7: the state of a good load is `succeed`'s, and the blocks that take their defaults are those not used. -/
theorem goodImageIsLoaded : Obligations.GoodImageIsLoaded := by
  unfold Obligations.GoodImageIsLoaded
  refine ⟨fun s d hload hread hgood => ?_, fun role station block bs => ⟨fun name i need hname => ?_, ?_, ?_, ?_⟩,
    keptRecord_eq⟩
  · obtain ⟨⟨role, station, block⟩, hidentity⟩ := Option.isSome_iff_exists.1 (imageIdentity_of_good hgood)
    obtain ⟨hrole, hstation⟩ := raiseSlots_bears (decide (s.cfg.remembered = some (role, station))) s.st
      (loadImage_bears role station block (s.cfg.image ++ d))
    exact ⟨role, station, block, hidentity, hrole, hstation, exec_transfer_good hload hread hgood hidentity⟩
  · simp only [List.mem_cons, Prod.mk.injEq, List.not_mem_nil, or_false] at hname
    rcases hname with ⟨rfl, rfl, rfl⟩ | ⟨rfl, rfl, rfl⟩ | ⟨rfl, rfl, rfl⟩ | ⟨rfl, rfl, rfl⟩ <;>
      simp [loadImage_skipped, mem_skipped, usableBlock_none]
  · simp [loadImage_skipped, mem_skipped, usableBlock_none]
  · simp [loadImage_skipped, mem_skipped, usableBlock_none]
  · simp [loadImage_skipped, mem_skipped, Option.bind_eq_none_iff]

end Sys2Proof.Machine
end

section
/-! PROOF. The legend of a MARK: its source record, its rendered fields and the overflow rule (R105 to R109). -/

namespace Sys2Proof.Machine

/-! ### The literal that is dropped (R109) -/

/-- The literals among rendered items, in template order. -/
def literalItems (items : List (Bool × Text)) : List (Bool × Text) := items.filter (fun i => i.1)

/-- The fields among rendered items, in template order. -/
def fieldItems (items : List (Bool × Text)) : List (Bool × Text) := items.filter (fun i => !i.1)

/-- The fields alone are never longer than the joined items. -/
theorem length_joinItems_fieldItems_le (items : List (Bool × Text)) :
    (joinItems (fieldItems items)).length ≤ (joinItems items).length :=
  (List.filter_sublist.flatMap _).length_le

theorem fieldItems_of_no_literal {items : List (Bool × Text)} (h : literalItems items = []) :
    fieldItems items = items := by
  simpa [fieldItems, literalItems] using h

/-- The item dropped is the last literal: only fields stand after it, and every other item keeps its place. -/
theorem exists_dropLastLiteral {items : List (Bool × Text)} (h : literalItems items ≠ []) :
    ∃ before t after, items = before ++ (true, t) :: after ∧ literalItems after = []
      ∧ dropLastLiteral items = before ++ after := by
  obtain ⟨i, hi⟩ := List.exists_mem_of_ne_nil _ h
  obtain ⟨hmem, hliteral⟩ := List.mem_filter.1 hi
  obtain ⟨⟨b, t⟩, after, before, hafter, hb, hsplit, hdrop⟩ :=
    List.exists_of_eraseP (p := fun i : Bool × Text => i.1) (List.mem_reverse.2 hmem) hliteral
  obtain rfl : b = true := hb
  refine ⟨before.reverse, t, after.reverse, ?_, ?_, ?_⟩
  · simpa using congrArg List.reverse hsplit
  · simpa [literalItems] using hafter
  · simp [dropLastLiteral, hdrop]

theorem fieldItems_dropLastLiteral {items : List (Bool × Text)} (h : literalItems items ≠ []) :
    fieldItems (dropLastLiteral items) = fieldItems items := by
  obtain ⟨before, t, after, rfl, -, hdrop⟩ := exists_dropLastLiteral h
  simp [hdrop, fieldItems]

theorem length_literalItems_dropLastLiteral {items : List (Bool × Text)} (h : literalItems items ≠ []) :
    (literalItems (dropLastLiteral items)).length + 1 = (literalItems items).length := by
  obtain ⟨before, t, after, rfl, -, hdrop⟩ := exists_dropLastLiteral h
  simp [hdrop, literalItems, Nat.add_assoc]

/-! ### The overflow rule (R109) -/

/-- What is left of the items when the last literal has been dropped `k` times. -/
def afterDrops (k : Nat) (items : List (Bool × Text)) : List (Bool × Text) := Nat.repeat dropLastLiteral k items

theorem afterDrops_zero (items : List (Bool × Text)) : afterDrops 0 items = items := rfl

/-- The first of several drops may be taken ahead of the others. -/
theorem afterDrops_succ (k : Nat) (items : List (Bool × Text)) :
    afterDrops (k + 1) items = afterDrops k (dropLastLiteral items) := by
  induction k with
  | zero => rfl
  | succ k ih => exact congrArg dropLastLiteral ih

/-- `k` drops are what it takes: there are as many literals, the legend then fits, and after fewer drops it does not. -/
structure FitsAfter (items : List (Bool × Text)) (k : Nat) : Prop where
  literals : k ≤ (literalItems items).length
  fits     : (joinItems (afterDrops k items)).length ≤ 40
  needed   : ∀ j, j < k → 40 < (joinItems (afterDrops j items)).length

theorem fitsAfter_zero {items : List (Bool × Text)} (h : (joinItems items).length ≤ 40) : FitsAfter items 0 :=
  ⟨Nat.zero_le _, h, fun _ hj => absurd hj (Nat.not_lt_zero _)⟩

theorem FitsAfter.succ {items : List (Bool × Text)} {k : Nat} (hlong : 40 < (joinItems items).length)
    (hliteral : literalItems items ≠ []) (h : FitsAfter (dropLastLiteral items) k) : FitsAfter items (k + 1) where
  literals := length_literalItems_dropLastLiteral hliteral ▸ Nat.succ_le_succ h.literals
  fits := by simpa only [afterDrops_succ] using h.fits
  needed
    | 0, _ => hlong
    | j + 1, hj => by simpa only [afterDrops_succ] using h.needed j (Nat.lt_of_succ_lt_succ hj)

theorem fitLegend_of_fits {items : List (Bool × Text)} (fuel dropped : Nat) (h : (joinItems items).length ≤ 40) :
    fitLegend fuel dropped items = some ⟨joinItems items, dropped⟩ := by
  rw [fitLegend.eq_def]
  exact if_pos h

theorem fitLegend_of_no_literal {items : List (Bool × Text)} (fuel dropped : Nat)
    (hlong : 40 < (joinItems items).length) (h : literalItems items = []) : fitLegend fuel dropped items = none := by
  rw [fitLegend.eq_def]
  refine (if_neg (Nat.not_le.2 hlong)).trans ?_
  cases fuel with
  | zero => rfl
  | succ fuel => exact if_neg (by simpa [literalItems] using h)

theorem fitLegend_of_literal {items : List (Bool × Text)} (fuel dropped : Nat)
    (hlong : 40 < (joinItems items).length) (h : literalItems items ≠ []) :
    fitLegend (fuel + 1) dropped items = fitLegend fuel (dropped + 1) (dropLastLiteral items) := by
  rw [fitLegend.eq_def]
  exact (if_neg (Nat.not_le.2 hlong)).trans (if_pos (by simpa [literalItems] using h))

/-- With fuel for every literal, either the fields alone are too long and there is no legend, or the legend is what is
left after the drops it takes. -/
theorem fitLegend_cases {fuel : Nat} {items : List (Bool × Text)} (dropped : Nat)
    (hfuel : (literalItems items).length ≤ fuel) :
    (40 < (joinItems (fieldItems items)).length ∧ fitLegend fuel dropped items = none)
    ∨ (joinItems (fieldItems items)).length ≤ 40 ∧ ∃ k, FitsAfter items k
        ∧ fitLegend fuel dropped items = some ⟨joinItems (afterDrops k items), dropped + k⟩ := by
  induction fuel generalizing items dropped with
  | zero =>
    have hnone : literalItems items = [] := List.eq_nil_of_length_eq_zero (Nat.le_zero.1 hfuel)
    by_cases hfits : (joinItems items).length ≤ 40
    · exact .inr ⟨(length_joinItems_fieldItems_le items).trans hfits, 0, fitsAfter_zero hfits,
        fitLegend_of_fits 0 dropped hfits⟩
    · rw [fieldItems_of_no_literal hnone]
      exact .inl ⟨Nat.not_le.1 hfits, fitLegend_of_no_literal 0 dropped (Nat.not_le.1 hfits) hnone⟩
  | succ fuel ih =>
    by_cases hfits : (joinItems items).length ≤ 40
    · exact .inr ⟨(length_joinItems_fieldItems_le items).trans hfits, 0, fitsAfter_zero hfits,
        fitLegend_of_fits _ dropped hfits⟩
    have hlong : 40 < (joinItems items).length := Nat.not_le.1 hfits
    by_cases hnone : literalItems items = []
    · rw [fieldItems_of_no_literal hnone]
      exact .inl ⟨hlong, fitLegend_of_no_literal _ dropped hlong hnone⟩
    · have hless := length_literalItems_dropLastLiteral hnone
      rw [fitLegend_of_literal fuel dropped hlong hnone, ← fieldItems_dropLastLiteral hnone]
      refine (ih (items := dropLastLiteral items) (dropped + 1) (by omega)).imp_right ?_
      rintro ⟨hfields, k, hk, heq⟩
      refine ⟨hfields, k + 1, hk.succ hlong hnone, ?_⟩
      rw [heq, afterDrops_succ, Nat.add_assoc, Nat.add_comm 1 k]

/-- The overflow rule as the composer applies it: with fuel for every item, from no literal dropped. -/
theorem fitLegend_length_cases (items : List (Bool × Text)) :
    (40 < (joinItems (fieldItems items)).length ∧ fitLegend items.length 0 items = none)
    ∨ (joinItems (fieldItems items)).length ≤ 40 ∧ ∃ k, FitsAfter items k
        ∧ fitLegend items.length 0 items = some ⟨joinItems (afterDrops k items), k⟩ := by
  simpa only [Nat.zero_add] using fitLegend_cases 0 (List.length_filter_le (fun i => i.1) items)

theorem fitLegend_eq_none_iff (items : List (Bool × Text)) :
    fitLegend items.length 0 items = none ↔ 40 < (joinItems (fieldItems items)).length := by
  rcases fitLegend_length_cases items with ⟨hlong, hnone⟩ | ⟨hshort, k, -, hsome⟩
  · simp [hlong, hnone]
  · simp [hshort, hsome]

theorem fitLegend_eq_some {items : List (Bool × Text)} {l : Legend} (h : fitLegend items.length 0 items = some l) :
    l.text = joinItems (afterDrops l.dropped items) ∧ FitsAfter items l.dropped := by
  rcases fitLegend_length_cases items with ⟨-, hnone⟩ | ⟨-, k, hk, hsome⟩
  · cases hnone.symm.trans h
  · obtain rfl := Option.some.inj (hsome.symm.trans h)
    exact ⟨rfl, hk⟩

/-! ### The source record (R105, R106) -/

section
variable {s : State} {seq : Seq} {template serial n : Nat} {target : MarkTarget} {part : Option Text}

theorem compose_of_no_source (h : s.markSource target = none) :
    compose s seq template target part = .error .noSourceRecord := by
  rw [compose, h]

/-- The legend of a source record, from the items of the named template rendered in their order. -/
theorem compose_of_source {source : Piece} {l : List TemplateItem}
    (htemplate : s.cfg.params.templates[template]? = some l) (h : s.markSource target = some source) :
    compose s seq template target part
      = (fitLegend (l.map (renderItem s.cfg.params source part seq)).length 0
          (l.map (renderItem s.cfg.params source part seq))).elim (.error .legendLong) .ok := by
  have hitems : s.cfg.params.templates.getD template defaultTemplate = l := by
    rw [List.getD_eq_getElem?_getD, htemplate, Option.getD_some]
  simp only [compose, h, hitems]
  cases fitLegend _ 0 (l.map (renderItem s.cfg.params source part seq)) <;> rfl

theorem markSource_part : s.markSource .part = s.bedRecord.map (fun r => r.piece) := rfl

theorem markSource_remnant_of_no_record (h : s.st.find ⟨s.cfg.params.station, serial⟩ = none) :
    s.markSource (.remnant serial) = none := by
  simp [State.markSource, Stock.record, h]

theorem markSource_remnant {r : StockRecord} (hfind : s.st.find ⟨s.cfg.params.station, serial⟩ = some n)
    (hat : entryAt s.st.records n = some r) :
    s.markSource (.remnant serial)
      = if r.piece.kind = .remnant ∧ r.location = .table then some r.piece else none := by
  simp [State.markSource, Stock.record, hfind, hat]

end

/-! ### Numbers in decimal digits (R107) -/

/-- A text is of decimal digits and reads as a number. -/
def readsAs (t : Text) (n : Nat) : Prop :=
  (∀ b ∈ t, 48 ≤ b.toNat ∧ b.toNat ≤ 57) ∧ t.foldl (fun a b => 10 * a + (b.toNat - 48)) 0 = n

theorem digit_toNat (n : Nat) : (digit n).toNat = 48 + n % 10 := by
  rw [digit, BitVec.toNat_ofNat]
  omega

theorem readsAs_nil : readsAs [] 0 := ⟨by simp, rfl⟩

theorem readsAs_concat {t : Text} {m : Nat} (n : Nat) (h : readsAs t m) :
    readsAs (t ++ [digit n]) (10 * m + n % 10) := by
  obtain ⟨hdigits, hvalue⟩ := h
  refine ⟨fun b hb => ?_, ?_⟩
  · rcases List.mem_append.1 hb with hb | hb
    · exact hdigits b hb
    · rw [List.mem_singleton.1 hb, digit_toNat]
      omega
  · rw [List.foldl_append, hvalue, List.foldl_cons, List.foldl_nil, digit_toNat, Nat.add_sub_cancel_left]

theorem readsAs_digit (n : Nat) : readsAs [digit n] (n % 10) := by
  simpa using readsAs_concat n readsAs_nil

/-- Leading zeros do not change the number. -/
theorem readsAs_dropWhile_zero {t : Text} {n : Nat} (h : readsAs t n) :
    readsAs (t.dropWhile (fun b => b == 48#8)) n := by
  induction t with
  | nil => exact h
  | cons b t ih =>
    rw [List.dropWhile_cons]
    split
    next hzero =>
      obtain rfl : b = 48#8 := by simpa using hzero
      obtain ⟨hdigits, hvalue⟩ := h
      exact ih ⟨fun b hb => hdigits b (List.mem_cons_of_mem _ hb), hvalue⟩
    next => exact h

theorem length_fixedDigits (k n : Nat) : (fixedDigits k n).length = k := by
  induction k generalizing n with
  | zero => rfl
  | succ k ih => simp [fixedDigits, ih]

theorem fixedDigits_readsAs {k n : Nat} (h : n < 10 ^ k) : readsAs (fixedDigits k n) n := by
  induction k generalizing n with
  | zero =>
    obtain rfl : n = 0 := by simpa using h
    exact readsAs_nil
  | succ k ih =>
    have hrest := readsAs_concat n (ih (Nat.div_lt_of_lt_mul (by rwa [Nat.pow_succ'] at h)))
    rwa [Nat.div_add_mod] at hrest

/-- A number with leading zeros to a fixed length. -/
theorem fixedDigits_fixed {k n : Nat} (h : n < 10 ^ k) :
    (fixedDigits k n).length = k ∧ readsAs (fixedDigits k n) n :=
  ⟨length_fixedDigits k n, fixedDigits_readsAs h⟩

/-- A number without leading zeros: only 0 itself begins with a zero. -/
theorem decimal_plain {n : Nat} (h : n < 10 ^ 9) :
    readsAs (decimal n) n ∧ decimal n ≠ [] ∧ ((decimal n).head? = some 48#8 → (decimal n).length = 1) := by
  have hreads := readsAs_dropWhile_zero (fixedDigits_readsAs h)
  have hhead := List.head?_dropWhile_not (fun b => b == 48#8) (fixedDigits 9 n)
  unfold decimal
  cases hkept : (fixedDigits 9 n).dropWhile (fun b => b == 48#8) with
  | nil =>
    obtain rfl : 0 = n := (hkept ▸ hreads).2
    exact ⟨readsAs_digit 0, by simp, fun _ => rfl⟩
  | cons b t =>
    rw [hkept] at hreads hhead
    exact ⟨hreads, by simp, fun hzero => by simp [Option.some.inj hzero] at hhead⟩

/-! ### The obligation -/

/-- Settles O41: the overflow rule is `fitLegend_eq_none_iff` and `fitLegend_eq_some`, the source record that of
`markSource`, and the digits those of `fixedDigits_fixed` and `decimal_plain`. -/
theorem legendDropsLiteralsFromTheEnd : Obligations.LegendDropsLiteralsFromTheEnd := by
  unfold Obligations.LegendDropsLiteralsFromTheEnd
  refine ⟨fun items => ⟨fitLegend_eq_none_iff items, fun l hl => ?_⟩, ?_, ?_⟩
  · obtain ⟨htext, hfits⟩ := fitLegend_eq_some hl
    exact ⟨htext, htext ▸ hfits.fits, hfits.literals, hfits.needed⟩
  · intro s seq template target part l htemplate run from_
    have hfrom (p : Piece) (hsource : s.markSource target = some p) : from_ p := by
      have hrun := compose_of_source (seq := seq) (part := part) htemplate hsource
      exact ⟨fun g hg => hrun.trans (congrArg (Option.elim · _ _) hg),
        fun hnone => hrun.trans (congrArg (Option.elim · _ _) hnone)⟩
    refine ⟨?_, ?_⟩
    · rintro rfl
      exact ⟨fun hbed => compose_of_no_source (by rw [markSource_part, hbed, Option.map_none]),
        fun r hbed => hfrom r.piece (by rw [markSource_part, hbed, Option.map_some])⟩
    · rintro serial rfl
      refine ⟨fun hfind => compose_of_no_source (markSource_remnant_of_no_record hfind), fun n r hfind hat => ?_⟩
      have hsource := markSource_remnant hfind hat
      refine ⟨fun hkind htable => hfrom r.piece (by rw [hsource, if_pos ⟨hkind, htable⟩]), fun hother => ?_⟩
      refine compose_of_no_source (hsource.trans (if_neg ?_))
      rintro ⟨hkind, htable⟩
      rcases hother with hplate | haway
      · cases hplate.symm.trans hkind
      · exact haway htable
  · intro p source part seq text reads fixed plain
    refine ⟨?_, ?_, rfl, fun hgrade => ⟨_, rfl, fixedDigits_fixed (by omega)⟩, fun hthick => ?_,
      fun horigin hserial => ?_, fun hlength hwidth => ?_, fun hstation => fixedDigits_fixed (by omega)⟩
    · rintro t rfl
      rfl
    · rintro rfl
      exact ⟨_, rfl, fixedDigits_fixed (seq.isLt.trans (by decide))⟩
    · exact ⟨_, _, rfl, decimal_plain (by omega), rfl, readsAs_digit _⟩
    · exact ⟨_, _, List.append_assoc .., fixedDigits_fixed (by omega), fixedDigits_fixed (by omega)⟩
    · exact ⟨_, _, List.append_assoc .., decimal_plain (by omega), decimal_plain (by omega)⟩

end Sys2Proof.Machine
end

section
/-! PROOF. The soundness of the stock table (R117, R137): what it reads of a table, and what records that enter, change,
leave and retire make of it. -/

namespace Sys2Proof.Machine

/-! ### What the soundness reads (R117, R137) -/

/-- What the soundness of a stock table reads: the ID and the location of each record, the bed pointer and the retired
list. -/
def Stock.outline (t : Stock) : List (Option (StockId × Location)) × Option Nat × List StockId :=
  (t.records.map (fun o => o.map (fun r => (r.piece.id, r.location))), t.bed, t.retired)

theorem outline_eq_iff {t u : Stock} : u.outline = t.outline ↔
    u.records.map (fun o => o.map (fun r => (r.piece.id, r.location)))
      = t.records.map (fun o => o.map (fun r => (r.piece.id, r.location)))
    ∧ u.bed = t.bed ∧ u.retired = t.retired := by
  simp [Stock.outline]

/-- Tables of one outline hold a record of one ID and one location at each position. -/
theorem entryAt_outline {t u : Stock} (h : u.outline = t.outline) (n : Nat) :
    (entryAt u.records n).map (fun r => (r.piece.id, r.location))
      = (entryAt t.records n).map (fun r => (r.piece.id, r.location)) := by
  rw [← entryAt_map, ← entryAt_map, (outline_eq_iff.1 h).1]

theorem exists_entryAt_outline {t u : Stock} (h : u.outline = t.outline) {n : Nat} {r : StockRecord}
    (hr : entryAt u.records n = some r) :
    ∃ q, entryAt t.records n = some q ∧ q.piece.id = r.piece.id ∧ q.location = r.location := by
  have hmap := entryAt_outline h n
  rw [hr, Option.map_some, eq_comm, Option.map_eq_some_iff] at hmap
  obtain ⟨q, hq, hqr⟩ := hmap
  exact ⟨q, hq, congrArg Prod.fst hqr, congrArg Prod.snd hqr⟩

/-- A table of the outline of a sound one is sound. -/
theorem sound_of_outline {t u : Stock} (ht : t.sound) (h : u.outline = t.outline) : u.sound := by
  obtain ⟨hids, hlive, hbed, hpointer, hslots, hnodup⟩ := ht
  obtain ⟨-, hb, hret⟩ := outline_eq_iff.1 h
  refine ⟨fun m n r q hr hq hid => ?_, fun n r hr => ?_, fun n r hr => ?_, fun n hn => ?_,
    fun m n r q k hr hq hk hk' => ?_, hret ▸ hnodup⟩
  · obtain ⟨r', hr', hrid, -⟩ := exists_entryAt_outline h hr
    obtain ⟨q', hq', hqid, -⟩ := exists_entryAt_outline h hq
    exact hids m n r' q' hr' hq' (hrid.trans (hid.trans hqid.symm))
  · obtain ⟨r', hr', hrid, -⟩ := exists_entryAt_outline h hr
    rw [hret, ← hrid]
    exact hlive n r' hr'
  · obtain ⟨r', hr', -, hloc⟩ := exists_entryAt_outline h hr
    rw [hb, ← hloc]
    exact hbed n r' hr'
  · have hmap := congrArg Option.isSome (entryAt_outline h n)
    rw [Option.isSome_map, Option.isSome_map] at hmap
    rw [hmap]
    exact hpointer n (hb ▸ hn)
  · obtain ⟨r', hr', -, hrloc⟩ := exists_entryAt_outline h hr
    obtain ⟨q', hq', -, hqloc⟩ := exists_entryAt_outline h hq
    exact hslots m n r' q' k hr' hq' (hrloc.trans hk) (hqloc.trans hk')

/-! ### Records that change (R116) -/

/-- A change of a record that leaves its ID and its location as they stand. -/
def keepsPlace (f : StockRecord → StockRecord) : Prop := ∀ r, (f r).piece.id = r.piece.id ∧ (f r).location = r.location

theorem modifyAt_outline {f : StockRecord → StockRecord} (hf : keepsPlace f) (l : List (Option StockRecord))
    (n : Nat) : (modifyAt l n f).map (fun o => o.map (fun r => (r.piece.id, r.location)))
      = l.map (fun o => o.map (fun r => (r.piece.id, r.location))) := by
  apply List.ext_getElem?
  intro m
  simp only [modifyAt, List.getElem?_map, List.getElem?_modify]
  split
  · cases l[m]? with
    | none => rfl
    | some o => cases o <;> simp [hf _]
  · simp

theorem update_outline {f : StockRecord → StockRecord} (hf : keepsPlace f) (t : Stock) (n : Nat) :
    (t.update n f).outline = t.outline :=
  outline_eq_iff.2 ⟨modifyAt_outline hf t.records n, rfl, rfl⟩

/-- Changing every record, each at its place. -/
theorem map_outline {f : StockRecord → StockRecord} (hf : keepsPlace f) (l : List (Option StockRecord)) :
    (l.map (fun o => o.map f)).map (fun o => o.map (fun r => (r.piece.id, r.location)))
      = l.map (fun o => o.map (fun r => (r.piece.id, r.location))) := by
  rw [List.map_map]
  refine List.map_congr_left fun o _ => ?_
  cases o <;> simp [hf _]

@[simp] theorem setSlot_outline (t : Stock) (n : Nat) (o : Option HeldOffer) :
    (t.setSlot n o).outline = t.outline := by
  unfold Stock.setSlot
  split <;> rfl

@[simp] theorem setMarked_outline (t : Stock) (i : StockId) : (t.setMarked i).outline = t.outline := by
  unfold Stock.setMarked
  split
  · exact update_outline (by intro; exact ⟨rfl, rfl⟩) t _
  · rfl

@[simp] theorem reserveFor_outline (t : Stock) (i : StockId) (station : Option Nat) :
    (t.reserveFor i station).outline = t.outline := by
  unfold Stock.reserveFor
  split
  · exact update_outline (by intro; exact ⟨rfl, rfl⟩) t _
  · rfl

@[simp] theorem restart_outline (t : Stock) : t.restart.outline = t.outline :=
  outline_eq_iff.2 ⟨map_outline (f := StockRecord.stopped) (fun _ => ⟨rfl, rfl⟩) t.records, rfl, rfl⟩

theorem keptRecord_keepsPlace (role : Role) : keepsPlace (keptRecord role) := by
  intro r
  unfold keptRecord
  split <;> constructor <;> dsimp only <;> split <;> rfl

@[simp] theorem keep_outline (t : Stock) (role : Role) (slotCount : Nat) :
    (t.keep role slotCount).outline = t.outline :=
  outline_eq_iff.2 ⟨map_outline (keptRecord_keepsPlace role) t.records, rfl, rfl⟩

/-! ### Records that enter, leave and retire (R117, R120) -/

/-- The lowest empty position is empty, and a position of the table (R117). -/
theorem lowestEmpty_some {α : Type} {l : List (Option α)} {n : Nat} (h : lowestEmpty l = some n) :
    n < l.length ∧ entryAt l n = none := by
  obtain ⟨hn, hnone, -⟩ := List.findIdx?_eq_some_iff_getElem.1 h
  refine ⟨hn, ?_⟩
  rw [entryAt, List.getElem?_eq_getElem hn, Option.isNone_iff_eq_none.1 hnone]
  rfl

theorem atSlot_none {t : Stock} {k : Nat} (h : t.atSlot k = none) {n : Nat} {r : StockRecord}
    (hr : entryAt t.records n = some r) : r.location ≠ .slot k := by
  have hall := List.find?_eq_none.1 h r (mem_entriesOf.2 ⟨n, hr⟩)
  simpa using hall

/-- A location that a record may take: the bed while it is empty, a slot while no record is there, the table and the
hook (R117, R137). -/
structure Stock.opens (t : Stock) (loc : Location) : Prop where
  bed  : loc = .bed → t.bed = none
  slot : ∀ k, loc = .slot k → t.atSlot k = none

theorem opens_table (t : Stock) : t.opens .table where
  bed h := by cases h
  slot _ h := by cases h

theorem opens_hook (t : Stock) : t.opens .hook where
  bed h := by cases h
  slot _ h := by cases h

theorem opens_bed {t : Stock} (h : t.bed = none) : t.opens .bed where
  bed _ := h
  slot _ h := by cases h

theorem opens_slot {t : Stock} {k : Nat} (h : t.atSlot k = none) : t.opens (.slot k) where
  bed h := by cases h
  slot _ hk := by cases hk; exact h

/-- A record may enter a table that does not hold its ID, has not retired it, and has its location open (R117). -/
structure Stock.admits (t : Stock) (r : StockRecord) : Prop where
  absent  : t.find r.piece.id = none
  current : r.piece.id ∉ t.retired
  place   : t.opens r.location

theorem enter_sound {t : Stock} {r : StockRecord} (h : t.sound) (hr : t.admits r) : (t.enter r).sound := by
  unfold Stock.enter
  split
  · rename_i n hn
    obtain ⟨hlt, hempty⟩ := lowestEmpty_some hn
    obtain ⟨hids, hlive, hbed, hpointer, hslots, hnodup⟩ := h
    have hother {m : Nat} {q : StockRecord} (hq : entryAt t.records m = some q) : q.piece.id ≠ r.piece.id := by
      simpa using findPos_none hr.absent hq
    have hfree {m : Nat} (hm : t.bed = some m) : m ≠ n := by
      rintro rfl
      simpa [hempty] using hpointer m hm
    refine ⟨fun i j a b ha hb hid => ?_, fun i a ha => ?_, fun i a ha => ?_, fun i hi => ?_,
      fun i j a b k ha hb hka hkb => ?_, hnodup⟩
    · rcases entryAt_set_cases ha with ⟨hi, he⟩ | ⟨-, ha⟩ <;> rcases entryAt_set_cases hb with ⟨hj, he'⟩ | ⟨-, hb⟩
      · exact hi.trans hj.symm
      · cases he
        exact absurd hid.symm (hother hb)
      · cases he'
        exact absurd hid (hother ha)
      · exact hids i j a b ha hb hid
    · rcases entryAt_set_cases ha with ⟨-, he⟩ | ⟨-, ha⟩
      · cases he
        exact hr.current
      · exact hlive i a ha
    · rcases entryAt_set_cases ha with ⟨rfl, he⟩ | ⟨hne, ha⟩
      · cases he
        dsimp only
        split
        · simp [*]
        · exact iff_of_false ‹_› fun hm => hfree hm rfl
      · dsimp only
        split
        · rename_i hloc
          have hnone := hr.place.bed hloc
          rw [hbed i a ha, hnone]
          simp [Ne.symm hne]
        · exact hbed i a ha
    · have hset : (if r.location = .bed then some n else t.bed) = some i := hi
      by_cases hi' : i = n
      · subst hi'
        simp [entryAt, hlt]
      · split at hset
        · exact absurd (Option.some.inj hset).symm hi'
        · have hat := hpointer i hset
          dsimp only
          rwa [entryAt, List.getElem?_set_ne (Ne.symm hi'), ← entryAt]
    · rcases entryAt_set_cases ha with ⟨hi, he⟩ | ⟨-, ha⟩ <;> rcases entryAt_set_cases hb with ⟨hj, he'⟩ | ⟨-, hb⟩
      · exact hi.trans hj.symm
      · cases he
        exact absurd hkb (atSlot_none (hr.place.slot k hka) hb)
      · cases he'
        exact absurd hka (atSlot_none (hr.place.slot k hkb) ha)
      · exact hslots i j a b k ha hb hka hkb
  · exact h

theorem remove_sound {t : Stock} (n : Nat) (h : t.sound) : (t.remove n).sound := by
  obtain ⟨hids, hlive, hbed, hpointer, hslots, hnodup⟩ := h
  have hold {m : Nat} {q : StockRecord} (hq : entryAt (t.remove n).records m = some q) :
      m ≠ n ∧ entryAt t.records m = some q := by
    rcases entryAt_set_cases hq with ⟨-, he⟩ | hat
    · cases he
    · exact hat
  refine ⟨fun i j a b ha hb => hids i j a b (hold ha).2 (hold hb).2, fun i a ha => hlive i a (hold ha).2,
    fun i a ha => ?_, fun i hi => ?_, fun i j a b k ha hb => hslots i j a b k (hold ha).2 (hold hb).2, hnodup⟩
  · obtain ⟨hne, ha⟩ := hold ha
    rw [hbed i a ha]
    change t.bed = some i ↔ (if t.bed = some n then none else t.bed) = some i
    split
    · simp [*, Ne.symm hne]
    · rfl
  · change (if t.bed = some n then none else t.bed) = some i at hi
    split at hi
    · cases hi
    · have hne : i ≠ n := by
        rintro rfl
        contradiction
      change (entryAt (t.records.set n none) i).isSome = true
      rw [entryAt, List.getElem?_set_ne (Ne.symm hne), ← entryAt]
      exact hpointer i hi

/-- An ID that no record bears may retire. -/
theorem retire_sound {t : Stock} {i : StockId} (h : t.sound) (hi : i ∉ t.retired)
    (hnone : ∀ n r, entryAt t.records n = some r → r.piece.id ≠ i) : (t.retire i).sound := by
  obtain ⟨hids, hlive, hbed, hpointer, hslots, hnodup⟩ := h
  refine ⟨hids, fun n r hr hmem => ?_, hbed, hpointer, hslots, ?_⟩
  · rcases List.mem_cons.1 (List.mem_of_mem_take hmem) with he | hmem
    · exact hnone n r hr he
    · exact hlive n r hr hmem
  · exact (List.nodup_cons.2 ⟨hi, hnodup⟩).sublist (List.take_sublist ..)

/-- The record of a position is removed and its ID retired (R120). -/
theorem remove_retire_sound {t : Stock} {n : Nat} {r : StockRecord} (h : t.sound) (hr : entryAt t.records n = some r) :
    ((t.remove n).retire r.piece.id).sound := by
  refine retire_sound (remove_sound n h) (h.2.1 n r hr) fun m q hq hid => ?_
  rcases entryAt_set_cases hq with ⟨-, he⟩ | ⟨hne, hq⟩
  · cases he
  · exact hne (h.1 m n q r hq hr hid)

theorem reset_sound : Stock.reset.sound := resetMeetsEveryInvariant.2.2.2.2.1

end Sys2Proof.Machine
end

section
/-! PROOF. The operations that leave the outline of the stock table as it stands: no record enters, leaves, moves or
retires (R105 to R113, R121 to R131, R140 to R149). -/

namespace Sys2Proof.Machine

/-! ### Telegrams, offers and marks -/

@[simp] theorem countStockRefusal_outline (s : State) : (countStockRefusal s).st.outline = s.st.outline := rfl

@[simp] theorem ignoreCustody_outline (s : State) : (ignoreCustody s).st.outline = s.st.outline := rfl

@[simp] theorem countSearch_outline (f : SearchCounts → SearchCounts) (s : State) :
    (countSearch f s).st.outline = s.st.outline := rfl

@[simp] theorem ignoreSearch_outline (s : State) : (ignoreSearch s).st.outline = s.st.outline := rfl

@[simp] theorem placeOffer_outline (n : Nat) (p : Piece) (giver : Nat) (s : State) :
    (placeOffer n p giver s).st.outline = s.st.outline := setSlot_outline ..

/-- The table of a state whose telegram the link took, or refused and counted. -/
theorem offer_outline (dest : Nat) (m : Message) (s : State) : (offer dest m s).1.st.outline = s.st.outline := by simp

@[simp] theorem refuseCustody_outline (giver : Nat) (i : StockId) (r : CustodyRefusal) (s : State) :
    (refuseCustody giver i r s).st.outline = s.st.outline := by
  unfold refuseCustody
  dsimp only
  split
  · exact offer_outline ..
  · exact offer_outline giver (.custodyRefuse i r) s

@[simp] theorem sendAccept_outline (giver : Nat) (i : StockId) (s : State) :
    (sendAccept giver i s).st.outline = s.st.outline := by
  unfold sendAccept
  dsimp only
  split
  · exact offer_outline ..
  · exact offer_outline giver (.custodyAccept i) s

@[simp] theorem sendRelease_outline (taker : Nat) (i : StockId) (s : State) :
    (sendRelease taker i s).st.outline = s.st.outline := by
  unfold sendRelease
  dsimp only
  split
  · exact offer_outline ..
  · exact offer_outline taker (.custodyRelease i) s

@[simp] theorem offerRecord_outline (n : Nat) (r : StockRecord) (taker : Nat) (s : State) :
    (offerRecord n r taker s).1.st.outline = s.st.outline := by
  unfold offerRecord
  dsimp only
  split
  · exact offer_outline ..
  · exact (update_outline (by intro; exact ⟨rfl, rfl⟩) _ n).trans (offer_outline taker (.custodyOffer r.piece) s)

@[simp] theorem failOffer_outline (n : Nat) (r : StockRecord) (reason : HandoverReason) (s : State) :
    (failOffer n r reason s).st.outline = s.st.outline := by
  have hheld : (s.st.update n StockRecord.toHeld).outline = s.st.outline :=
    update_outline (f := StockRecord.toHeld) (fun _ => ⟨rfl, rfl⟩) ..
  simpa [failOffer] using hheld

theorem settledRecord_keepsPlace (role : Role) : keepsPlace (settledRecord role) := by
  intro r
  unfold settledRecord
  constructor
  · dsimp only
    split <;> rfl
  · rfl

theorem settled_outline (role : Role) (t : Stock) (n : Nat) :
    (t.update n (settledRecord role)).outline = t.outline := update_outline (settledRecord_keepsPlace role) ..

@[simp] theorem takeRelease_outline (i : StockId) (source : Nat) (s : State) :
    (takeRelease i source s).st.outline = s.st.outline := by
  unfold takeRelease
  (repeat' split) <;> simp [settled_outline]

@[simp] theorem logMark_outline (c : Current) (o : MarkOutcome) (s : State) :
    (logMark c o s).st.outline = s.st.outline := by
  unfold logMark
  dsimp only
  (repeat' split) <;> simp

/-! ### The search at a rack (R140 to R149) -/

@[simp] theorem takeQuery_outline (number : Byte) (q : QueryFields) (source : Nat) (s : State) :
    (takeQuery number q source s).st.outline = s.st.outline := by
  unfold takeQuery
  dsimp only
  (repeat' split) <;> simp

@[simp] theorem takeReserve_outline (number : Byte) (i : StockId) (source : Nat) (s : State) :
    (takeReserve number i source s).st.outline = s.st.outline := by
  unfold takeReserve
  dsimp only
  (repeat' split) <;> simp

@[simp] theorem takeUnreserve_outline (i : StockId) (source : Nat) (s : State) :
    (takeUnreserve i source s).st.outline = s.st.outline := by
  unfold takeUnreserve
  split <;> simp

@[simp] theorem dropReservations_outline (station : Nat) (s : State) :
    (dropReservations station s).st.outline = s.st.outline := by
  unfold dropReservations
  dsimp only
  split
  · rfl
  · simp only [raise_frame]
    refine outline_eq_iff.2 ⟨map_outline (fun r => ?_) s.st.records, rfl, rfl⟩
    constructor <;> split <;> rfl

@[simp] theorem stationLost_outline (station : Nat) (s : State) :
    (stationLost station s).st.outline = s.st.outline := by
  unfold stationLost unordered
  (repeat' split) <;> simp

/-! ### The release controller (R79 to R99) -/

@[simp] theorem breakCopy_outline (cause : BreakCause) (s : State) :
    (breakCopy cause s).st.outline = s.st.outline := by
  unfold breakCopy
  split <;> simp

@[simp] theorem handOn_outline (s : State) : (handOn s).st.outline = s.st.outline := by
  unfold handOn
  dsimp only
  split <;> simp

@[simp] theorem windowChanged_outline (s : State) : (windowChanged s).st.outline = s.st.outline := by
  unfold windowChanged
  split <;> simp

@[simp] theorem queueLeavesRun_outline (s : State) : (queueLeavesRun s).st.outline = s.st.outline := by
  unfold queueLeavesRun
  dsimp only
  split <;> simp

@[simp] theorem changeMode_outline (m : Mode) (s : State) : (changeMode m s).st.outline = s.st.outline := by
  unfold changeMode
  dsimp only
  (repeat' split) <;> simp

@[simp] theorem endStop_outline (s : State) : (endStop s).st.outline = s.st.outline := by
  unfold endStop
  split <;> simp

@[simp] theorem enterFaulted_outline (f : ReleaseFault) (a : Bool) (s : State) :
    (enterFaulted f a s).st.outline = s.st.outline := by
  simp [enterFaulted]

@[simp] theorem startCopy_outline (c : Copy) (again : Bool) (legend : Option Legend) (s : State) :
    (startCopy c again legend s).st.outline = s.st.outline := by
  unfold startCopy
  dsimp only
  (repeat' split) <;> simp

@[simp] theorem afterCompletion_outline (overrun : Option (Seq × Nat)) (a : Bool) (s : State) :
    (afterCompletion overrun a s).st.outline = s.st.outline := by
  unfold afterCompletion
  split <;> simp

@[simp] theorem completeCurrent_outline (c : Current) (ms : Nat) (s : State) :
    (completeCurrent c ms s).st.outline = s.st.outline := by
  unfold completeCurrent
  dsimp only
  (repeat' split) <;> simp

@[simp] theorem discardFaulted_outline (s : State) : (discardFaulted s).st.outline = s.st.outline := by
  unfold discardFaulted
  split <;> simp

@[simp] theorem takeFlush_outline (s : State) : (takeFlush s).st.outline = s.st.outline := by
  unfold takeFlush
  split <;> simp

@[simp] theorem estopOn_outline (s : State) : (estopOn s).st.outline = s.st.outline := by
  unfold estopOn
  (repeat' split) <;> simp

/-! ### The crane's moves (R122, R162, R164) -/

@[simp] theorem completeLeave_outline (s : State) : (completeLeave s).st.outline = s.st.outline := by
  unfold completeLeave
  split <;> simp

@[simp] theorem finishMove_outline (carried : Bool) (taker : Option Nat) (s : State) :
    (finishMove carried taker s).st.outline = s.st.outline := by
  unfold finishMove
  split <;> simp

@[simp] theorem recordLeaves_outline (i : StockId) (carried : Bool) (taker : Option Nat) (s : State) :
    (recordLeaves i carried taker s).st.outline = s.st.outline := by
  unfold recordLeaves
  (repeat' split) <;> simp

@[simp] theorem craneLeaves_outline (s : State) : (craneLeaves s).1.st.outline = s.st.outline := by
  unfold craneLeaves
  dsimp only
  split <;> simp

@[simp] theorem offerFromHook_outline (n : Nat) (r : StockRecord) (dest : Nat) (s : State) :
    (offerFromHook n r dest s).st.outline = s.st.outline := by
  unfold offerFromHook
  dsimp only
  (repeat' split) <;> simp

@[simp] theorem loadFalls_outline (s : State) : (loadFalls s).st.outline = s.st.outline := by
  unfold loadFalls
  (repeat' split) <;> simp

/-! ### Requests (R121, R132, R138, R162, R164, R171) -/

@[simp] theorem takeHandOff_outline (suits : Bool) (i : StockId) (taker : Nat) (s : State) :
    (takeHandOff suits i taker s).1.st.outline = s.st.outline := by
  unfold takeHandOff
  dsimp only
  (repeat' split) <;> simp

@[simp] theorem takeConfirm_outline (suits : Bool) (i : StockId) (s : State) :
    (takeConfirm suits i s).1.st.outline = s.st.outline := by
  unfold takeConfirm
  (repeat' split) <;> simp [settled_outline]

@[simp] theorem takeLock_outline (n : Nat) (s : State) : (takeLock n s).1.st.outline = s.st.outline := by
  unfold takeLock
  (repeat' split) <;> rfl

@[simp] theorem takeUnlock_outline (n : Nat) (s : State) : (takeUnlock n s).1.st.outline = s.st.outline := by
  unfold takeUnlock
  (repeat' split) <;> rfl

@[simp] theorem takeMoveFinish_outline (s : State) : (takeMoveFinish s).1.st.outline = s.st.outline := by
  unfold takeMoveFinish
  (repeat' split) <;> simp

@[simp] theorem leaveRun_outline (s : State) : (leaveRun s).1.st.outline = s.st.outline := by
  unfold leaveRun
  (repeat' split) <;> simp

end Sys2Proof.Machine
end

section
/-! PROOF. The operations that enter, remove or retire records keep the stock table sound (R117): the nest copies, the
custody handover, and what calls them. -/

namespace Sys2Proof.Machine

section
variable {t : State}

theorem ite_sound {p : Prop} [Decidable p] {u v : State} (hu : u.st.sound) (hv : v.st.sound) :
    (if p then u else v).st.sound := by
  split <;> assumption

theorem ite_answer_sound {p : Prop} [Decidable p] {a b : State × Answer} (ha : a.1.st.sound) (hb : b.1.st.sound) :
    (if p then a else b).1.st.sound := by
  split <;> assumption

/-! ### Nest copies (R84, R119, R120) -/

theorem retireBed_sound (h : t.st.sound) : (retireBed t).st.sound := by
  unfold retireBed
  split
  · rename_i n r hn hr
    have hat : entryAt t.st.records n = some r := by simpa [State.bedRecord, hn] using hr
    simpa using remove_retire_sound h hat
  · exact h

/-- A REMNANT copy's record enters for an ID that is neither in the table nor retired (R84, R119). -/
theorem createRemnant_sound {serial : Nat} (len wid : Nat) (notch : Option Notch) (h : t.st.sound)
    (hfind : t.st.find ⟨t.cfg.params.station, serial⟩ = none)
    (hlive : ⟨t.cfg.params.station, serial⟩ ∉ t.st.retired) :
    (createRemnant serial len wid notch t).st.sound := by
  unfold createRemnant
  split
  · exact enter_sound h ⟨hfind, hlive, opens_table _⟩
  · exact h

/-- The stock effect of a copy whose check at release has passed (R84). -/
theorem stockEffect_sound {c : Copy} {g : Option Legend} (h : t.st.sound) (hcheck : releaseCheck c t = .ok g) :
    (stockEffect c.content t).st.sound := by
  cases hc : c.content with
  | nestEnd => exact retireBed_sound h
  | remnant serial len wid notch =>
    rw [releaseCheck_remnant hc] at hcheck
    split at hcheck
    · cases hcheck
    · split at hcheck
      · cases hcheck
      · rename_i hfree
        exact createRemnant_sound len wid notch h
          (by simpa using fun hs => hfree (.inl hs)) (fun hm => hfree (.inr hm))
  | _ => exact h

/-- The check at release reads the stock table and the parameters alone. -/
theorem releaseCheck_congr {u : State} (c : Copy) (hst : u.st = t.st) (hcfg : u.cfg = t.cfg) :
    releaseCheck c u = releaseCheck c t := by
  unfold releaseCheck compose
  have hbed : u.bedRecord = t.bedRecord := by simp only [State.bedRecord, hst]
  have hsource (m : MarkTarget) : u.markSource m = t.markSource m := by
    cases m <;> simp only [State.markSource, hst, hcfg, hbed]
  simp only [hst, hcfg, hbed, hsource]

theorem releaseNest_sound {c : Copy} {g : Option Legend} (h : t.st.sound) (hcheck : releaseCheck c t = .ok g) :
    (releaseNest c t).st.sound := by
  have heffect := stockEffect_sound (t := raise (goNotice c false none)
      { t with rc := { t.rc with head := none, release := .inFlight } }) (g := g) (sound_of_outline h (by simp))
    (by rw [releaseCheck_congr c (t := t) (by simp) (by simp), hcheck])
  exact sound_of_outline heffect (by simp [releaseNest])

/-! ### Judgement (R83) -/

theorem judgeOnce_sound (h : t.st.sound) : (judgeOnce t).1.st.sound := by
  unfold judgeOnce
  split
  · split
    · split
      · split
        · exact sound_of_outline h (by simp)
        · split
          · exact releaseNest_sound h ‹_›
          · exact sound_of_outline h (by simp)
      · exact h
    · split
      · exact sound_of_outline h (by simp)
      · exact h
    · exact h
  · exact h

theorem settleFor_sound (n : Nat) (h : t.st.sound) : (settleFor n t).st.sound := by
  induction n generalizing t with
  | zero => exact h
  | succ n ih =>
    have hj := judgeOnce_sound h
    unfold settleFor
    split
    · exact ih (by simpa [*] using hj)
    · simpa [*] using hj

theorem settle_sound (h : t.st.sound) : (settle t).st.sound := settleFor_sound _ h

theorem rcSettles_sound (before : State) (h : t.st.sound) : (rcSettles before t).st.sound :=
  ite_sound (settle_sound (sound_of_outline h (by simp))) (sound_of_outline h (by simp))

/-! ### The peer table and the link (R26 to R35, R49) -/

theorem envPeer_sound (n : Nat) (roles : List Role) (h : t.st.sound) : (envPeer n roles t).st.sound := by
  unfold envPeer
  split
  · exact ite_sound (settle_sound (sound_of_outline h (by simp))) h
  · exact ite_sound (sound_of_outline h (by simp)) h
  · exact h

theorem envStep_sound (h : t.st.sound) : (envStep t).st.sound := by
  unfold envStep
  split
  · exact settle_sound (sound_of_outline h (by simp))
  · exact sound_of_outline h (by simp)
  · exact h

theorem unordered_sound {f g : State → State} (hf : ∀ {u : State}, u.st.sound → (f u).st.sound)
    (hg : ∀ {u : State}, u.st.sound → (g u).st.sound) (h : t.st.sound) : (unordered f g t).st.sound :=
  ite_sound (hg (hf h)) (hf (hg h))

theorem removePeer_sound (n : Nat) (e : PeerEntry) (h : t.st.sound) : (removePeer n e t).st.sound :=
  envPeer_sound _ _ (sound_of_outline h (by simp))

theorem createPeer_sound (e : PeerEntry) (h : t.st.sound) : (createPeer e t).st.sound := by
  unfold createPeer
  split
  · exact envPeer_sound _ _ h
  · split
    · exact envPeer_sound _ _ (removePeer_sound _ _ h)
    · exact h

theorem takeBeacon_sound (role : Role) (source : Nat) (seq : Byte) (bs : List Byte) (h : t.st.sound) :
    (takeBeacon role source seq bs t).st.sound := by
  unfold takeBeacon
  dsimp only
  split
  · exact h
  · split
    · exact h
    · split
      · exact createPeer_sound _ h
      · split
        · exact h
        · exact ite_sound (unordered_sound (envPeer_sound _ _) (fun hu => sound_of_outline hu (by simp)) h)
            (ite_sound h (envPeer_sound _ _ h))

theorem ageToStale_sound (n : Nat) (h : t.st.sound) : (ageToStale n t).st.sound := by
  unfold ageToStale
  split
  · exact ite_sound (envPeer_sound _ _ h) h
  · exact h

theorem ageToLost_sound (n : Nat) (h : t.st.sound) : (ageToLost n t).st.sound := by
  unfold ageToLost
  split
  · have hpinned (e : PeerEntry) := unordered_sound (f := envPeer n [e.data.role]) (g := stationLost e.station)
      (t := putPeer n (some { e with state := .lost }) t) (envPeer_sound _ _)
      (fun hu => sound_of_outline hu (by simp)) h
    exact ite_sound (ite_sound (hpinned _) (removePeer_sound _ _ h)) h
  · exact h

theorem agingStep_sound (h : t.st.sound) : (agingStep t).st.sound := by
  have hfold (l : List Nat) {u : State} (hu : u.st.sound) : (l.foldl agePeer u).st.sound := by
    induction l generalizing u with
    | nil => exact hu
    | cons n l ih => exact ih (ageToLost_sound n (ageToStale_sound n hu))
  exact envStep_sound (hfold _ h)

theorem probeClean_sound (h : t.st.sound) : (probeClean t).st.sound := by
  have hrestore : (restoreLink t).st.sound := settle_sound (sound_of_outline h (by simp))
  unfold probeClean
  split
  · exact hrestore
  · exact hrestore
  · exact h
  · exact h

/-! ### The custody handover (R124 to R131) -/

/-- The piece of an accepted record bears the ID that was offered. -/
theorem acceptedRecord_id (s : State) (o : HeldOffer) (loc : Location) :
    (acceptedRecord s o loc).piece.id = o.piece.id := by
  unfold acceptedRecord
  dsimp only
  split <;> rfl

theorem confirmCheck_none {t : Stock} {i : StockId} (h : confirmCheck t i = none) :
    t.find i = none ∧ i ∉ t.retired := by
  unfold confirmCheck at h
  (repeat' split at h) <;> simp_all

theorem acceptOffer_outline (n : Nat) (o : HeldOffer) (loc : Location) (s : State) :
    (acceptOffer n o loc s).st.outline = (s.st.enter (acceptedRecord s o loc)).outline := by
  unfold acceptOffer
  dsimp only
  split <;> simp

theorem confirmOffer_sound (n : Nat) (o : HeldOffer) {loc : Location} (h : t.st.sound) (hloc : t.st.opens loc) :
    (confirmOffer n o loc t).1.st.sound := by
  unfold confirmOffer
  split
  · exact sound_of_outline h (by simp)
  · obtain ⟨hfind, hlive⟩ := confirmCheck_none ‹_›
    rw [← acceptedRecord_id t o loc] at hfind hlive
    exact sound_of_outline (enter_sound h ⟨hfind, hlive, hloc⟩) (acceptOffer_outline n o loc t)

theorem confirmSlot_sound (n : Nat) (h : t.st.sound) : (confirmSlot n t).st.sound := by
  unfold confirmSlot
  split
  · exact confirmOffer_sound n _ h (opens_hook _)
  · exact h

theorem confirmHeld_sound (h : t.st.sound) : (confirmHeld t).st.sound :=
  ite_sound (ite_sound (confirmSlot_sound 0 (confirmSlot_sound 1 h)) (confirmSlot_sound 1 (confirmSlot_sound 0 h))) h

theorem takeOffer_sound (p : Piece) (giver : Nat) (h : t.st.sound) : (takeOffer p giver t).st.sound := by
  have hhold : (holdOffer p giver t).st.sound := by
    unfold holdOffer
    split
    · exact ite_sound (sound_of_outline h (by simp)) (sound_of_outline h (by simp))
    · split
      · exact sound_of_outline h (by simp)
      · exact ite_sound (confirmSlot_sound _ (sound_of_outline h (by simp))) (sound_of_outline h (by simp))
  unfold takeOffer
  split
  · exact h
  · split
    · exact sound_of_outline h (by simp)
    · exact hhold

theorem takeAccept_sound (i : StockId) (source : Nat) (h : t.st.sound) : (takeAccept i source t).st.sound := by
  have hrefuse (r : CustodyRefusal) : (refuseCustody source i r t).st.sound := sound_of_outline h (by simp)
  have hrelease (n : Nat) : (releaseRecord n source i t).st.sound := by
    have hsent : (sendRelease source i (raise (.handoverDone i source .giver)
        { t with st := t.st.remove n })).st.sound := sound_of_outline (remove_sound n h) (by simp)
    exact ite_sound (sound_of_outline hsent (by simp)) hsent
  unfold takeAccept
  split
  · split
    · exact ite_sound (hrelease _) (hrefuse _)
    all_goals exact hrefuse _
  · exact hrefuse _

theorem takeRefusal_sound (i : StockId) (reason : CustodyRefusal) (source : Nat) (h : t.st.sound) :
    (takeRefusal i reason source t).st.sound := by
  have hreject (n : Nat) : (rejectRecord n source i reason t).st.sound := by
    have hraise : (raise (.handoverRejected i source reason) { t with st := t.st.remove n }).st.sound :=
      sound_of_outline (remove_sound n h) (by simp)
    exact ite_sound (sound_of_outline hraise (by simp)) hraise
  unfold takeRefusal
  split
  · exact ite_sound (sound_of_outline h (by simp)) (ite_sound (hreject _) h)
  · exact h

theorem estopOff_sound (h : t.st.sound) : (estopOff t).st.sound := by
  unfold estopOff
  split
  · exact settle_sound h
  · exact sound_of_outline h (by simp)
  · exact h

theorem loadRises_sound (h : t.st.sound) : (loadRises t).st.sound :=
  ite_sound (unordered_sound confirmHeld_sound (fun hu => ite_sound hu (sound_of_outline hu (by simp))) h) h

/-! ### The owners of the requests (R60 to R66, R87 to R96, R118, R126, R171) -/

theorem judge_sound {act : State → State × Answer} (checks : Option ResultCode) (ha : (act t).1.st.sound)
    (h : t.st.sound) : (judge checks act t).1.st.sound := by
  unfold judge
  split
  · exact h
  · exact ha

theorem admitRecord_sound (hd : SegHeader) (bs : List Byte) (h : t.st.sound) : (admitRecord hd bs t).1.st.sound := by
  unfold admitRecord
  split
  · exact h
  · split
    · exact sound_of_outline h (by simp)
    · exact rcSettles_sound _ (sound_of_outline h (by simp))

theorem takeSegment_sound (bs : List Byte) (h : t.st.sound) : (takeSegment bs t).1.st.sound := by
  have hheader : (useHeader bs t).st.sound := sound_of_outline h (by simp)
  unfold takeSegment
  split
  · exact h
  · dsimp only
    split
    · exact h
    · exact ite_answer_sound hheader (admitRecord_sound _ _ hheader)
    · exact admitRecord_sound _ _ hheader

theorem flushQueue_sound (after : SegQueue → SegQueue) (h : t.st.sound) : (flushQueue after t).1.st.sound :=
  rcSettles_sound _ (sound_of_outline h (by simp))

theorem takeDoneReport_sound (seq : Seq) (k ms : Nat) (h : t.st.sound) : (takeDoneReport seq k ms t).1.st.sound := by
  unfold takeDoneReport
  split
  · exact settle_sound (sound_of_outline h (by simp))
  · exact h

theorem takeAbort_sound (seq : Seq) (k ms : Nat) (h : t.st.sound) : (takeAbort seq k ms t).1.st.sound := by
  unfold takeAbort
  split
  · rename_i c _
    have harc := ite_sound (p := c.copy.content.isArc = true) (sound_of_outline (u := (addArc ms t).st) h (by simp)) h
    exact sound_of_outline harc (by simp [answerOk])
  · exact h

theorem takeHalt_sound (seq : Seq) (k ms : Nat) (h : t.st.sound) : (takeHalt seq k ms t).1.st.sound := by
  unfold takeHalt
  split
  · rename_i c _
    have harc := ite_sound (p := c.copy.content.isArc = true) (sound_of_outline (u := (addArc ms t).st) h (by simp)) h
    exact settle_sound harc
  · exact h

theorem takeContinue_sound (h : t.st.sound) : (takeContinue t).1.st.sound :=
  ite_answer_sound h (rcSettles_sound _ (sound_of_outline h (by simp)))

theorem restoreWear_sound (pierces ms : Nat) (h : t.st.sound) : (restoreWear pierces ms t).st.sound := by
  unfold restoreWear
  dsimp only
  refine settle_sound ?_
  split <;> exact sound_of_outline h (by simp)

theorem takeWearRestore_sound (pierces ms : Nat) (h : t.st.sound) : (takeWearRestore pierces ms t).1.st.sound :=
  ite_answer_sound h (restoreWear_sound pierces ms h)

theorem takeConsumable_sound (h : t.st.sound) : (takeConsumable t).1.st.sound :=
  ite_answer_sound h (settle_sound (t := { t with rc := { t.rc with pierces := 0, arcMs := 0, wearKnown := true } }) h)

theorem slotBad_false {s : State} {n : Nat} (h : s.slotBad n = false) : s.st.atSlot n = none := by
  simp only [State.slotBad, Bool.or_eq_false_iff] at h
  simpa using h.1.2

/-- A declaration that passes its checks enters a record that the table admits (R118). -/
theorem declareCheck_none {s : State} {p : Piece} {loc : Location} (h : declareCheck s p loc = none) :
    s.st.find p.id = none ∧ p.id ∉ s.st.retired ∧ s.st.opens loc := by
  unfold declareCheck at h
  split at h
  · cases h
  · split at h
    · cases h
    · split at h
      · cases h
      · refine ⟨by simp_all, by assumption, ?_⟩
        cases loc with
        | bed => exact opens_bed (by simpa [State.placeCheck] using h)
        | table => exact opens_table _
        | hook => exact opens_hook _
        | slot k => exact opens_slot (slotBad_false (by simpa [State.placeCheck] using h))

theorem takeDeclare_sound (suits : Bool) (record : List Byte) (location : Option LocationKind) (slot : Nat)
    (h : t.st.sound) : (takeDeclare suits record location slot t).1.st.sound := by
  unfold takeDeclare
  split
  · exact h
  · split
    · split
      · exact h
      · split
        · exact h
        · unfold judge
          split
          · exact h
          · obtain ⟨hfind, hlive, hplace⟩ := declareCheck_none ‹_›
            exact enter_sound h ⟨hfind, hlive, hplace⟩
    · exact h

theorem confirmRequest_sound (n : Nat) (o : HeldOffer) {loc : Location} (h : t.st.sound) (hloc : t.st.opens loc) :
    (confirmRequest n o loc t).1.st.sound := by
  have hconfirm := confirmOffer_sound n o h hloc
  unfold confirmRequest
  split <;> (rename_i he; rw [he] at hconfirm; exact hconfirm)

theorem takeBedLoaded_sound (i : StockId) (h : t.st.sound) : (takeBedLoaded i t).1.st.sound := by
  unfold takeBedLoaded
  split
  · exact h
  · split
    · exact h
    · exact confirmRequest_sound _ _ h (opens_bed (by simp_all))

theorem takePlaced_sound (i : StockId) (slot : Nat) (h : t.st.sound) : (takePlaced i slot t).1.st.sound := by
  unfold takePlaced
  split
  · exact h
  · split
    · exact h
    · exact confirmRequest_sound _ _ h (opens_slot (slotBad_false (by simp_all)))

theorem judgeSetMode_sound (suits : Bool) (target : Option Mode) (h : t.st.sound) :
    (judgeSetMode suits target t).1.st.sound := by
  have htake (m : Mode) : (takeSetMode m t).1.st.sound := by
    have hchange (m' : Mode) : (changeMode m' t).st.sound := sound_of_outline h (by simp)
    unfold takeSetMode
    split
    · exact h
    · exact hchange _
    · exact h
    · exact hchange _
    · exact h
    · exact settle_sound (hchange _)
    · exact h
    · exact ite_answer_sound h (sound_of_outline h (by simp))
    · exact ite_answer_sound h h
  unfold judgeSetMode
  split
  · exact ite_answer_sound (htake _) h
  · exact h

end

end Sys2Proof.Machine
end

section
/-! PROOF. Every command keeps the stock table sound (R117, R137). -/

namespace Sys2Proof.Machine

/-- What a command answers has a sound stock table where it is a next state. -/
def SoundStock : Host.Outcome State Fault Refusal → Prop
  | .next t => t.st.sound
  | .fault _ => True
  | .refused _ => True

section
variable {s : State}

/-- A timer's expiry that acts while it is due. -/
theorem ite_soundStock {p : Prop} [Decidable p] {t u : State} (ht : t.st.sound) (hu : u.st.sound) :
    SoundStock (if p then .next t else .next u) := by
  split <;> assumption

/-! ### Requests and telegrams (R39 to R41, R168) -/

theorem request_sound (length : Byte) (cut inFault : Bool) (code : RequestCode) {act : State → State × Answer}
    (ha : ∀ {u : State}, u.st.sound → (act u).1.st.sound) (h : s.st.sound) :
    (request length cut inFault code act s).st.sound := by
  rcases request_cases length cut inFault code act s with ⟨-, he⟩ | ⟨-, he⟩ | ⟨-, he⟩ | ⟨-, -, -, he⟩ <;> rw [he]
  · exact h
  · exact h
  · exact h
  · exact ha (u := s.begun) h

theorem roleRequest_sound (f : WriteFrame) (code : RequestCode) (roleOk : Role → Bool) {act : State → State × Answer}
    (ha : ∀ {u : State}, u.st.sound → (act u).1.st.sound) (h : s.st.sound) :
    (roleRequest f code roleOk act s).st.sound :=
  request_sound _ _ _ code (fun hu => judge_sound _ (ha hu) hu) h

theorem receive_sound {deliver : State → State} (kind : Byte) (length : Option Nat) (g : Telegram)
    (hd : ∀ {u : State}, u.st.sound → (deliver u).st.sound) (h : s.st.sound) :
    (receive kind length deliver g s).st.sound :=
  ite_sound h (ite_sound h (ite_sound h (ite_sound h (ite_sound (sound_of_outline h (by simp))
    (ite_sound h (ite_sound h (hd h)))))))

/-- A telegram whose message no owner enters or removes a record for. -/
theorem message_sound {ignore : State → State} {act : Message → State → State} (k : TelegramKind) (g : Telegram)
    (hi : ∀ u : State, (ignore u).st.outline = u.st.outline)
    (ha : ∀ (m : Message) (u : State), (act m u).st.outline = u.st.outline) (h : s.st.sound) :
    (receiveKind k (takeMessage k g ignore act) g s).st.sound := by
  refine receive_sound _ _ g (fun {u} hu => ?_) h
  unfold takeMessage
  split
  · exact sound_of_outline hu (ha ..)
  · exact sound_of_outline hu (hi u)

theorem custody_sound {act : Message → State → State} (k : TelegramKind) (g : Telegram)
    (ha : ∀ m {u : State}, u.st.sound → (act m u).st.sound) (h : s.st.sound) :
    (receiveKind k (takeCustody k g act) g s).st.sound := by
  refine receive_sound _ _ g (fun {u} hu => ite_sound ?_ hu) h
  unfold takeMessage
  split
  · exact ha _ hu
  · exact hu

/-! ### The load (R136, R179, R180) -/

/-- A good load keeps the table of the same role and station, and clears any other (R136). -/
theorem succeed_sound (role : Role) (station : Nat) (identity : List Byte) (h : s.st.sound) :
    (succeed role station identity s).st.sound := by
  unfold succeed
  dsimp only
  rw [(raise_frame ..).2.2.2.2.2.2.2.2.2.1]
  dsimp only
  split
  · exact sound_of_outline h (keep_outline ..)
  · exact reset_sound

theorem transfer_sound (acked : Bool) (data : List Byte) (h : s.st.sound) :
    (if s.cfg.load = .loading then (if acked then takeBytes data s else refuseTransfer s) else s).st.sound := by
  have hfault (cause : LoadCause) {t : State} (ht : t.st.sound) : (endInFault cause t).st.sound :=
    sound_of_outline ht (by simp [endInFault])
  have hread : ({ s with cfg := { s.cfg with image := s.cfg.image ++ data, refusals := 0 } }).st.sound := h
  refine ite_sound (ite_sound (ite_sound ?_ hread) (ite_sound (hfault _ h) h)) h
  unfold judgeImage
  split
  · exact hfault _ hread
  · exact succeed_sound _ _ _ hread
  · exact hfault _ hread

/-! ### Timers and the link's events (R31, R43 to R53, R83 to R90, R125 to R131, R156, R158) -/

theorem agingStep_soundStock (h : s.st.sound) : SoundStock (execAgingStep s) := by
  unfold execAgingStep
  split
  · exact ite_soundStock (agingStep_sound h) h
  · exact h

theorem beaconTimer_soundStock (h : s.st.sound) : SoundStock (execBeaconTimerExpiry s) := by
  unfold execBeaconTimerExpiry
  split
  · exact ite_soundStock (ite_sound h h) h
  · exact h

theorem attemptStart_soundStock (h : s.st.sound) : SoundStock (execAttemptStart s) := by
  have hstart (c : TxClass) : (startAttempt c s).st.sound := by
    unfold startAttempt startBeacon
    (repeat' split) <;> exact h
  unfold execAttemptStart
  split
  · exact ite_sound (hstart _) h
  · exact h

theorem attemptClean_soundStock (h : s.st.sound) : SoundStock (execAttemptClean s) := by
  unfold execAttemptClean
  split
  · exact h
  · exact probeClean_sound (t := countSent (endAttempt s)) h
  · exact h

theorem attemptCollided_soundStock (h : s.st.sound) : SoundStock (execAttemptCollided s) := by
  have hcollide (c : TxClass) (q : Queued) (rest : List Queued) : (collide c q rest s).st.sound := by
    unfold collide
    dsimp only
    split
    · exact sound_of_outline h (by simp)
    · split
      · exact ite_sound h h
      · exact ite_sound (sound_of_outline h (by simp)) h
  unfold execAttemptCollided
  split
  · split
    · exact hcollide ..
    · exact h
  · exact h
  · exact h

theorem jabberLimit_soundStock (h : s.st.sound) : SoundStock (execJabberLimit s) := by
  unfold execJabberLimit
  split
  · exact sound_of_outline h (by simp)
  · exact h
  · exact h

theorem probeTimer_soundStock (h : s.st.sound) : SoundStock (execProbeTimerExpiry s) := by
  unfold execProbeTimerExpiry
  split
  · exact ite_soundStock h h
  · exact h

theorem inFlightTimeout_soundStock (h : s.st.sound) : SoundStock (execInFlightTimeout s) := by
  unfold execInFlightTimeout
  split
  · exact ite_soundStock (sound_of_outline h (by simp)) h
  · exact h

theorem haltTimeout_soundStock (h : s.st.sound) : SoundStock (execHaltTimeout s) := by
  unfold execHaltTimeout
  split
  · exact ite_soundStock (sound_of_outline h (by simp)) h
  · exact h

theorem offerTimeout_soundStock (n : Nat) (h : s.st.sound) : SoundStock (execOfferTimeout n s) := by
  unfold execOfferTimeout
  split
  · exact ite_soundStock (sound_of_outline h (by simp)) h
  · exact h

theorem heldOfferExpiry_soundStock (n : Nat) (h : s.st.sound) : SoundStock (execHeldOfferExpiry n s) := by
  unfold execHeldOfferExpiry
  split
  · exact ite_soundStock (sound_of_outline h (setSlot_outline s.st n none)) h
  · exact h

theorem pendingTimeout_soundStock (n : Nat) (h : s.st.sound) : SoundStock (execPendingTimeout n s) := by
  have hdisputed : (s.st.update n StockRecord.toDisputed).outline = s.st.outline :=
    update_outline (f := StockRecord.toDisputed) (fun _ => ⟨rfl, rfl⟩) ..
  unfold execPendingTimeout
  split
  · exact ite_soundStock (sound_of_outline h (by simpa using hdisputed)) h
  · exact h

theorem bidWindowExpiry_soundStock (n : Nat) (h : s.st.sound) : SoundStock (execBidWindowExpiry n s) := by
  unfold execBidWindowExpiry
  split
  · exact ite_soundStock (sound_of_outline h (by simp)) h
  · exact h

theorem awardReplyTimeout_soundStock (n : Nat) (h : s.st.sound) : SoundStock (execAwardReplyTimeout n s) := by
  unfold execAwardReplyTimeout
  split
  · exact ite_soundStock (sound_of_outline h (by simp)) h
  · exact h

theorem cancelReplyTimeout_soundStock (n : Nat) (h : s.st.sound) : SoundStock (execCancelReplyTimeout n s) := by
  unfold execCancelReplyTimeout
  split
  · exact ite_soundStock (sound_of_outline h (by simp)) h
  · exact h

/-! ### Every command -/

theorem clockReply_sound (clocked : Nat) (h : s.st.sound) : (clockReply clocked s).st.sound :=
  ite_sound (p := (PortAnswer.reply s.sp.buffer.head?).readWhole clocked = true)
    (u := { s with sp := { s.sp with buffer := s.sp.buffer.tail } }) h h

theorem clockNotice_sound (clocked : Nat) (h : s.st.sound) : (clockNotice clocked s).st.sound :=
  ite_sound (p := (PortAnswer.notice s.sp.lost s.sp.notices.head?).readWhole clocked = true)
    (u := { s with sp := { s.sp with notices := s.sp.notices.tail, lost := 0 } }) h h

theorem voidTransaction_soundStock (operation : Byte) (h : s.st.sound) :
    SoundStock (execVoidTransaction operation s) := by
  unfold execVoidTransaction
  split
  · exact h
  · exact h
  · exact clockReply_sound 0 h
  · exact clockNotice_sound 0 h

/-- Each command is one row: its operation keeps the stock table sound, and where it enters and removes no record it
leaves the outline of the table as it stands. -/
theorem exec_soundStock (i : Instr) (h : s.st.sound) : SoundStock (exec i s) := by
  cases i with
  | powerOn => exact reset_sound
  | timeBaseTick => exact h
  | i2cTransferDone acked data => exact transfer_sound acked data h
  | agingStep => exact agingStep_soundStock h
  | beaconTimerExpiry => exact beaconTimer_soundStock h
  | urgentSpacingExpiry => exact ite_sound (ite_sound (ite_sound h h) h) h
  | attemptStart => exact attemptStart_soundStock h
  | attemptClean => exact attemptClean_soundStock h
  | attemptCollided => exact attemptCollided_soundStock h
  | backoffEnd => exact h
  | jabberLimit => exact jabberLimit_soundStock h
  | probeTimerExpiry => exact probeTimer_soundStock h
  | probeStart => exact ite_sound (ite_sound h h) h
  | telegramFramingError => exact ite_sound h h
  | telegramOfUnknownKind kind g => exact receive_sound _ _ g id h
  | beaconCutter g => exact receive_sound _ _ g (takeBeacon_sound _ _ _ _) h
  | beaconCrane g => exact receive_sound _ _ g (takeBeacon_sound _ _ _ _) h
  | beaconRack g => exact receive_sound _ _ g (takeBeacon_sound _ _ _ _) h
  | custodyOffer g =>
    refine custody_sound _ g (fun m _ hu => ?_) h
    cases m with
    | custodyOffer p => exact takeOffer_sound _ _ hu
    | _ => exact hu
  | custodyAccept g =>
    refine custody_sound _ g (fun m _ hu => ?_) h
    cases m with
    | custodyAccept i => exact takeAccept_sound _ _ hu
    | _ => exact hu
  | custodyRelease g => exact custody_sound _ g (fun m _ hu => sound_of_outline hu (by split <;> simp)) h
  | custodyRefuse g =>
    refine custody_sound _ g (fun m _ hu => ?_) h
    cases m with
    | custodyRefuse i r => exact takeRefusal_sound _ _ _ hu
    | _ => exact hu
  | stockQuery g => exact message_sound _ g (by simp) (fun m u => by split <;> simp) h
  | stockCandidate g => exact message_sound _ g (by simp) (fun m u => by split <;> simp) h
  | reserve g => exact message_sound _ g (by simp) (fun m u => by split <;> simp) h
  | reserveReply g => exact message_sound _ g (by simp) (fun m u => by split <;> simp) h
  | unreserve g => exact message_sound _ g (by simp) (fun m u => by split <;> simp) h
  | moveCall g => exact message_sound _ g (by simp) (fun m u => by split <;> simp) h
  | moveBid g => exact message_sound _ g (by simp) (fun m u => by split <;> simp) h
  | moveAward g => exact message_sound _ g (by simp) (fun m u => by split <;> simp) h
  | awardReply g => exact message_sound _ g (by simp) (fun m u => by split <;> simp) h
  | moveRevoke g => exact message_sound _ g (by simp) (fun m u => by split <;> simp) h
  | revokeReply g => exact message_sound _ g (by simp) (fun m u => by split <;> simp) h
  | moveStarted g => exact message_sound _ g (by simp) (fun m u => by split <;> simp) h
  | moveReturn g => exact message_sound _ g (by simp) (fun m u => by split <;> simp) h
  | moveDone g => exact message_sound _ g (by simp) (fun m u => by split <;> simp) h
  | estopAsserted => exact ite_sound h (ite_sound (sound_of_outline h (by simp)) h)
  | estopReleased => exact ite_sound h (ite_sound (estopOff_sound (sound_of_outline h (by simp))) h)
  | loadAttachedRises =>
    exact ite_sound h (ite_sound (loadRises_sound (t := { s with lu := { s.lu with loadAttached := true } }) h) h)
  | loadAttachedFalls => exact ite_sound h (ite_sound (sound_of_outline h (by simp)) h)
  | inFlightTimeout => exact inFlightTimeout_soundStock h
  | haltTimeout => exact haltTimeout_soundStock h
  | resumeTimerExpiry =>
    exact ite_sound (settle_sound (t := { s with rc := { s.rc with resumeTimer := none } }) h) h
  | offerTimeout n => exact offerTimeout_soundStock n h
  | heldOfferExpiry n => exact heldOfferExpiry_soundStock n h
  | pendingTimeout n => exact pendingTimeout_soundStock n h
  | queryWindowExpiry => exact ite_sound (sound_of_outline h (by simp)) h
  | reserveTimerExpiry => exact ite_sound (sound_of_outline h (by simp)) h
  | bidWindowExpiry n => exact bidWindowExpiry_soundStock n h
  | awardReplyTimeout n => exact awardReplyTimeout_soundStock n h
  | cancelReplyTimeout n => exact cancelReplyTimeout_soundStock n h
  | segment w => exact request_sound _ _ _ _ (takeSegment_sound _) h
  | flush f => exact roleRequest_sound f _ _ (flushQueue_sound _) h
  | resync f target => exact roleRequest_sound f _ _ (flushQueue_sound _) h
  | segmentDone f seq k ms => exact roleRequest_sound f _ _ (takeDoneReport_sound _ _ _) h
  | segmentAborted f seq k ms => exact roleRequest_sound f _ _ (takeAbort_sound _ _ _) h
  | segmentHalted f seq k ms => exact roleRequest_sound f _ _ (takeHalt_sound _ _ _) h
  | continueRequest f => exact roleRequest_sound f _ _ takeContinue_sound h
  | wearRestore f pierces ms => exact roleRequest_sound f _ _ (takeWearRestore_sound _ _) h
  | consumableChanged f => exact roleRequest_sound f _ _ takeConsumable_sound h
  | declareStock f record location slot => exact request_sound _ _ _ _ (takeDeclare_sound _ _ _ _) h
  | handOff f i taker => exact request_sound _ _ _ _ (fun hu => sound_of_outline hu (by simp)) h
  | confirmCustody f i => exact request_sound _ _ _ _ (fun hu => sound_of_outline hu (by simp)) h
  | bedLoaded f i => exact request_sound _ _ _ _ (fun hu => judge_sound _ (takeBedLoaded_sound _ hu) hu) h
  | placed f i slot => exact request_sound _ _ _ _ (fun hu => judge_sound _ (takePlaced_sound _ _ hu) hu) h
  | lockSlot f slot => exact roleRequest_sound f _ _ (fun hu => sound_of_outline hu (by simp)) h
  | unlockSlot f slot => exact roleRequest_sound f _ _ (fun hu => sound_of_outline hu (by simp)) h
  | queryStock f q => exact request_sound _ _ _ _ (fun hu => sound_of_outline hu (by simp)) h
  | cancelQuery f => exact roleRequest_sound f _ _ (fun hu => sound_of_outline hu (by simp)) h
  | moveRequest f m => exact request_sound _ _ _ _ (fun hu => sound_of_outline hu (by simp)) h
  | cancelMove f tag => exact roleRequest_sound f _ _ (fun hu => sound_of_outline hu (by simp)) h
  | moveFinish f => exact roleRequest_sound f _ _ (fun hu => sound_of_outline hu (by simp)) h
  | position f v => exact roleRequest_sound f _ _ (fun hu => sound_of_outline hu (by simp)) h
  | setMode f target => exact request_sound _ _ _ _ (judgeSetMode_sound _ _) h
  | status f => exact request_sound _ _ _ _ (fun hu => sound_of_outline hu (by simp)) h
  | readTable f table i => exact request_sound _ _ _ _ (fun hu => sound_of_outline hu (by simp)) h
  | restart f => exact ite_sound (u := frameError s) h (sound_of_outline h (restart_outline s.st))
  | unknownRequest f code => exact request_sound _ _ _ _ id h
  | readReply clocked => exact clockReply_sound clocked h
  | readNotice clocked => exact clockNotice_sound clocked h
  | voidTransaction operation => exact voidTransaction_soundStock operation h

end

/-- Settles O14: a step idles, or takes the front command (log 2), and each command keeps the stock table sound. -/
theorem stockTableStaysSound : Obligations.StockTableStaysSound := by
  intro s t h hstep
  unfold step at hstep
  split at hstep
  · rename_i c rest _
    have hexec := exec_soundStock (s := { s with pending := rest }) c h
    rw [hstep] at hexec
    exact hexec
  · cases hstep
    exact h

end Sys2Proof.Machine
end

section
/-! PROOF. DECLARE_STOCK: its checks in their order, and the record that enters (R117, R118, R183). -/

namespace Sys2Proof.Machine

/-- A record enters the lowest empty position, and a BED record sets the bed pointer (R117). -/
theorem enter_eq {t : Stock} {n : Nat} (h : lowestEmpty t.records = some n) (r : StockRecord) :
    t.enter r = { t with
      records := t.records.set n (some r)
      bed := if r.location = .bed then some n else t.bed } := by
  simp only [Stock.enter, h]

theorem isFull_false {t : Stock} : t.isFull = false ↔ ∃ n, lowestEmpty t.records = some n := by
  cases h : lowestEmpty t.records <;> simp [Stock.isFull, h]

/-! ### The checks (R118) -/

theorem slotBad_iff (s : State) (n : Nat) : s.slotBad n = true ↔
    inRange 1 s.cfg.params.slotCount n = false ∨ (s.st.atSlot n).isSome = true ∨ s.slotLocked n = true := by
  simp [State.slotBad, or_assoc]

theorem isFull_of_declareCheck {s : State} {p : Piece} {loc : Location} (h : declareCheck s p loc = none) :
    s.st.isFull = false := by
  unfold declareCheck at h
  split at h
  · cases h
  · split at h
    · cases h
    · split at h
      · cases h
      · simp_all

section
variable {s : State} {f : WriteFrame} {record : List Byte} {location : Option LocationKind} {slot : Nat}

theorem exec_declareStock {t : State} {code : ResultCode} (h : s.takes f)
    (hact : takeDeclare (decide (f.length.toNat = 34)) record location slot s.begun = (t, code, .none)) :
    exec (.declareStock f record location slot) s = .next (s.replied .declareStock code .none t) := by
  change Host.Outcome.next (loadedRequest f .declareStock
    (takeDeclare (decide (f.length.toNat = 34)) record location slot) s) = _
  rw [loadedRequest_takes h, takenRequest_eq hact]

/-- The mode stands before the form, and the form before all that looks at the table (R118; log 79). -/
theorem takeDeclare_fieldRange {suits : Bool} (hmode : s.sp.mode ≠ .offline)
    (h : suits = false ∨ location = none ∨ readPiece record = none
      ∨ ∃ p, readPiece record = some p ∧ pieceOk p = false) :
    takeDeclare suits record location slot s = refuse .fieldRange s := by
  unfold takeDeclare
  rw [if_neg hmode]
  split
  · rename_i p _ hp
    refine if_pos ?_
    rcases h with h | h | h | ⟨q, hq, hbad⟩
    · simp [h]
    · cases h
    · rw [hp] at h
      cases h
    · rw [hp] at hq
      cases hq
      simp [hbad]
  · rfl

theorem takeDeclare_badLocation {k : LocationKind} {p : Piece} (hmode : s.sp.mode ≠ .offline)
    (hread : readPiece record = some p) (hok : pieceOk p = true) (hopen : openLocation s.role k slot = none) :
    takeDeclare true record (some k) slot s = refuse .badLocation s := by
  simp [takeDeclare, hmode, hread, hok, hopen]

/-- A declaration of good form, its location open to the role, is judged by the table (R118). -/
theorem takeDeclare_located {k : LocationKind} {p : Piece} {loc : Location} (hmode : s.sp.mode ≠ .offline)
    (hread : readPiece record = some p) (hok : pieceOk p = true) (hopen : openLocation s.role k slot = some loc) :
    takeDeclare true record (some k) slot s
      = judge (declareCheck s p loc) (fun s => answerOk (enterDeclared p loc s)) s := by
  simp [takeDeclare, hmode, hread, hok, hopen]

end

/-- Settles O42: a declaration of good form is judged by its location and its table, and enters in the lowest empty
position. -/
theorem declareStockEntersTheRecord : Obligations.DeclareStockEntersTheRecord := by
  unfold Obligations.DeclareStockEntersTheRecord
  refine ⟨?_, ?_, ?_, ?_⟩
  · intro s f record k slot p loc htakes hlen hmode hread hok hopen
    have hact := takeDeclare_located (s := s.begun) hmode hread hok hopen
    have hexec {t : State} {code : ResultCode}
        (h : takeDeclare true record (some k) slot s.begun = (t, code, .none)) :=
      exec_declareStock htakes (by rwa [decide_eq_true hlen])
    refine ⟨fun hcheck => ?_, fun r hcheck => hexec ?_⟩
    · obtain ⟨n, hn⟩ := isFull_false.1 (isFull_of_declareCheck hcheck)
      refine ⟨n, hn, hexec ?_⟩
      have hcheck' : declareCheck s.begun p loc = none := hcheck
      rw [hact, hcheck']
      change answerOk { s.begun with st := s.st.enter _ } = _
      rw [enter_eq hn]
      rfl
    · have hcheck' : declareCheck s.begun p loc = some r := hcheck
      rw [hact, hcheck']
      rfl
  · intro s f record k slot p htakes hlen hmode hread hok hopen
    refine exec_declareStock htakes ?_
    rw [decide_eq_true hlen, takeDeclare_badLocation (s := s.begun) hmode hread hok hopen]
    rfl
  · intro s f record location slot htakes
    refine ⟨fun hoff => exec_declareStock htakes (if_pos hoff), fun hmode hform => ?_⟩
    exact exec_declareStock htakes
      (takeDeclare_fieldRange (s := s.begun) hmode (hform.imp_left fun h => decide_eq_false h))
  · intro s p loc
    unfold declareCheck
    cases loc with
    | slot n => simp only [State.placeCheck, slotBad_iff]
    | _ => rfl

end Sys2Proof.Machine
end

section
/-! PROOF. What the link makes of the custody telegrams it takes, and the confirmation of a held offer by BED_LOADED,
PLACED and CONFIRM_CUSTODY (R126, R127, R132). -/

namespace Sys2Proof.Machine

section
variable {s : State} {g : Nat} {i : StockId}

/-! ### Custody telegrams that the link takes (R42, R124, R127, R128) -/

theorem sendAccept_taken (h : s.linkTakes g (.custodyAccept i)) :
    sendAccept g i s = { s with
      flc := s.flc.sending g (.custodyAccept i)
      st := { s.st with acceptsSent := bump s.st.acceptsSent } } := by
  simp only [sendAccept, offer_taken h]
  rfl

theorem sendRelease_taken (h : s.linkTakes g (.custodyRelease i)) :
    sendRelease g i s = { s with
      flc := s.flc.sending g (.custodyRelease i)
      st := { s.st with releasesSent := bump s.st.releasesSent } } := by
  simp only [sendRelease, offer_taken h]
  rfl

theorem refuseCustody_taken {r : CustodyRefusal} (h : s.linkTakes g (.custodyRefuse i r)) :
    refuseCustody g i r s = { s with
      flc := s.flc.sending g (.custodyRefuse i r)
      st := { s.st with refusalsSent := bump s.st.refusalsSent } } := by
  simp only [refuseCustody, offer_taken h]
  rfl

/-! ### The acceptance of a held offer (R126, R127) -/

variable {m n : Nat} {o : HeldOffer}

/-- The stock table once the offer of an incoming slot is accepted into a position (R127). -/
def State.stored (s : State) (m n : Nat) (o : HeldOffer) (loc : Location) : Stock :=
  { s.st.setSlot m none with
    records := s.st.records.set n (some (acceptedRecord s o loc))
    bed := if loc = .bed then some n else s.st.bed }

/-- Freeing an incoming slot touches none of the fields that an entry writes. -/
theorem setSlot_enter (hn : lowestEmpty s.st.records = some n) (m : Nat) (o : HeldOffer) (loc : Location) :
    (s.st.enter (acceptedRecord s o loc)).setSlot m none = s.stored m n o loc := by
  rw [enter_eq hn, State.stored]
  unfold Stock.setSlot
  split <;> rfl

/-- The part once the offer of an incoming slot is accepted and the link has taken the acceptance, the crane's move unit
apart (R127). -/
def State.accepting (s : State) (m n : Nat) (o : HeldOffer) (loc : Location) : State :=
  { s with
    flc := s.flc.sending o.giver (.custodyAccept o.piece.id)
    st := { s.stored m n o loc with acceptsSent := bump s.st.acceptsSent } }

theorem stored_acceptsSent (loc : Location) : (s.stored m n o loc).acceptsSent = s.st.acceptsSent := by
  unfold State.stored Stock.setSlot
  split <;> rfl

theorem sendAccept_stored (hlink : s.linkTakes o.giver (.custodyAccept o.piece.id)) (loc : Location) :
    sendAccept o.giver o.piece.id { s with st := s.stored m n o loc } = s.accepting m n o loc := by
  rw [sendAccept_taken (s := { s with st := s.stored m n o loc }) hlink, State.accepting]
  simp only [stored_acceptsSent]

theorem acceptOffer_crane (hrole : s.role = .crane) (hn : lowestEmpty s.st.records = some n)
    (hlink : s.linkTakes o.giver (.custodyAccept o.piece.id)) (m : Nat) (loc : Location) :
    acceptOffer m o loc s = acceptedLoad o.piece.id (s.accepting m n o loc) := by
  simp only [acceptOffer, setSlot_enter hn, sendAccept_stored hlink]
  exact if_pos hrole

theorem acceptOffer_other (hrole : s.role ≠ .crane) (hn : lowestEmpty s.st.records = some n)
    (hlink : s.linkTakes o.giver (.custodyAccept o.piece.id)) (m : Nat) (loc : Location) :
    acceptOffer m o loc s = s.accepting m n o loc := by
  simp only [acceptOffer, setSlot_enter hn, sendAccept_stored hlink]
  exact if_neg hrole

/-- An offer passes its second judgement while its ID is neither in the table nor retired and a position is empty
(R126). -/
theorem confirmOffer_passes (hfind : s.st.find o.piece.id = none) (hlive : o.piece.id ∉ s.st.retired)
    (hn : lowestEmpty s.st.records = some n) (m : Nat) (loc : Location) :
    confirmOffer m o loc s = (acceptOffer m o loc s, none) := by
  have hcheck : confirmCheck s.st o.piece.id = none := by
    simp [confirmCheck, hfind, hlive, isFull_false.2 ⟨n, hn⟩]
  simp only [confirmOffer, hcheck]

/-! ### BED_LOADED and PLACED (R126) -/

variable {f : WriteFrame} {slot : Nat} {t : State} {code : ResultCode} {d : ReplyData}

/-- BED_LOADED is refused but at a cutter, PLACED but at a rack, and both in OFFLINE (R126). -/
def confirmsAt (role : Role) (s : State) : Bool := decide (s.role = role) && decide (s.sp.mode ≠ .offline)

theorem exec_bedLoaded (h : s.takes f)
    (hact : (if confirmsAt .cutter s then takeBedLoaded i s.begun else refuse .wrongMode s.begun) = (t, code, d)) :
    exec (.bedLoaded f i) s = .next (s.replied .bedLoaded code d t) := by
  obtain ⟨-, -, -, -, hsuits⟩ := id h
  refine congrArg Host.Outcome.next ((loadedRequest_takes h ..).trans (takenRequest_eq (hact ▸ ?_)))
  have hrole : s.begun.role = s.role := rfl
  by_cases hr : s.role = .cutter <;> by_cases hm : s.sp.mode = .offline <;>
    simp [judge, firstOf, confirmsAt, hrole, hr, hm, hsuits]

theorem exec_placed (h : s.takes f)
    (hact : (if confirmsAt .rack s then takePlaced i slot s.begun else refuse .wrongMode s.begun) = (t, code, d)) :
    exec (.placed f i slot) s = .next (s.replied .placed code d t) := by
  obtain ⟨-, -, -, -, hsuits⟩ := id h
  refine congrArg Host.Outcome.next ((loadedRequest_takes h ..).trans (takenRequest_eq (hact ▸ ?_)))
  have hrole : s.begun.role = s.role := rfl
  by_cases hr : s.role = .rack <;> by_cases hm : s.sp.mode = .offline <;>
    simp [judge, firstOf, confirmsAt, hrole, hr, hm, hsuits]

theorem confirmsAt_of {role : Role} (hrole : s.role = role) (hmode : s.sp.mode ≠ .offline) :
    confirmsAt role s = true := by
  simp [confirmsAt, hrole, hmode]

theorem confirmsAt_false {role : Role} (h : s.role ≠ role ∨ s.sp.mode = .offline) : confirmsAt role s = false := by
  simpa [confirmsAt, imp_iff_not_or] using h

/-- A request that confirms an offer away from a crane stores its record and replies OK (R126, R127). -/
theorem confirmRequest_accepts (hrole : s.role ≠ .crane) (hfind : s.st.find o.piece.id = none)
    (hlive : o.piece.id ∉ s.st.retired) (hn : lowestEmpty s.st.records = some n)
    (hlink : s.linkTakes o.giver (.custodyAccept o.piece.id)) (m : Nat) (loc : Location) :
    confirmRequest m o loc s = answerOk (s.accepting m n o loc) := by
  simp only [confirmRequest, confirmOffer_passes hfind hlive hn, acceptOffer_other hrole hn hlink]

/-! ### CONFIRM_CUSTODY (R132) -/

theorem exec_confirmCustody (h : s.takes f) (hact : takeConfirm true i s.begun = (t, code, d)) :
    exec (.confirmCustody f i) s = .next (s.replied .confirmCustody code d t) := by
  obtain ⟨-, -, -, -, hsuits⟩ := id h
  change Host.Outcome.next (loadedRequest f .confirmCustody (takeConfirm f.suits i) s) = _
  rw [loadedRequest_takes h, hsuits, takenRequest_eq hact]

theorem record_of_find {t : Stock} {r : StockRecord} (hfind : t.find i = some n) (hr : entryAt t.records n = some r) :
    t.record i = some r := by
  simp [Stock.record, hfind, hr]

theorem takeConfirm_noRecord (hfind : s.st.find i = none) : takeConfirm true i s = refuse .noRecord s := by
  simp [takeConfirm, hfind]

theorem takeConfirm_record {r : StockRecord} (hfind : s.st.find i = some n) (hr : entryAt s.st.records n = some r) :
    takeConfirm true i s =
      if r.custody = .disputed then
        answerOk { s with st := { s.st with records := s.st.records.set n (some (settledRecord s.role r)) } }
      else refuse .notDisputed s := by
  simp only [takeConfirm, hfind, record_of_find hfind hr, not_true, if_false, Stock.update, modifyAt_eq hr]

end

/-- Settles O44: both requests confirm through `confirmRequest`, and CONFIRM_CUSTODY settles a DISPUTED record. -/
theorem confirmationTakesCustody : Obligations.ConfirmationTakesCustody := by
  unfold Obligations.ConfirmationTakesCustody
  refine ⟨?_, ?_, ?_, ?_⟩
  · intro s f i slot m n o c code loc htakes hmode hoffer hrequest hfind hlive hn hlink
    have haccepts (hrole : s.role ≠ .crane) : confirmRequest m o loc s.begun = answerOk (s.begun.accepting m n o loc) :=
      confirmRequest_accepts (s := s.begun) hrole hfind hlive hn hlink m loc
    rcases hrequest with ⟨rfl, rfl, rfl, hrole, hbed⟩ | ⟨rfl, rfl, rfl, hrole, hslot⟩
    · refine exec_bedLoaded htakes ?_
      rw [if_pos (confirmsAt_of hrole hmode)]
      have hact : takeBedLoaded i s.begun = confirmRequest m o .bed s.begun := by
        simp [takeBedLoaded, State.begun, hoffer, hbed]
      rw [hact, haccepts (by simp [hrole])]
      rfl
    · refine exec_placed htakes ?_
      rw [if_pos (confirmsAt_of hrole hmode)]
      have hbad : s.begun.slotBad slot = false := hslot
      have hact : takePlaced i slot s.begun = confirmRequest m o (.slot slot) s.begun := by
        have hoffer' : s.begun.st.offerOf i = some (m, o) := hoffer
        simp [takePlaced, hoffer', hbad]
      rw [hact, haccepts (by simp [hrole])]
      rfl
  · exact fun s f i htakes hfind => exec_confirmCustody htakes (takeConfirm_noRecord (s := s.begun) hfind)
  · intro s f i n r htakes hfind hr
    have hact := takeConfirm_record (s := s.begun) hfind hr
    by_cases hdisputed : r.custody = .disputed
    · rw [if_pos hdisputed] at hact ⊢
      exact exec_confirmCustody htakes hact
    · rw [if_neg hdisputed] at hact ⊢
      exact exec_confirmCustody htakes hact
  · intro s f i slot htakes
    exact ⟨fun h => exec_bedLoaded htakes (if_neg (by simp [confirmsAt_false h])),
      fun h => exec_placed htakes (if_neg (by simp [confirmsAt_false h]))⟩

end Sys2Proof.Machine
end

section
/-! PROOF. A CUSTODY_OFFER is judged, refused, held or replaced (R124 to R126). -/

namespace Sys2Proof.Machine

/-! ### The judgement of an offer (R124) -/

/-- Steps 2 to 7 read the stock table and the parameters alone. -/
theorem offerCheck_heard (s : State) (p : Piece) : offerCheck s.heard p = offerCheck s p := rfl

section
variable {s : State} {p : Piece} {g : Nat} {o q : HeldOffer}

/-- An offer of an ID that incoming slot 0 holds is found there. -/
theorem offerOf_slot0 (h0 : s.st.slot0 = some o) (hid : o.piece.id = p.id) : s.st.offerOf p.id = some (0, o) := by
  simp [Stock.offerOf, h0, hid]

/-- An ID that neither incoming slot holds is not found. -/
theorem offerOf_none (h0 : ∀ o, s.st.slot0 = some o → o.piece.id ≠ p.id)
    (h1 : ∀ o, s.st.slot1 = some o → o.piece.id ≠ p.id) : s.st.offerOf p.id = none := by
  have hfilter : s.st.slot1.filter (fun b => decide (b.piece.id = p.id)) = none := by
    rw [Option.filter_eq_none_iff]
    simpa using h1
  unfold Stock.offerOf
  split
  · rename_i a hslot
    rw [if_neg (h0 a hslot), hfilter]
    rfl
  · rw [hfilter]
    rfl

/-! ### What becomes of an offer that passes (R124, R126) -/

theorem holdOffer_replaces (hoffer : s.st.offerOf p.id = some (0, o)) (hgiver : o.giver = g) :
    holdOffer p g s = placeOffer 0 p g s := by
  simp only [holdOffer, hoffer, hgiver, if_true]

theorem holdOffer_duplicate {n : Nat} (hoffer : s.st.offerOf p.id = some (n, o)) (hgiver : o.giver ≠ g) :
    holdOffer p g s = refuseCustody g p.id .duplicate s := by
  simp only [holdOffer, hoffer, hgiver, if_false]

theorem holdOffer_busy (hoffer : s.st.offerOf p.id = none) (hfree : s.st.freeSlot = none) :
    holdOffer p g s = refuseCustody g p.id .busy s := by
  simp only [holdOffer, hoffer, hfree]

/-- A new offer is held in a free slot; where no attached load confirms it, it stays there (R124). -/
theorem holdOffer_held {n : Nat} (hoffer : s.st.offerOf p.id = none) (hfree : s.st.freeSlot = some n)
    (hload : s.role ≠ .crane ∨ s.lu.loadAttached = false) :
    holdOffer p g s = raise (.offerHeld p.id g p.kind) (placeOffer n p g s) := by
  have hrole : (raise (.offerHeld p.id g p.kind) (placeOffer n p g s)).role = s.role := by
    simp [State.role]
  have hwaits : ¬ ((raise (.offerHeld p.id g p.kind) (placeOffer n p g s)).role = .crane
      ∧ (raise (.offerHeld p.id g p.kind) (placeOffer n p g s)).lu.loadAttached = true) := by
    rw [hrole]
    simpa [imp_iff_not_or] using hload
  simp only [holdOffer, hoffer, hfree]
  exact if_neg hwaits

/-! ### The telegram (R40, R41) -/

variable {t : Telegram}

theorem exec_custodyOffer (h : s.hearsMessage t (.custodyOffer p)) :
    exec (.custodyOffer t) s = .next (if t.dest.toNat = s.cfg.params.station then takeOffer p t.source.toNat s.heard
      else ignoreCustody s.heard) :=
  congrArg Host.Outcome.next (receiveKind_custody h _)

/-- In READY and RUN an offer to this station is refused with its reason, or goes on to the incoming slots (R124). -/
theorem takeOffer_judged (hmode : s.sp.mode ≠ .offline) :
    takeOffer p g s = (offerCheck s p).elim (holdOffer p g s) (fun r => refuseCustody g p.id r s) := by
  unfold takeOffer
  rw [if_neg hmode]
  split <;> simp [*]

end

/-- Settles O45: the judgement is `offerCheck`, and what passes it is replaced, refused or held by the incoming
slots. -/
theorem custodyOffersAreJudged : Obligations.CustodyOffersAreJudged := by
  unfold Obligations.CustodyOffersAreJudged
  refine ⟨?_, ?_⟩
  · intro s t p hhears g run refused new
    have hrun : run = _ := exec_custodyOffer hhears
    have hrefused (r : CustodyRefusal) (h : run = .next (refuseCustody g p.id r s.heard)) : refused r := fun hlink =>
      h.trans (congrArg _ (refuseCustody_taken (heard_linkTakes ▸ hlink)))
    refine ⟨fun h => ?_, fun hdest hmode => ?_⟩
    · rw [hrun]
      split
      · have hoff : s.heard.sp.mode = .offline := h.resolve_left (not_not_intro ‹_›)
        rw [takeOffer, if_pos hoff]
        rfl
      · rfl
    · rw [if_pos hdest, takeOffer_judged (s := s.heard) hmode, offerCheck_heard] at hrun
      refine ⟨fun r hcheck => hrefused r (by rw [hrun, hcheck]; rfl), fun hcheck => ?_⟩
      have hheld : run = .next (holdOffer p g s.heard) := by rw [hrun, hcheck]; rfl
      refine ⟨fun o h0 hid => ?_, fun o q h0 h1 hid0 hid1 => ?_, fun hload => ⟨fun h0 h1 => ?_, fun o h0 h1 hid => ?_⟩⟩
      · have hoffer := offerOf_slot0 (s := s.heard) h0 hid
        refine ⟨fun hgiver => ?_, fun hgiver => hrefused _ ?_⟩
        · rw [hheld, holdOffer_replaces hoffer hgiver]
          rfl
        · rw [hheld, holdOffer_duplicate hoffer hgiver]
      · refine hrefused _ ?_
        rw [hheld, holdOffer_busy (s := s.heard)
          (offerOf_none (fun a ha => by cases h0.symm.trans ha; exact hid0)
            (fun a ha => by cases h1.symm.trans ha; exact hid1))
          (by simp [Stock.freeSlot, State.heard, h0, h1])]
      · rw [hheld, holdOffer_held (s := s.heard) (n := 0)
          (offerOf_none (fun a ha => by cases h0.symm.trans ha) (fun a ha => by cases h1.symm.trans ha))
          (by simp [Stock.freeSlot, State.heard, h0]) hload]
        rfl
      · rw [hheld, holdOffer_held (s := s.heard) (n := 1)
          (offerOf_none (fun a ha => by cases h0.symm.trans ha; exact hid) (fun a ha => by cases h1.symm.trans ha))
          (by simp [Stock.freeSlot, State.heard, h0, h1]) hload]
        rfl
  · intro s p
    have hform : ¬ (pieceOk p = true ∧ reservationOk p = true) ↔ pieceOk p = false ∨ reservationOk p = false := by
      rw [not_and_or, Bool.not_eq_true, Bool.not_eq_true]
    have hfull : s.st.isFull = true ↔ lowestEmpty s.st.records = none := by simp [Stock.isFull]
    have hreserved : p.reservation.any (fun r => decide (r ≠ s.cfg.params.station)) = true ↔
        p.reservation ≠ none ∧ p.reservation ≠ some s.cfg.params.station := by
      cases p.reservation <;> simp
    simp only [offerCheck, hform, hfull, hreserved, Option.isSome_iff_ne_none]

end Sys2Proof.Machine
end

section
/-! PROOF. How a handover ends at the giver and at the taker, and the crane's started move that the record's leave
finishes (R125, R128 to R131, R162). -/

namespace Sys2Proof.Machine

/-! ### The queue replaced, and the link (R42, R160) -/

/-- A queue replaced raises at most one notice, of its head. -/
theorem requeued_frame (s : State) (q : List QueuedMove) (u : State) :
    (s.requeued q u).cfg = u.cfg ∧ (s.requeued q u).sp.mode = u.sp.mode
      ∧ (s.requeued q u).mu.leavePending = u.mu.leavePending ∧ (s.requeued q u).flc = u.flc := by
  unfold State.requeued
  dsimp only
  split <;> simp

/-- What the link takes depends on its state, the class queue of the message and the own station number. -/
theorem linkTakes_congr {s u : State} {dest : Nat} {m : Message} (h : s.linkTakes dest m)
    (hlink : u.flc.link = s.flc.link) (hqueue : u.flc.queueOf m.txClass = s.flc.queueOf m.txClass)
    (hcfg : u.cfg = s.cfg) : u.linkTakes dest m := by
  unfold State.linkTakes
  rwa [hlink, hqueue, hcfg]

/-! ### The move is finished (R162, R164) -/

/-- A crane's change from RUN to READY is reported, and the lines are driven again (R164, R166, R171). -/
theorem changeMode_craneReady {v : State} (hrole : v.role = .crane) (hmode : v.sp.mode = .run) :
    changeMode .ready v =
      driveLines (raise (.modeChanged .run .ready) { v with sp := { v.sp with mode := .ready } }) := by
  have hcrane (u : State) (h : u.cfg = v.cfg) : ¬ u.role = .cutter := by
    rw [role_of_cfg h, hrole]
    exact nofun
  unfold changeMode
  dsimp only
  rw [hmode, if_neg (hcrane _ (by simp))]
  rfl

variable {s u : State} {m : QueuedMove} {rest : List QueuedMove} {carried : Bool} {taker : Option Nat}

theorem finishMove_finished (hmu : u.mu = s.mu) (hqueue : s.mu.queue = m :: rest) (hrole : u.role = .crane)
    (hlink : u.linkTakes m.requester (.moveDone m.tag carried taker))
    (hmode : s.mu.leavePending = true → u.sp.mode = .run) :
    finishMove carried taker u = s.finished m rest carried taker u := by
  have huqueue : u.mu.queue = m :: rest := (congrArg Moves.queue hmu).trans hqueue
  have hdone : finishMove carried taker u = completeLeave (s.requeued rest
      { u with flc := u.flc.sending m.requester (.moveDone m.tag carried taker) }) := by
    simp only [finishMove, huqueue, sendMove_taken hlink]
    exact congrArg completeLeave (setMoveQueue_requeued rest (congrArg Moves.queue hmu))
  obtain ⟨hcfg, hsame, hleave, -⟩ := requeued_frame s rest
    { u with flc := u.flc.sending m.requester (.moveDone m.tag carried taker) }
  have hpending := hleave.trans (congrArg Moves.leavePending hmu)
  rw [hdone, completeLeave, hpending, State.finished]
  split
  · exact changeMode_craneReady ((role_of_cfg hcfg).trans hrole) (hsame.trans (hmode ‹_›))
  · rfl

/-- The crane's started DELIVER or STORE that names a record (R162). -/
def State.carriesRecord (s : State) (i : StockId) (m : QueuedMove) : Prop :=
  s.role = .crane ∧ s.mu.queue.head? = some m ∧ m.started = true ∧ m.info.kind ≠ .clear ∧ m.info.stock = some i

/-- What a record's leave answers in the state `u` of a step taken in `s`: the move that carries it is finished, and
without one nothing more changes (R162). -/
structure State.leavesWith (s u : State) (i : StockId) (carried : Bool) (taker : Option Nat) (t : State) : Prop where
  stays    : (∀ m, ¬ s.carriesRecord i m) → t = u
  finishes : ∀ m rest, s.mu.queue = m :: rest → s.carriesRecord i m →
    s.linkTakes m.requester (.moveDone m.tag carried taker) → (s.mu.leavePending = true → s.sp.mode = .run) →
    t = s.finished m rest carried taker u

/-- A record leaves the hook in a state that still has the move unit, the mode and the search class of `s` (R162). -/
theorem recordLeaves_leaves (i : StockId) (hcfg : u.cfg = s.cfg) (hmu : u.mu = s.mu) (hmode : u.sp.mode = s.sp.mode)
    (hlink : u.flc.link = s.flc.link) (hqueue : u.flc.queueOf .search = s.flc.queueOf .search) :
    s.leavesWith u i carried taker (if u.role = .crane then recordLeaves i carried taker u else u) where
  stays hnone := by
    split
    · rename_i hrole
      unfold recordLeaves
      split
      · rename_i m hstarted
        refine if_neg fun hmove => hnone m ?_
        rw [Moves.startedMove, hmu, Option.filter_eq_some_iff] at hstarted
        exact ⟨(role_of_cfg hcfg).symm.trans hrole, hstarted.1, hstarted.2, hmove⟩
      · rfl
    · rfl
  finishes m rest hhead hcarries htaken hleave := by
    obtain ⟨hrole, hfirst, hstarted, hkind, hstock⟩ := hcarries
    have hcrane : u.role = .crane := (role_of_cfg hcfg).trans hrole
    have hmove : u.mu.startedMove = some m := by simp [Moves.startedMove, hmu, hfirst, hstarted]
    rw [if_pos hcrane]
    simp only [recordLeaves, hmove]
    rw [if_pos ⟨hkind, hstock⟩]
    exact finishMove_finished hmu hhead hcrane (linkTakes_congr htaken hlink hqueue hcfg) (hmode ▸ hleave)

/-! ### How a record leaves the table, and what its handover answers (R128 to R131) -/

section
variable {s : State} {i : StockId} {n g : Nat} {r : StockRecord}

/-- The notice of a release and the release itself are made in either order (R128). -/
theorem raise_sendRelease (hlink : s.linkTakes g (.custodyRelease i)) (d : NoticeData) :
    sendRelease g i (raise d s) = raise d (sendRelease g i s) := by
  have hraised : (raise d s).linkTakes g (.custodyRelease i) := linkTakes_congr hlink (by simp) (by simp) (by simp)
  rw [sendRelease_taken hraised, sendRelease_taken hlink]
  unfold raise
  split <;> rfl

/-- An ID in the table decides what a CUSTODY_ACCEPT does by its custody (R128). -/
theorem takeAccept_record (hfind : s.st.find i = some n) (hr : entryAt s.st.records n = some r) :
    takeAccept i g s =
      if r.custody = .offered ∧ r.partner = some g then releaseRecord n g i s
      else refuseCustody g i (if r.custody = .held ∨ r.custody = .disputed then .late else .notOffered) s := by
  simp only [takeAccept, hfind, record_of_find hfind hr]
  cases r.custody
  case offered => by_cases h : r.partner = some g <;> simp [h]
  all_goals simp

theorem takeRefusal_record (hfind : s.st.find i = some n) (hr : entryAt s.st.records n = some r)
    (reason : CustodyRefusal) :
    takeRefusal i reason g s =
      if r.partner = some g ∧ r.custody = .offered ∧ ¬ reason.endsPending then failOffer n r (.refused reason) s
      else if r.partner = some g ∧ r.custody = .pending ∧ reason.endsPending then rejectRecord n g i reason s
      else ignoreCustody s := by
  simp only [takeRefusal, hfind, record_of_find hfind hr]

theorem takeRelease_record (hfind : s.st.find i = some n) (hr : entryAt s.st.records n = some r) :
    takeRelease i g s =
      if r.custody = .pending ∧ r.partner = some g then
        raise (.handoverDone i g .taker)
          { s with st := { s.st with records := s.st.records.set n (some (settledRecord s.role r)) } }
      else ignoreCustody s := by
  simp only [takeRelease, hfind, record_of_find hfind hr, Stock.update, modifyAt_eq hr]

/-- LATE and NOT_OFFERED end a taker's PENDING record, the others a giver's offer (R129, R131). -/
theorem endsPending_iff (reason : CustodyRefusal) :
    reason.endsPending = true ↔ reason = .late ∨ reason = .notOffered := by
  cases reason <;> simp [CustodyRefusal.endsPending]

/-- An offer that ends without a taker leaves its record HELD (R129). -/
theorem failOffer_record (hfind : s.st.find i = some n) (hr : entryAt s.st.records n = some r)
    (hpartner : r.partner = some g) (reason : HandoverReason) :
    failOffer n r reason s = raise (.handoverFailed i g reason)
      { s with st := { s.st with records := s.st.records.set n (some r.toHeld) } } := by
  simp only [failOffer, find_id hfind hr, hpartner, Option.getD_some, Stock.update, modifyAt_eq hr]

/-- A released record leaves the giver, and at a crane it finishes the move that carried it (R128, R162). -/
theorem releaseRecord_leaves (hlink : s.linkTakes g (.custodyRelease i)) (n : Nat) :
    s.leavesWith (raise (.handoverDone i g .giver) { s.heard with
      flc := s.heard.flc.sending g (.custodyRelease i)
      st := { s.st.remove n with releasesSent := bump s.st.releasesSent } }) i true (some g)
      (releaseRecord n g i s.heard) := by
  have hsent : sendRelease g i { s.heard with st := s.st.remove n } = { s.heard with
      flc := s.heard.flc.sending g (.custodyRelease i)
      st := { s.st.remove n with releasesSent := bump s.st.releasesSent } } :=
    sendRelease_taken (s := { s.heard with st := s.st.remove n }) (heard_linkTakes.mpr hlink)
  have hraised := raise_sendRelease (s := { s.heard with st := s.st.remove n }) (heard_linkTakes.mpr hlink)
    (.handoverDone i g .giver)
  unfold releaseRecord
  dsimp only
  rw [show s.heard.st.remove n = s.st.remove n from rfl, hraised, hsent]
  exact recordLeaves_leaves i (by simp; rfl) (by simp; rfl) (by simp; rfl) (by simp; rfl) (by simp; rfl)

/-- A PENDING record that its giver refuses leaves the taker, and at a crane it finishes the move that was to carry it
(R131, R162). -/
theorem rejectRecord_leaves (n g : Nat) (i : StockId) (reason : CustodyRefusal) :
    s.leavesWith (raise (.handoverRejected i g reason) { s.heard with st := s.st.remove n }) i false none
      (rejectRecord n g i reason s.heard) :=
  recordLeaves_leaves i (by simp; rfl) (by simp; rfl) (by simp; rfl) (by simp) (by simp; rfl)

/-! ### The telegrams sent to this station (R40, R41) -/

variable {t : Telegram} {reason : CustodyRefusal}

theorem exec_custodyAccept (h : s.hearsMessage t (.custodyAccept i)) (hdest : t.dest.toNat = s.cfg.params.station) :
    exec (.custodyAccept t) s = .next (takeAccept i t.source.toNat s.heard) :=
  congrArg Host.Outcome.next ((receiveKind_custody h _).trans (if_pos hdest))

theorem exec_custodyRelease (h : s.hearsMessage t (.custodyRelease i)) (hdest : t.dest.toNat = s.cfg.params.station) :
    exec (.custodyRelease t) s = .next (takeRelease i t.source.toNat s.heard) :=
  congrArg Host.Outcome.next ((receiveKind_custody h _).trans (if_pos hdest))

theorem exec_custodyRefuse (h : s.hearsMessage t (.custodyRefuse i reason))
    (hdest : t.dest.toNat = s.cfg.params.station) :
    exec (.custodyRefuse t) s = .next (takeRefusal i reason t.source.toNat s.heard) :=
  congrArg Host.Outcome.next ((receiveKind_custody h _).trans (if_pos hdest))

end

/-- Settles O46: each end of a handover is one branch of the judgement of its telegram or timer, and a record that
leaves a crane finishes its move by `recordLeaves_leaves`. -/
theorem handoversEndOnBothSides : Obligations.HandoversEndOnBothSides := by
  unfold Obligations.HandoversEndOnBothSides
  intro moves leaves
  have hends {s u t : State} {i : StockId} {carried : Bool} {taker : Option Nat}
      {o : Host.Outcome State Fault Refusal} (h : s.leavesWith u i carried taker t) (ho : o = .next t) :
      leaves s u i carried taker o := by
    subst ho
    exact ⟨fun hnone => congrArg _ (h.stays hnone),
      fun m rest hhead hmoves hlink hmode => congrArg _ (h.finishes m rest hhead hmoves hlink hmode)⟩
  refine ⟨fun s i n r hr hfind => ⟨fun t hhears hdest => ?_, ?_, ?_⟩,
    fun s i n r hr hfind hpending => ⟨fun t hhears hdest => ?_, ?_, ?_⟩, ?_, ?_⟩
  · intro g refused
    have hrun := (exec_custodyAccept hhears hdest).trans (congrArg _ (takeAccept_record (s := s.heard) hfind hr))
    have hrefused {reason : CustodyRefusal} (h : exec (.custodyAccept t) s = .next (refuseCustody g i reason s.heard)) :
        refused reason := fun hlink => h.trans (congrArg _ (refuseCustody_taken (heard_linkTakes ▸ hlink)))
    refine ⟨fun hoffered hpartner hlink => hends (releaseRecord_leaves hlink n) ?_,
      fun hoffered hpartner => hrefused ?_, fun hpending => hrefused ?_, fun hkept => hrefused ?_⟩
    · rw [hrun, if_pos ⟨hoffered, hpartner⟩]
    · rw [hrun, if_neg (fun h => hpartner h.2), hoffered]
      rfl
    · rw [hrun, hpending]
      rfl
    · rcases hkept with h | h <;> rw [hrun, h] <;> rfl
  · intro t reason hhears hdest hoffered hpartner hlate hnotOffered
    have hkept : ¬ reason.endsPending = true := by simp [endsPending_iff, hlate, hnotOffered]
    rw [exec_custodyRefuse hhears hdest, takeRefusal_record (s := s.heard) hfind hr, if_pos ⟨hpartner, hoffered, hkept⟩,
      failOffer_record (s := s.heard) hfind hr hpartner]
    rfl
  · intro k hoffered hpartner hexpired
    change execOfferTimeout n s = _
    simp only [execOfferTimeout, hr]
    rw [if_pos ⟨hoffered, hexpired⟩, failOffer_record hfind hr hpartner]
    rfl
  · rw [exec_custodyRelease hhears hdest, takeRelease_record (s := s.heard) hfind hr]
    refine ⟨fun hpartner => ?_, fun hpartner => ?_⟩
    · rw [if_pos ⟨hpending, hpartner⟩]
      rfl
    · rw [if_neg (fun h => hpartner h.2)]
      rfl
  · intro t reason hhears hdest hpartner hreason
    have hrun := (exec_custodyRefuse hhears hdest).trans
      (congrArg _ (takeRefusal_record (s := s.heard) hfind hr reason))
    refine hends (rejectRecord_leaves n t.source.toNat i reason) ?_
    rw [hrun, if_neg (by simp [hpending]), if_pos ⟨hpartner, hpending, (endsPending_iff reason).2 hreason⟩]
  · intro k hpartner hexpired
    change execPendingTimeout n s = _
    simp only [execPendingTimeout, hr]
    rw [if_pos ⟨hpending, hexpired⟩]
    simp only [find_id hfind hr, hpartner, Option.getD_some, Stock.update, modifyAt_eq hr, StockRecord.toDisputed]
  · intro s o hslot hexpired
    change execHeldOfferExpiry 0 s = _
    simp [execHeldOfferExpiry, Stock.slotAt, hslot, hexpired, Stock.setSlot]
  · intro s o hslot hexpired
    change execHeldOfferExpiry 1 s = _
    simp [execHeldOfferExpiry, Stock.slotAt, hslot, hexpired, Stock.setSlot]

end Sys2Proof.Machine
end

section
/-! PROOF. A rise of LOAD_ATTACHED confirms the offer held at the hook and starts its move, and a fall offers the hook
record (R122, R126, R161, R172). -/

namespace Sys2Proof.Machine

section
variable {s : State}

/-! ### Two units that are told in either order (R191) -/

theorem unordered_or (f g : State → State) (s : State) :
    unordered f g s = g (f { s with freeCount := s.freeCount + 1 })
      ∨ unordered f g s = f (g { s with freeCount := s.freeCount + 1 }) := by
  unfold unordered
  dsimp only
  split
  · exact .inl rfl
  · exact .inr rfl

/-- Where one unit has nothing to do before and after the other, the order does not matter. -/
theorem unordered_left {f g : State → State} {t : State} (ht : t = { s with freeCount := s.freeCount + 1 })
    (hbefore : g t = t) (hafter : g (f t) = f t) : unordered f g s = f t := by
  rcases unordered_or f g s with h | h
  · rw [h, ← ht, hafter]
  · rw [h, ← ht, hbefore]

theorem unordered_right {f g : State → State} {t : State} (ht : t = { s with freeCount := s.freeCount + 1 })
    (hbefore : f t = t) (hafter : f (g t) = g t) : unordered f g s = g t := by
  rcases unordered_or f g s with h | h
  · rw [h, ← ht, hbefore]
  · rw [h, ← ht, hafter]

/-! ### The crane's moves (R160, R161) -/

section
variable {m : QueuedMove} {front back rest : List QueuedMove} {i : StockId}

/-- A notice reads nothing of the link, and leaves it as it stands. -/
theorem raise_withFlc (d : NoticeData) (f : Flc) (u : State) :
    raise d { u with flc := f } = { raise d u with flc := f } := by
  unfold raise
  split <;> rfl

/-- A queue replaced leaves the link as it stands, and reads nothing of it. -/
theorem requeued_withFlc (s : State) (q : List QueuedMove) (f : Flc) (u : State) :
    s.requeued q { u with flc := f } = { s.requeued q u with flc := f } := by
  unfold State.requeued
  dsimp only
  split
  · rfl
  · exact raise_withFlc _ f { u with mu := { u.mu with queue := q } }

theorem startQueued_taken {k : Nat} (hget : s.mu.queue[k]? = some m)
    (hlink : s.linkTakes m.requester (.moveStarted m.tag)) :
    startQueued k s = s.requeued ({ m with started := true } :: s.mu.queue.eraseIdx k)
      { s with flc := s.flc.sending m.requester (.moveStarted m.tag) } := by
  obtain ⟨hcfg, -, -, hflc⟩ := requeued_frame s ({ m with started := true } :: s.mu.queue.eraseIdx k) s
  have htaken := linkTakes_congr hlink (congrArg Flc.link hflc) (by rw [hflc]) hcfg
  simp only [startQueued, hget, setMoveQueue_requeued _ rfl, sendMove_taken htaken, hflc, requeued_withFlc]

/-- A queued DELIVER or STORE, not started, that names a stock ID (R161). -/
def QueuedMove.wantedFor (i : StockId) (m : QueuedMove) : Bool :=
  !m.started && decide (m.info.kind ≠ .clear) && decide (m.info.stock = some i)

theorem wantedFor_iff : m.wantedFor i = true ↔ m.started = false ∧ m.info.kind ≠ .clear ∧ m.info.stock = some i := by
  simp [QueuedMove.wantedFor, and_assoc]

theorem wantedFor_eq_false (h : ¬ (m.started = false ∧ m.info.kind ≠ .clear ∧ m.info.stock = some i)) :
    m.wantedFor i = false := Bool.eq_false_iff.2 (h ∘ wantedFor_iff.1)

/-- The first queued move in queue order that names the record is started (R161; log 56). -/
theorem acceptedLoad_starts (hqueue : s.mu.queue = front ++ m :: back) (hwanted : m.wantedFor i = true)
    (hfirst : ∀ q ∈ front, q.wantedFor i = false) (hnone : s.mu.anyStarted = false)
    (hlink : s.linkTakes m.requester (.moveStarted m.tag)) :
    acceptedLoad i s = s.requeued ({ m with started := true } :: (front ++ back))
      { s with flc := s.flc.sending m.requester (.moveStarted m.tag) } := by
  have hindex : s.mu.queue.findIdx? (QueuedMove.wantedFor i) = some front.length := by
    rw [hqueue, List.findIdx?_append, List.findIdx?_eq_none_iff.2 hfirst, List.findIdx?_cons, hwanted]
    simp
  have hget : s.mu.queue[front.length]? = some m := by simp [hqueue]
  have herase : s.mu.queue.eraseIdx front.length = front ++ back := by
    simp [hqueue, List.eraseIdx_append_of_length_le]
  have hstart : acceptedLoad i s = startQueued front.length s := by
    change (match s.mu.queue.findIdx? (QueuedMove.wantedFor i) with | some k => _ | none => _) = _
    rw [hindex]
    exact if_neg (by simp [hnone])
  rw [hstart, startQueued_taken hget hlink, herase]

/-- With a move started, or none queued that names the record, the load is not planned (R161). -/
theorem acceptedLoad_unplanned (h : s.mu.anyStarted = true ∨ ∀ q ∈ s.mu.queue, q.wantedFor i = false) :
    acceptedLoad i s = raise (.unplannedLoad i) { s with mu := { s.mu with
      counts := { s.mu.counts with unplannedLoads := bump s.mu.counts.unplannedLoads } } } := by
  change (match s.mu.queue.findIdx? (QueuedMove.wantedFor i) with | some k => _ | none => _) = _
  split
  · rename_i k hindex
    have hstarted : s.mu.anyStarted = true := h.resolve_right fun hnone => by
      rw [List.findIdx?_eq_none_iff.2 hnone] at hindex
      cases hindex
    exact if_pos hstarted
  · rfl

/-- Without a CLEAR move at the head, or with a move started, the rise starts no CLEAR move (R161). -/
theorem clearRises_idle (h : ∀ m, s.mu.queue.head? = some m → m.info.kind = .clear → s.mu.anyStarted = true) :
    clearRises s = s := by
  unfold clearRises
  split
  · rename_i m hhead
    exact if_neg fun hclear => hclear.2 (h m hhead hclear.1)
  · rfl

theorem clearRises_starts (hqueue : s.mu.queue = m :: rest) (hclear : m.info.kind = .clear)
    (hnone : s.mu.anyStarted = false) (hlink : s.linkTakes m.requester (.moveStarted m.tag)) :
    clearRises s = { s with
      flc := s.flc.sending m.requester (.moveStarted m.tag)
      mu := { s.mu with queue := { m with started := true } :: rest } } := by
  have hstart : clearRises s = startQueued 0 s := by
    simp [clearRises, hqueue, hclear, hnone]
  rw [hstart, startQueued_taken (by simp [hqueue]) hlink, State.requeued, if_pos (by simp [hqueue])]
  simp [hqueue]

end

/-! ### A held offer is confirmed at the hook (R126, R127) -/

section
variable {o : HeldOffer} {n : Nat}

/-- An acceptance sent or refused touches neither the records nor the incoming slots. -/
theorem sendAccept_slots (g : Nat) (i : StockId) (s : State) :
    (sendAccept g i s).st.records = s.st.records ∧ (sendAccept g i s).st.slot0 = s.st.slot0
      ∧ (sendAccept g i s).st.slot1 = s.st.slot1 := by
  unfold sendAccept
  dsimp only
  split <;> simp [countStockRefusal]

/-- An accepted offer of incoming slot 0 is stored, whatever the link and the move unit make of it (R127). -/
theorem acceptOffer_slots (hn : lowestEmpty s.st.records = some n) (o : HeldOffer) (loc : Location) :
    (acceptOffer 0 o loc s).st.records = s.st.records.set n (some (acceptedRecord s o loc))
      ∧ (acceptOffer 0 o loc s).st.slot0 = none ∧ (acceptOffer 0 o loc s).st.slot1 = s.st.slot1 := by
  obtain ⟨hrecords, h0, h1⟩ := sendAccept_slots o.giver o.piece.id { s with st := s.stored 0 n o loc }
  simp only [acceptOffer, setSlot_enter hn]
  split
  · rw [(acceptedLoad_frame _ _).2.2.2.2.2.2.2.2.2.1]
    exact ⟨hrecords, h0, h1⟩
  · exact ⟨hrecords, h0, h1⟩

/-- A crane holds one offer, in slot 0, and it passes its second judgement with a position free (R126). -/
structure State.holdsOne (s : State) (o : HeldOffer) (n : Nat) : Prop where
  role   : s.role = .crane
  slot0  : s.st.slot0 = some o
  slot1  : s.st.slot1 = none
  absent : s.st.find o.piece.id = none
  live   : o.piece.id ∉ s.st.retired
  room   : lowestEmpty s.st.records = some n

/-- What a held offer's judgement reads: the role and the stock table. -/
theorem State.holdsOne.congr {u : State} (h : s.holdsOne o n) (hcfg : u.cfg = s.cfg) (hst : u.st = s.st) :
    u.holdsOne o n := by
  obtain ⟨hrole, h0, h1, hfind, hlive, hn⟩ := h
  exact ⟨(role_of_cfg hcfg).trans hrole, hst ▸ h0, hst ▸ h1, hst ▸ hfind, hst ▸ hlive, hst ▸ hn⟩

theorem confirmHeld_slot0 (h : s.holdsOne o n) : confirmHeld s = acceptOffer 0 o .hook s := by
  obtain ⟨hrole, h0, h1, hfind, hlive, hn⟩ := h
  have hfirst : confirmSlot 0 s = acceptOffer 0 o .hook s := by
    simp only [confirmSlot, Stock.slotAt, h0, confirmOffer_passes hfind hlive hn]
  have hempty (u : State) (hu : u.st.slot1 = none) : confirmSlot 1 u = u := by
    simp only [confirmSlot, Stock.slotAt, hu]
  have hslot1 := (acceptOffer_slots hn o .hook).2.2.trans h1
  rw [confirmHeld, if_pos hrole, hempty s h1, hfirst, hempty _ hslot1, ite_self]

/-- A crane that holds no offer confirms none (R126). -/
theorem confirmHeld_none (h0 : s.st.slot0 = none) (h1 : s.st.slot1 = none) : confirmHeld s = s := by
  simp [confirmHeld, confirmSlot, Stock.slotAt, h0, h1]

end

/-! ### A rise (R126, R161, R172) -/

section
variable {o : HeldOffer} {n : Nat}

/-- The move unit's answer to a rise: in OFFLINE it starts no move (R161). -/
def clearInService (s : State) : State := if s.sp.mode = .offline then s else clearRises s

theorem clearInService_idle
    (h : ∀ m, s.mu.queue.head? = some m → m.info.kind = .clear → s.mu.anyStarted = true) : clearInService s = s := by
  rw [clearInService, clearRises_idle h, ite_self]

/-- What a rise at a crane settles in any case: an offer held in slot 0 becomes a PENDING record of the state `t` at the
hook, and neither slot holds an offer any more. -/
structure State.takesUp (t u : State) (o : HeldOffer) (n : Nat) : Prop where
  records : u.st.records = t.st.records.set n (some (acceptedRecord t o .hook))
  slot0   : u.st.slot0 = none
  slot1   : u.st.slot1 = none
  lu      : u.lu = t.lu
  env     : u.env = t.env
  pt      : u.pt = t.pt
  cfg     : u.cfg = t.cfg

theorem confirmHeld_takesUp (h : s.holdsOne o n) : s.takesUp (confirmHeld s) o n := by
  obtain ⟨hrecords, h0, h1⟩ := acceptOffer_slots h.room o .hook
  rw [confirmHeld_slot0 h]
  exact ⟨hrecords, h0, h1.trans h.slot1, by simp, by simp, by simp, by simp⟩

/-- The move unit's answer touches nothing that the confirmation settles or reads. -/
theorem clearInService_frame (s : State) :
    (clearInService s).st = s.st ∧ (clearInService s).lu = s.lu ∧ (clearInService s).env = s.env
      ∧ (clearInService s).pt = s.pt ∧ (clearInService s).cfg = s.cfg ∧ (clearInService s).time = s.time := by
  unfold clearInService
  split <;> simp

/-- The confirmation and the move unit's answer give the same record in either order. -/
theorem loadRises_takesUp (h : s.holdsOne o n) : s.takesUp (loadRises s) o n := by
  have heq : loadRises s = unordered confirmHeld clearInService s := if_pos h.role
  let t : State := { s with freeCount := s.freeCount + 1 }
  have ht : t.holdsOne o n := h.congr rfl rfl
  obtain ⟨hst, hlu, henv, hpt, hcfg, htime⟩ := clearInService_frame t
  rcases unordered_or confirmHeld clearInService s with hrun | hrun
  · obtain ⟨hst', hlu', henv', hpt', hcfg', -⟩ := clearInService_frame (confirmHeld t)
    obtain ⟨hrecords, h0, h1, hul, hue, hup, huc⟩ := confirmHeld_takesUp ht
    rw [heq, hrun]
    exact ⟨hst' ▸ hrecords, hst' ▸ h0, hst' ▸ h1, hlu'.trans hul, henv'.trans hue, hpt'.trans hup, hcfg'.trans huc⟩
  · obtain ⟨hrecords, h0, h1, hul, hue, hup, huc⟩ := confirmHeld_takesUp (ht.congr hcfg hst)
    have haccepted : acceptedRecord (clearInService t) o .hook = acceptedRecord s o .hook := by
      simp only [acceptedRecord, State.timer, role_of_cfg hcfg, htime, hcfg]
      rfl
    rw [heq, hrun]
    rw [hst, haccepted] at hrecords
    exact ⟨hrecords, h0, h1, hul.trans hlu, hue.trans henv, hup.trans hpt, huc.trans hcfg⟩

end

/-- A crane stores an offered record with its reservation (R127). -/
theorem acceptedRecord_crane (hrole : s.role = .crane) (o : HeldOffer) (loc : Location) :
    acceptedRecord s o loc =
      { piece := o.piece
        location := loc
        custody := .pending
        partner := some o.giver
        entryTime := s.time
        timer := some ⟨s.time, s.cfg.params.pendingTime⟩ } := by
  simp [acceptedRecord, hrole, State.timer]

/-- The state of a crane that has stored the offer of slot 0 and queued its acceptance, after a rise (R126, R127). -/
def State.accepted (s : State) (o : HeldOffer) (n : Nat) : State :=
  { s.accepting 0 n o .hook with freeCount := s.freeCount + 1 }

/-- Where the move unit has no CLEAR move to start, a rise is the confirmation alone. -/
theorem loadRises_confirms {o : HeldOffer} {n : Nat} {u : State} (h : s.holdsOne o n)
    (hlink : s.linkTakes o.giver (.custodyAccept o.piece.id)) (hload : acceptedLoad o.piece.id (s.accepted o n) = u)
    (hbefore : clearInService { s with freeCount := s.freeCount + 1 } = { s with freeCount := s.freeCount + 1 })
    (hafter : clearInService u = u) : loadRises s = u := by
  have heq : loadRises s = unordered confirmHeld clearInService s := if_pos h.role
  have ht : ({ s with freeCount := s.freeCount + 1 } : State).holdsOne o n := h.congr rfl rfl
  have hconfirm : confirmHeld { s with freeCount := s.freeCount + 1 } = u := by
    rw [confirmHeld_slot0 ht, acceptOffer_crane (s := { s with freeCount := s.freeCount + 1 }) h.role h.room hlink]
    exact hload
  rw [heq, unordered_left rfl hbefore (by rw [hconfirm, hafter]), hconfirm]

/-- A crane that holds no offer starts the CLEAR move at the head of its queue (R161). -/
theorem loadRises_clears {m : QueuedMove} {rest : List QueuedMove} (hrole : s.role = .crane) (h0 : s.st.slot0 = none)
    (h1 : s.st.slot1 = none) (hmode : s.sp.mode ≠ .offline) (hqueue : s.mu.queue = m :: rest)
    (hclear : m.info.kind = .clear) (hnone : s.mu.anyStarted = false)
    (hlink : s.linkTakes m.requester (.moveStarted m.tag)) :
    loadRises s = { s with
      flc := s.flc.sending m.requester (.moveStarted m.tag)
      mu := { s.mu with queue := { m with started := true } :: rest }
      freeCount := s.freeCount + 1 } := by
  have heq : loadRises s = unordered confirmHeld clearInService s := if_pos hrole
  let t : State := { s with freeCount := s.freeCount + 1 }
  have hstart : clearInService t = { s with
      flc := s.flc.sending m.requester (.moveStarted m.tag)
      mu := { s.mu with queue := { m with started := true } :: rest }
      freeCount := s.freeCount + 1 } := (if_neg hmode).trans (clearRises_starts (s := t) hqueue hclear hnone hlink)
  rw [heq, unordered_right (t := t) rfl (confirmHeld_none h0 h1) (by rw [hstart]; exact confirmHeld_none h0 h1), hstart]

/-! ### A fall (R122, R172) -/

/-- A fall at a crane in READY and RUN offers the hook record of the started move, once it has one (R122). -/
theorem loadFalls_hook {m : QueuedMove} {i : StockId} {n : Nat} {r : StockRecord} (hrole : s.role = .crane)
    (hmode : s.sp.mode ≠ .offline) (hhead : s.mu.queue.head? = some m) (hstarted : m.started = true)
    (hkind : m.info.kind ≠ .clear) (hstock : m.info.stock = some i) (hfind : s.st.find i = some n)
    (hr : entryAt s.st.records n = some r) (hhook : r.location = .hook) :
    loadFalls s = offerFromHook n r m.info.toStation s := by
  have hmove : s.mu.startedMove = some m := by simp [Moves.startedMove, hhead, hstarted]
  have hrecord : s.hookRecord = some (n, r, m.info.toStation) := by
    simp [State.hookRecord, hmove, hkind, hstock, hfind, hr, hhook]
  rw [loadFalls, if_pos ⟨hrole, hmode⟩, hrecord]

theorem offerFromHook_held {n dest : Nat} {r : StockRecord} (hr : entryAt s.st.records n = some r)
    (hheld : r.custody = .held) (hlink : s.linkTakes dest (.custodyOffer r.piece)) :
    offerFromHook n r dest s =
      { s.offering n r dest with flc := s.flc.sending dest (.custodyOffer r.piece) } := by
  simp [offerFromHook, hheld, offerRecord_accepted hr (offer_taken hlink)]

/-! ### The level is sampled (R172) -/

/-- A level that has changed is sampled, and after a good load it is handed on. -/
theorem senseLoad_changed {level : Bool} (h : s.lu.loadAttached ≠ level) (act : State → State) :
    senseLoad level act s =
      if s.isLoaded then act { s with lu := { s.lu with loadAttached := level } }
      else { s with lu := { s.lu with loadAttached := level } } := if_neg h

end

/-- Settles O47: a rise confirms the held offer by `loadRises_confirms`, or starts the CLEAR move by `loadRises_clears`,
and a fall offers the hook record by `loadFalls_hook`. -/
theorem loadAttachedTakesAndOffers : Obligations.LoadAttachedTakesAndOffers := by
  unfold Obligations.LoadAttachedTakesAndOffers
  intro s
  refine ⟨fun h => congrArg Host.Outcome.next (if_pos h), fun h => congrArg Host.Outcome.next (if_pos h), ?_, ?_⟩
  · intro hlow t
    have hrise : exec .loadAttachedRises s = .next (if s.isLoaded then loadRises t else t) :=
      congrArg Host.Outcome.next (senseLoad_changed (by simp [hlow]) _)
    refine ⟨fun h => ?_, fun hloaded hrole h1 => ?_⟩
    · rw [hrise]
      rcases h with h | h
      · rw [h]
        rfl
      · rw [show loadRises t = t from if_neg h, ite_self]
    · rw [if_pos hloaded] at hrise
      have hholds {o : HeldOffer} {n : Nat} (h0 : s.st.slot0 = some o) (hfind : s.st.find o.piece.id = none)
          (hlive : o.piece.id ∉ s.st.retired) (hn : lowestEmpty s.st.records = some n) : t.holdsOne o n :=
        ⟨hrole, h0, h1, hfind, hlive, hn⟩
      refine ⟨fun o n h0 hfind hlive hn => ?_, fun o n h0 hfind hlive hn hlink => ?_,
        fun m rest h0 hmode hqueue hclear hnone hlink =>
          hrise.trans (congrArg _ (loadRises_clears (s := t) hrole h0 h1 hmode hqueue hclear hnone hlink))⟩
      · obtain ⟨hrecords, h0', h1', hlu, henv, hpt, hcfg⟩ := loadRises_takesUp (hholds h0 hfind hlive hn)
        exact ⟨_, hrise, acceptedRecord_crane (s := t) hrole o .hook ▸ hrecords, h0', h1', hlu, henv, hpt, hcfg⟩
      · intro accepted wanted clearFirst
        have hheld := hholds h0 hfind hlive hn
        have haccepted : t.accepted o n = accepted := by
          simp only [State.accepted, State.accepting, State.stored, acceptedRecord_crane (s := t) hrole]
          rfl
        refine ⟨fun front m back hqueue hwanted hfirst hnone hclear hstart => ?_, fun h => ?_⟩
        · have htaken : accepted.linkTakes m.requester (.moveStarted m.tag) := linkTakes_congr hstart rfl rfl rfl
          have hload := acceptedLoad_starts (s := accepted) hqueue (wantedFor_iff.2 hwanted)
            (fun q hq => wantedFor_eq_false (hfirst q hq)) hnone htaken
          refine hrise.trans (congrArg _ (loadRises_confirms hheld hlink (haccepted ▸ hload) ?_ ?_))
          · exact clearInService_idle fun q hq hkind => absurd ⟨q, hq, hkind⟩ hclear
          · refine clearInService_idle fun q hq hkind => ?_
            rw [requeued_queue, List.head?_cons, Option.some_inj] at hq
            exact absurd ((congrArg (·.info.kind) hq).trans hkind) hwanted.2.1
        · have hload := acceptedLoad_unplanned (s := accepted) (i := o.piece.id) (h.imp_right fun hnone q hq =>
            wantedFor_eq_false (hnone.1 q hq))
          have hidle (q : QueuedMove) (hq : s.mu.queue.head? = some q) (hkind : q.info.kind = .clear) :
              s.mu.anyStarted = true := h.resolve_right fun hnone => hnone.2 ⟨q, hq, hkind⟩
          refine hrise.trans (congrArg _ (loadRises_confirms hheld hlink (haccepted ▸ hload) ?_ ?_))
          · exact clearInService_idle hidle
          · rw [raise_eq]
            exact clearInService_idle hidle
  · intro hhigh t
    have hfall : exec .loadAttachedFalls s = .next (if s.isLoaded then loadFalls t else t) :=
      congrArg Host.Outcome.next (senseLoad_changed (by simp [hhigh]) _)
    refine ⟨fun h => ?_, fun hloaded hrole hmode m i n r hhead hstarted hkind hstock hfind hr hhook => ?_⟩
    · rw [hfall]
      rcases h with h | h | h
      · rw [h]
        rfl
      · rw [show loadFalls t = t from if_neg fun hc => h hc.1, ite_self]
      · rw [show loadFalls t = t from if_neg fun hc => hc.2 h, ite_self]
    · rw [if_pos hloaded,
        loadFalls_hook (s := t) hrole hmode hhead hstarted hkind hstock hfind hr hhook] at hfall
      refine ⟨fun hcustody => ?_, fun hheld hlink => ?_⟩
      · rw [hfall, offerFromHook, if_neg hcustody, find_id hfind hr]
      · rw [hfall, offerFromHook_held (s := t) hr hheld hlink]
        rfl

end Sys2Proof.Machine
end

section
/-! PROOF. The reservations that a stock table carries (R148, R149): their number, and what records that change, enter
and leave make of them. -/

namespace Sys2Proof.Machine

/-! ### Reservations by position -/

/-- The reservation of each record, by position. -/
def Stock.claims (t : Stock) : List (Option Nat) := t.records.map (fun o => o.bind (fun r => r.piece.reservation))

theorem entryAt_claims {t : Stock} {n k : Nat} :
    entryAt t.claims n = some k ↔ ∃ r, entryAt t.records n = some r ∧ r.piece.reservation = some k := by
  rcases h : t.records[n]? with _ | o <;> simp [Stock.claims, entryAt, h, Option.bind_eq_some_iff]

theorem reservations_eq (t : Stock) : t.reservations = (entriesOf t.claims).length := by
  unfold Stock.reservations Stock.claims
  induction t.records with
  | nil => rfl
  | cons o l ih =>
    rcases o with _ | r
    · simpa [entriesOf] using ih
    · rcases hr : r.piece.reservation with _ | k <;> simpa [entriesOf, hr] using ih

/-- A table whose entries all stand in another one holds no more. -/
theorem entriesOf_length_le {α : Type} {l m : List (Option α)}
    (h : ∀ n a, entryAt l n = some a → entryAt m n = some a) : (entriesOf l).length ≤ (entriesOf m).length := by
  induction l generalizing m with
  | nil => exact Nat.zero_le _
  | cons o l ih =>
    have htail : (entriesOf l).length ≤ (entriesOf m.tail).length := by
      refine ih fun n a ha => ?_
      have hnext := h (n + 1) a (by simpa [entryAt] using ha)
      cases m with
      | nil => simp [entryAt] at hnext
      | cons p m => simpa [entryAt] using hnext
    rcases o with _ | a
    · refine le_trans (by simpa [entriesOf] using htail) (List.Sublist.length_le ?_)
      exact (List.tail_sublist m).filterMap id
    · have hhead := h 0 a rfl
      cases m with
      | nil => simp [entryAt] at hhead
      | cons p m =>
        obtain rfl : p = some a := by simpa [entryAt] using hhead
        simpa [entriesOf] using htail

theorem entriesOf_set_length_le {α : Type} (l : List (Option α)) (n : Nat) (o : Option α) :
    (entriesOf (l.set n o)).length ≤ (entriesOf l).length + 1 := by
  induction l generalizing n with
  | nil => exact Nat.zero_le _
  | cons p l ih =>
    cases n with
    | zero =>
      simp only [entriesOf, List.set_cons_zero]
      rcases o with _ | a <;> rcases p with _ | b <;> simp only [List.filterMap_cons, id, List.length_cons] <;> omega
    | succ n => rcases p with _ | b <;> simpa [entriesOf] using ih n

/-! ### Tables that hold no reservation of their own -/

/-- Every reservation of a table is one that `t` holds at the same position. -/
def Stock.claimsWithin (u t : Stock) : Prop := ∀ n k, entryAt u.claims n = some k → entryAt t.claims n = some k

section
variable {t u v : Stock}

theorem within_refl (t : Stock) : t.claimsWithin t := fun _ _ h => h

theorem within_trans (hvu : v.claimsWithin u) (hut : u.claimsWithin t) : v.claimsWithin t :=
  fun n k h => hut n k (hvu n k h)

theorem within_of_records (h : u.records = t.records) : u.claimsWithin t := by
  intro n k hk
  rwa [Stock.claims, h] at hk

theorem within_reservations_le (h : u.claimsWithin t) : u.reservations ≤ t.reservations := by
  rw [reservations_eq, reservations_eq]
  exact entriesOf_length_le h

/-- A table of which each record has the reservation of the record that `t` holds at its position, or none. -/
theorem within_of_entries (h : ∀ n r k, entryAt u.records n = some r → r.piece.reservation = some k →
    ∃ q, entryAt t.records n = some q ∧ q.piece.reservation = some k) : u.claimsWithin t := by
  intro n k hk
  obtain ⟨r, hr, hres⟩ := entryAt_claims.1 hk
  exact entryAt_claims.2 (h n r k hr hres)

/-- A change of a record that sets no reservation. -/
def reservesNothing (f : StockRecord → StockRecord) : Prop :=
  ∀ r k, (f r).piece.reservation = some k → r.piece.reservation = some k

theorem entryAt_modifyAt {α : Type} (l : List (Option α)) (n m : Nat) (f : α → α) :
    entryAt (modifyAt l n f) m = if n = m then (entryAt l m).map f else entryAt l m := by
  unfold entryAt modifyAt
  rw [List.getElem?_modify]
  split
  · rcases l[m]? with _ | _ | _ <;> rfl
  · simp

theorem update_within {f : StockRecord → StockRecord} (hf : reservesNothing f) (t : Stock) (n : Nat) :
    (t.update n f).claimsWithin t := by
  refine within_of_entries fun m r k hr hk => ?_
  change entryAt (modifyAt t.records n f) m = some r at hr
  rw [entryAt_modifyAt] at hr
  split at hr
  · obtain ⟨q, hq, rfl⟩ := Option.map_eq_some_iff.1 hr
    exact ⟨q, hq, hf q k hk⟩
  · exact ⟨r, hr, hk⟩

/-- Changing every record, each at its place. -/
theorem map_within {f : StockRecord → StockRecord} (hf : reservesNothing f)
    (h : u.records = t.records.map (fun o => o.map f)) : u.claimsWithin t := by
  refine within_of_entries fun n r k hr hk => ?_
  rw [h, entryAt_map] at hr
  obtain ⟨q, hq, rfl⟩ := Option.map_eq_some_iff.1 hr
  exact ⟨q, hq, hf q k hk⟩

theorem remove_within (t : Stock) (n : Nat) : (t.remove n).claimsWithin t := by
  refine within_of_entries fun m r k hr hk => ?_
  rcases entryAt_set_cases hr with ⟨-, he⟩ | ⟨-, hr⟩
  · cases he
  · exact ⟨r, hr, hk⟩

theorem enter_within {r : StockRecord} (h : r.piece.reservation = none) (t : Stock) : (t.enter r).claimsWithin t := by
  unfold Stock.enter
  split
  · refine within_of_entries fun m q k hq hk => ?_
    rcases entryAt_set_cases hq with ⟨-, he⟩ | ⟨-, hq⟩
    · cases he
      rw [h] at hk
      cases hk
    · exact ⟨q, hq, hk⟩
  · exact within_refl t

theorem setMarked_within (t : Stock) (i : StockId) : (t.setMarked i).claimsWithin t := by
  unfold Stock.setMarked
  split
  · exact update_within (f := fun r => { r with piece := { r.piece with marked := true } }) (fun _ _ h => h) t _
  · exact within_refl t

/-- A reservation that is given back (R149). -/
theorem unreserved_within (t : Stock) (i : StockId) : (t.reserveFor i none).claimsWithin t := by
  unfold Stock.reserveFor
  split
  · exact update_within (fun _ _ h => by cases h) t _
  · exact within_refl t

@[simp] theorem setSlot_records (t : Stock) (n : Nat) (o : Option HeldOffer) :
    (t.setSlot n o).records = t.records := by
  unfold Stock.setSlot
  split <;> rfl

theorem settledRecord_reservesNothing (role : Role) : reservesNothing (settledRecord role) := by
  intro r k h
  unfold settledRecord at h
  split at h
  · exact h
  · cases h

theorem keptRecord_rack (r : StockRecord) : (keptRecord .rack r).piece.reservation = none := by simp [keptRecord_eq]

end

end Sys2Proof.Machine
end

section
/-! PROOF. Which requesters are heard (R148), and what the peer table's operations make of a rack's reservations: an
entry that becomes LOST, or is evicted, takes those that name its station with it (R27 to R35, R149). -/

namespace Sys2Proof.Machine

/-! ### The entry of a station (R22) -/

/-- The position found by a test is the lowest that holds an entry meeting it. -/
theorem findPos_eq_some {α : Type} {p : α → Bool} {l : List (Option α)} {n : Nat} : findPos p l = some n
    ↔ ∃ e, entryAt l n = some e ∧ p e = true ∧ ∀ m d, m < n → entryAt l m = some d → p d = false := by
  have hany {m : Nat} (hm : m < l.length) : (l[m]).any p = true ↔ ∃ e, entryAt l m = some e ∧ p e = true := by
    simp [entryAt_eq_some, hm, Option.any_eq_true]
  rw [findPos, List.findIdx?_eq_some_iff_getElem]
  constructor
  · rintro ⟨hn, hat, hbefore⟩
    obtain ⟨e, he, hp⟩ := (hany hn).1 hat
    refine ⟨e, he, hp, fun m d hm hd => ?_⟩
    by_contra hpd
    exact hbefore m hm ((hany (hm.trans hn)).2 ⟨d, hd, by simpa using hpd⟩)
  · rintro ⟨e, he, hp, hbefore⟩
    have hn := lt_length_of_entryAt he
    refine ⟨hn, (hany hn).2 ⟨e, he, hp⟩, fun m hm hat => ?_⟩
    obtain ⟨d, hd, hpd⟩ := (hany (hm.trans hn)).1 hat
    simp [hbefore m d hm hd] at hpd

/-- A station is heard when the first entry that bears its number is not LOST (R148). -/
theorem hears_iff {s : State} {k : Nat} : s.hears k = true ↔ ∃ n e, entryAt s.pt.entries n = some e
    ∧ e.station = k ∧ e.state ≠ .lost ∧ ∀ m d, m < n → entryAt s.pt.entries m = some d → d.station ≠ k := by
  simp only [State.hears, State.peer, PeerTable.find, Option.any_eq_true, Option.bind_eq_some_iff, findPos_eq_some,
    decide_eq_true_eq, decide_eq_false_iff_not]
  constructor
  · rintro ⟨e, ⟨n, ⟨d, hd, hk, hbefore⟩, he⟩, hstate⟩
    obtain rfl : d = e := Option.some.inj (hd.symm.trans he)
    exact ⟨n, d, hd, hk, hstate, hbefore⟩
  · rintro ⟨n, e, he, hk, hstate, hbefore⟩
    exact ⟨e, ⟨n, ⟨e, he, hk, hbefore⟩, he⟩, hstate⟩

theorem hears_congr {s t : State} (h : t.pt.entries = s.pt.entries) (k : Nat) : t.hears k = s.hears k :=
  Bool.eq_iff_iff.2 (by rw [hears_iff, hears_iff, h])

theorem entryAt_set_self {α : Type} {l : List (Option α)} {n : Nat} (h : n < l.length) (o : Option α) :
    entryAt (l.set n o) n = o := by simp [entryAt, h]

theorem entryAt_set_ne {α : Type} (l : List (Option α)) {n m : Nat} (h : m ≠ n) (o : Option α) :
    entryAt (l.set n o) m = entryAt l m := by
  rw [entryAt, List.getElem?_set_ne h.symm, ← entryAt]

/-- Writing a position leaves a station heard that neither the entry it held nor the one it takes bears. -/
theorem hears_set_other {s t : State} {n k : Nat} {o : Option PeerEntry} (ht : t.pt.entries = s.pt.entries.set n o)
    (hold : ∀ e, entryAt s.pt.entries n = some e → e.station ≠ k) (hnew : ∀ e, o = some e → e.station ≠ k)
    (h : s.hears k = true) : t.hears k = true := by
  obtain ⟨m, e, he, hk, hstate, hbefore⟩ := hears_iff.1 h
  have hm : m ≠ n := by
    rintro rfl
    exact hold e he hk
  refine hears_iff.2 ⟨m, e, ?_, hk, hstate, fun i d hi hd => ?_⟩
  · rwa [ht, entryAt_set_ne _ hm]
  · rw [ht] at hd
    rcases entryAt_set_cases hd with ⟨-, ho⟩ | ⟨-, hd⟩
    · exact hnew d ho
    · exact hbefore i d hi hd

/-- Writing an entry of the same station over one leaves every station heard, unless it makes it LOST. -/
theorem hears_rewrite {s t : State} {n k : Nat} {old e : PeerEntry} (ht : t.pt.entries = s.pt.entries.set n (some e))
    (hold : entryAt s.pt.entries n = some old) (hstation : e.station = old.station)
    (hstate : e.state = .lost → old.state = .lost) (h : s.hears k = true) : t.hears k = true := by
  obtain ⟨m, d, hd, hk, hd', hbefore⟩ := hears_iff.1 h
  have hbefore' (i : Nat) (x : PeerEntry) (hi : i < m) (hx : entryAt t.pt.entries i = some x) : x.station ≠ k := by
    rw [ht] at hx
    rcases entryAt_set_cases hx with ⟨rfl, he⟩ | ⟨-, hx⟩
    · cases he
      rw [hstation]
      exact hbefore i old hi hold
    · exact hbefore i x hi hx
  by_cases hm : m = n
  · subst hm
    obtain rfl : d = old := Option.some.inj (hd.symm.trans hold)
    refine hears_iff.2 ⟨m, e, ?_, hstation.trans hk, fun hl => hd' (hstate hl), hbefore'⟩
    rw [ht, entryAt_set_self (lt_length_of_entryAt hd)]
  · exact hears_iff.2 ⟨m, d, by rwa [ht, entryAt_set_ne _ hm], hk, hd', hbefore'⟩

/-! ### What the invariant asks of an operation -/

/-- From `s` an operation has led to `t`, and at a rack every reservation of `t` is one of `s` at its position, for a
requester who is heard in `t` where it was heard in `s`. -/
structure State.honours (s t : State) : Prop where
  cfg  : t.cfg = s.cfg
  rack : s.role = .rack → ∀ n k, entryAt t.st.claims n = some k →
    entryAt s.st.claims n = some k ∧ (s.hears k = true → t.hears k = true)

section
variable {s t u : State}

theorem reservationsSound_of_honours (h : s.reservationsSound) (ht : s.honours t) : t.reservationsSound := by
  intro hrole
  rw [role_of_cfg ht.cfg] at hrole
  obtain ⟨hsixteen, hheard⟩ := h hrole
  refine ⟨(within_reservations_le fun n k hk => (ht.rack hrole n k hk).1).trans hsixteen, fun hload n r k hr hk => ?_⟩
  rw [isLoaded_of_cfg ht.cfg] at hload
  obtain ⟨hclaim, hears⟩ := ht.rack hrole n k (entryAt_claims.2 ⟨r, hr, hk⟩)
  obtain ⟨q, hq, hqk⟩ := entryAt_claims.1 hclaim
  exact hears (hheard hload n q k hq hqk)

theorem honours_refl (s : State) : s.honours s := ⟨rfl, fun _ _ _ hk => ⟨hk, id⟩⟩

theorem honours_trans (hst : s.honours t) (htu : t.honours u) : s.honours u := by
  refine ⟨htu.cfg.trans hst.cfg, fun hrole n k hk => ?_⟩
  obtain ⟨hclaim, hears⟩ := htu.rack ((role_of_cfg hst.cfg).trans hrole) n k hk
  obtain ⟨hclaim', hears'⟩ := hst.rack hrole n k hclaim
  exact ⟨hclaim', fun h => hears (hears' h)⟩

theorem ite_honours {p : Prop} [Decidable p] (ht : s.honours t) (hu : s.honours u) :
    s.honours (if p then t else u) := by
  split <;> assumption

/-- An operation that leaves the peer table as it stands and sets no reservation. -/
theorem honours_of_within (hcfg : t.cfg = s.cfg) (hpt : s.role = .rack → t.pt = s.pt)
    (hst : s.role = .rack → t.st.claimsWithin s.st) : s.honours t :=
  ⟨hcfg, fun hrole n k hk => ⟨hst hrole n k hk, fun h => (hears_congr (by rw [hpt hrole]) k).trans h⟩⟩

/-- An operation that touches neither the peer table nor a record. -/
theorem honours_of_same (hcfg : t.cfg = s.cfg) (hpt : t.pt = s.pt) (hst : t.st.records = s.st.records) :
    s.honours t := honours_of_within hcfg (fun _ => hpt) fun _ => within_of_records hst

/-- An operation of the other roles. -/
theorem honours_elsewhere (hcfg : t.cfg = s.cfg) (hrole : s.role ≠ .rack) : s.honours t :=
  ⟨hcfg, fun h => absurd h hrole⟩

/-- An operation that a rack takes no part in. -/
theorem honours_of_idle {act : State → State} (hcfg : ∀ u : State, (act u).cfg = u.cfg)
    (hrack : ∀ u : State, u.role = .rack → act u = u) (u : State) : u.honours (act u) := by
  by_cases hrole : u.role = .rack
  · rw [hrack u hrole]
    exact honours_refl u
  · exact honours_elsewhere (hcfg u) hrole

theorem unordered_honours {f g : State → State} (hf : ∀ u : State, s.honours u → s.honours (f u))
    (hg : ∀ u : State, s.honours u → s.honours (g u)) (h : s.honours { t with freeCount := t.freeCount + 1 }) :
    s.honours (unordered f g t) := by
  rcases unordered_or f g t with he | he <;> rw [he]
  · exact hg _ (hf _ h)
  · exact hf _ (hg _ h)

/-! ### The peer table (R26 to R35) -/

theorem rewritePeer_honours {n : Nat} {old e : PeerEntry} (hold : entryAt s.pt.entries n = some old)
    (hstation : e.station = old.station) (hstate : e.state = .lost → old.state = .lost) :
    s.honours (putPeer n (some e) s) :=
  ⟨by simp, fun _ _ _ hk => ⟨by simpa using hk, hears_rewrite rfl hold hstation hstate⟩⟩

/-- The entry of a station that the table does not hold enters an empty position. -/
theorem newPeer_honours {n : Nat} {e : PeerEntry} (hempty : entryAt s.pt.entries n = none)
    (hnew : ∀ m d, entryAt s.pt.entries m = some d → d.station ≠ e.station) : s.honours (putPeer n (some e) s) := by
  refine ⟨by simp, fun _ _ k hk => ⟨by simpa using hk, fun h =>
    hears_set_other rfl (fun d hd => ?_) (fun d hd => ?_) h⟩⟩
  · simp [hempty] at hd
  · cases hd
    obtain ⟨m, d, hd, hk, -⟩ := hears_iff.1 h
    exact fun he => hnew m d hd (hk.trans he.symm)

theorem countPeer_honours {f : PeerTable → PeerTable} (s : State)
    (hf : ∀ p, (f p).entries = p.entries := by intro; rfl) : s.honours (countPeer f s) :=
  ⟨by simp, fun _ _ k hk => ⟨by simpa using hk, fun h => by rwa [hears_congr (hf s.pt)]⟩⟩

/-- A rack has no part in the envelope unit's work (R35). -/
theorem envPeer_rack (hrole : s.role = .rack) (n : Nat) (roles : List Role) : envPeer n roles s = s := by
  rw [envPeer, hrole]

theorem envPeer_honours (n : Nat) (roles : List Role) (s : State) : s.honours (envPeer n roles s) :=
  honours_of_idle (by simp) (fun _ h => envPeer_rack h n roles) s

theorem envStep_honours (s : State) : s.honours (envStep s) :=
  honours_of_idle (by simp) (fun _ h => by rw [envStep, h]) s

/-! ### A station that is lost (R33, R35, R149) -/

/-- No record is reserved for a station. -/
def Stock.unclaimed (t : Stock) (station : Nat) : Prop := ∀ n, entryAt t.claims n ≠ some station

/-- The reservations that name a station are cleared, and no other (R149). -/
theorem dropReservations_claims (station : Nat) (s : State) :
    (dropReservations station s).st.claimsWithin s.st ∧ (dropReservations station s).st.unclaimed station := by
  unfold dropReservations
  dsimp only
  split
  · rename_i hnone
    refine ⟨within_refl _, fun n hk => ?_⟩
    obtain ⟨r, hr, hres⟩ := entryAt_claims.1 hk
    have hmem := List.filter_eq_nil_iff.1 (List.length_eq_zero_iff.1 hnone) r (mem_entriesOf.2 ⟨n, hr⟩)
    simp [hres] at hmem
  · rw [(raise_frame ..).2.2.2.2.2.2.2.2.2.1]
    refine ⟨map_within (fun r k hk => ?_) rfl, fun n hk => ?_⟩
    · split at hk
      · cases hk
      · exact hk
    · obtain ⟨r, hr, hres⟩ := entryAt_claims.1 hk
      rw [entryAt_map] at hr
      obtain ⟨q, -, rfl⟩ := Option.map_eq_some_iff.1 hr
      split at hres
      · cases hres
      · rename_i hnamed
        simp [hres] at hnamed

theorem stationLost_claims {station : Nat} {s : State} (hrole : s.role = .rack) :
    (stationLost station s).st.claimsWithin s.st ∧ (stationLost station s).st.unclaimed station := by
  rw [stationLost, hrole]
  dsimp only
  rcases unordered_or (dropReservations station) (loseCrane station) s with he | he <;> rw [he]
  · have hsame : ∀ u : State, (loseCrane station u).st = u.st := by simp
    rw [hsame]
    exact dropReservations_claims station { s with freeCount := s.freeCount + 1 }
  · have hdropped := dropReservations_claims station (loseCrane station { s with freeCount := s.freeCount + 1 })
    simpa using hdropped

/-- The station of a position is lost: its entry becomes LOST or leaves the table, and no reservation names it. -/
theorem losePeer_honours {n : Nat} {old : PeerEntry} {o : Option PeerEntry} (hold : entryAt s.pt.entries n = some old)
    (ho : ∀ e, o = some e → e.station = old.station) (hcfg : t.cfg = s.cfg)
    (hpt : t.pt.entries = s.pt.entries.set n o)
    (hst : s.role = .rack → t.st.claimsWithin s.st ∧ t.st.unclaimed old.station) : s.honours t := by
  refine ⟨hcfg, fun hrole m k hk => ?_⟩
  obtain ⟨hwithin, hunclaimed⟩ := hst hrole
  have hother : old.station ≠ k := by
    rintro rfl
    exact hunclaimed m hk
  refine ⟨hwithin m k hk, hears_set_other hpt (fun e he => ?_) fun e he => (ho e he).trans_ne hother⟩
  rw [hold] at he
  cases he
  exact hother

theorem removePeer_honours {n : Nat} {e : PeerEntry} (h : entryAt s.pt.entries n = some e) :
    s.honours (removePeer n e s) := by
  refine honours_trans (losePeer_honours (o := none) h (fun _ he => by cases he) (by simp) ?_ fun hrole => ?_)
    (envPeer_honours ..)
  · simp
  · simpa using stationLost_claims (s := putPeer n (some { e with state := .lost }) s) (station := e.station) hrole

/-! ### Storing a beacon (R26 to R30) -/

theorem storeBeacon_honours {n : Nat} {e : PeerEntry}
    (h : ∀ u : State, u.pt.entries = s.pt.entries → u.honours (putPeer n (some e) u)) :
    s.honours (storeBeacon n e s) := by
  unfold storeBeacon
  have hcounted : s.honours (countPeer (fun t => { t with stored := bump t.stored }) s) :=
    countPeer_honours s
  exact honours_trans (honours_trans hcounted (h _ rfl)) (envPeer_honours ..)

/-- A station that the table holds is heard again. -/
theorem storeAgain_honours {n : Nat} {old e : PeerEntry} (hold : entryAt s.pt.entries n = some old)
    (hstation : e.station = old.station) (hfresh : e.state = .fresh) : s.honours (storeBeacon n e s) :=
  storeBeacon_honours fun _ hu =>
    rewritePeer_honours (by rw [hu, hold]) hstation fun hl => by simp [hfresh] at hl

theorem removePeer_rack {n : Nat} {e : PeerEntry} (hrole : s.role = .rack) :
    (removePeer n e s).pt.entries = s.pt.entries.set n none := by
  unfold removePeer
  rw [envPeer_rack (by simpa [State.role] using hrole)]
  simp

/-- An evicted entry leaves its position empty, and no other entry enters. -/
theorem evict_honours {n : Nat} {old e : PeerEntry} (hold : entryAt s.pt.entries n = some old)
    (hnew : ∀ m d, entryAt s.pt.entries m = some d → d.station ≠ e.station) :
    s.honours (storeBeacon n e
      (countPeer (fun t => { t with evictions := bump t.evictions }) (removePeer n old s))) := by
  by_cases hrole : s.role = .rack
  · have hcounted : (removePeer n old s).honours
        (countPeer (fun t => { t with evictions := bump t.evictions }) (removePeer n old s)) := countPeer_honours _
    refine honours_trans (honours_trans (removePeer_honours hold) hcounted) (storeBeacon_honours fun u hu => ?_)
    have hentries : u.pt.entries = s.pt.entries.set n none := hu.trans (removePeer_rack hrole)
    refine newPeer_honours ?_ fun m d hd => ?_
    · rw [hentries, entryAt_set_self (lt_length_of_entryAt hold)]
    · rw [hentries] at hd
      rcases entryAt_set_cases hd with ⟨-, hno⟩ | ⟨-, hd⟩
      · cases hno
      · exact hnew m d hd
  · exact honours_elsewhere (by simp) hrole

/-- The first beacon of a station enters a free position, or the one of the entry it evicts (R27, R28). -/
theorem createPeer_honours {e : PeerEntry} (hnew : ∀ m d, entryAt s.pt.entries m = some d → d.station ≠ e.station) :
    s.honours (createPeer e s) := by
  unfold createPeer
  split
  · rename_i n hn
    refine storeBeacon_honours fun u hu => newPeer_honours ?_ ?_ <;> rw [hu]
    · exact (lowestEmpty_some hn).2
    · exact hnew
  · split
    · exact evict_honours (evictee_entry ‹_›) hnew
    · exact countPeer_honours s

theorem changeRole_honours {n : Nat} {old e : PeerEntry} (hold : entryAt s.pt.entries n = some old)
    (hstation : e.station = old.station) (hfresh : e.state = .fresh) : s.honours (changeRole n old e s) := by
  have hcounted : s.honours (countPeer (fun t => { t with stored := bump t.stored }) s) := countPeer_honours s
  have hput := honours_trans hcounted
    (rewritePeer_honours (n := n) (old := old) (e := e) hold hstation fun hl => by simp [hfresh] at hl)
  exact unordered_honours (fun u hu => honours_trans hu (envPeer_honours ..))
    (fun u hu => honours_trans hu (honours_of_same (by simp) (by simp) (by simp)))
    (honours_trans hput (honours_of_same rfl rfl rfl))

theorem takeBeacon_honours (role : Role) (source : Nat) (seq : Byte) (bs : List Byte) (s : State) :
    s.honours (takeBeacon role source seq bs s) := by
  unfold takeBeacon
  dsimp only
  split
  · exact countPeer_honours s
  · split
    · exact honours_refl s
    · split
      · rename_i hfind
        exact createPeer_honours fun m d hd => find_none hfind hd
      · rename_i n hfind
        split
        · exact honours_refl s
        · rename_i old hold
          have hstation : (freshEntry s.cfg.params s.time role source seq bs old.pinned).station = old.station :=
            (find_station hfind hold).symm
          exact ite_honours (changeRole_honours hold hstation rfl)
            (ite_honours (countPeer_honours s) (storeAgain_honours hold hstation rfl))

/-! ### Aging (R31 to R33) -/

theorem ageToStale_honours (n : Nat) (s : State) : s.honours (ageToStale n s) := by
  unfold ageToStale
  split
  · rename_i e he
    have hstale : s.honours (putPeer n (some { e with state := .stale }) s) :=
      rewritePeer_honours he rfl fun hl => by cases hl
    exact ite_honours (honours_trans hstale (envPeer_honours ..)) (honours_refl s)
  · exact honours_refl s

theorem unordered_envPeer_rack (hrole : s.role = .rack) (n : Nat) (roles : List Role) (station : Nat) :
    unordered (envPeer n roles) (stationLost station) s
      = stationLost station { s with freeCount := s.freeCount + 1 } := by
  have hcounted : ({ s with freeCount := s.freeCount + 1 } : State).role = .rack := hrole
  have hlost : (stationLost station { s with freeCount := s.freeCount + 1 }).role = .rack := by
    simpa [State.role] using hrole
  exact unordered_right rfl (envPeer_rack hcounted n roles) (envPeer_rack hlost n roles)

/-- A pinned entry that becomes LOST: no reservation names its station any more (R33, R149). -/
theorem pinnedLost_honours {n : Nat} {e : PeerEntry} (roles : List Role) (h : entryAt s.pt.entries n = some e) :
    s.honours (unordered (envPeer n roles) (stationLost e.station) (putPeer n (some { e with state := .lost }) s)) := by
  by_cases hrole : s.role = .rack
  · have hput : (putPeer n (some { e with state := .lost }) s).role = .rack := hrole
    rw [unordered_envPeer_rack hput]
    refine losePeer_honours h (o := some { e with state := .lost }) (fun _ he => by cases he; rfl) (by simp)
      (by simp) fun hrole => ?_
    simpa using stationLost_claims (station := e.station)
      (s := { putPeer n (some { e with state := .lost }) s with freeCount := s.freeCount + 1 }) hrole
  · refine honours_elsewhere ?_ hrole
    rcases unordered_or (envPeer n roles) (stationLost e.station) (putPeer n (some { e with state := .lost }) s)
      with he | he <;> simp [he]

theorem ageToLost_honours (n : Nat) (s : State) : s.honours (ageToLost n s) := by
  unfold ageToLost
  split
  · rename_i e he
    exact ite_honours (ite_honours (pinnedLost_honours _ he) (removePeer_honours he)) (honours_refl s)
  · exact honours_refl s

/-- Changing the entry of an empty position changes nothing. -/
theorem modifyAt_empty {α : Type} {l : List (Option α)} {n : Nat} (h : entryAt l n = none) (f : α → α) :
    modifyAt l n f = l := by
  simpa [modifyAt, Option.map_eq_bind, Function.comp_def] using modify_bind_none h fun a => some (f a)

theorem holdAge_honours (n : Nat) (s : State) :
    s.honours { s with pt := { s.pt with entries := modifyAt s.pt.entries n (holdAge s.time) } } := by
  rcases h : entryAt s.pt.entries n with _ | e
  · rw [modifyAt_empty h]
    exact honours_refl s
  · rw [modifyAt_eq h]
    exact rewritePeer_honours h (holdAge_station ..) (by rw [holdAge_eq]; exact id)

theorem agePeer_honours (n : Nat) (s : State) : s.honours (agePeer s n) :=
  honours_trans (honours_trans (holdAge_honours n s) (ageToStale_honours n _)) (ageToLost_honours n _)

theorem agingStep_honours (s : State) : s.honours (agingStep s) := by
  have hfold (l : List Nat) (u : State) : u.honours (l.foldl agePeer u) := by
    induction l generalizing u with
    | nil => exact honours_refl u
    | cons n l ih => exact honours_trans (agePeer_honours n u) (ih _)
  exact honours_trans (hfold _ s) (envStep_honours _)

end

end Sys2Proof.Machine
end

section
/-! PROOF. What the operations of a rack make of its reservations (R142, R148, R149): a record that enters bears none,
and no operation but a RESERVE sets one. -/

namespace Sys2Proof.Machine

/-! ### Operations that touch no record -/

@[simp] theorem countStockRefusal_records (s : State) : (countStockRefusal s).st.records = s.st.records := rfl

@[simp] theorem ignoreCustody_records (s : State) : (ignoreCustody s).st.records = s.st.records := rfl

@[simp] theorem countSearch_records (f : SearchCounts → SearchCounts) (s : State) :
    (countSearch f s).st.records = s.st.records := rfl

@[simp] theorem ignoreSearch_records (s : State) : (ignoreSearch s).st.records = s.st.records := rfl

@[simp] theorem placeOffer_records (n : Nat) (p : Piece) (giver : Nat) (s : State) :
    (placeOffer n p giver s).st.records = s.st.records := setSlot_records ..

@[simp] theorem refuseCustody_records (giver : Nat) (i : StockId) (r : CustodyRefusal) (s : State) :
    (refuseCustody giver i r s).st.records = s.st.records := by
  unfold refuseCustody
  dsimp only
  split <;> simp

@[simp] theorem sendAccept_records (giver : Nat) (i : StockId) (s : State) :
    (sendAccept giver i s).st.records = s.st.records := by
  unfold sendAccept
  dsimp only
  split <;> simp

@[simp] theorem sendRelease_records (taker : Nat) (i : StockId) (s : State) :
    (sendRelease taker i s).st.records = s.st.records := by
  unfold sendRelease
  dsimp only
  split <;> simp

@[simp] theorem takeQuery_records (number : Byte) (q : QueryFields) (source : Nat) (s : State) :
    (takeQuery number q source s).st.records = s.st.records := by
  unfold takeQuery
  dsimp only
  (repeat' split) <;> simp

@[simp] theorem takeLock_records (n : Nat) (s : State) : (takeLock n s).1.st.records = s.st.records := by
  unfold takeLock
  (repeat' split) <;> rfl

@[simp] theorem takeUnlock_records (n : Nat) (s : State) : (takeUnlock n s).1.st.records = s.st.records := by
  unfold takeUnlock
  (repeat' split) <;> rfl

section
variable {s : State}

/-! ### The cutter's and the crane's work, which a rack has none of -/

theorem not_crane_of_rack (h : s.role = .rack) {u : State} (hu : u.cfg = s.cfg) : ¬ u.role = .crane := by
  simp [role_of_cfg hu, h]

theorem settle_rack (h : s.role = .rack) : settle s = s := settle_once (by simp [judgeOnce, h])

theorem windowChanged_rack (h : s.role = .rack) : windowChanged s = s := by simp [windowChanged, h]

/-- A change of a rack's station mode leaves its peer table and its stock table as they stand. -/
theorem changeMode_rack (m : Mode) (h : s.role = .rack) :
    (changeMode m s).pt = s.pt ∧ (changeMode m s).st = s.st := by
  have hrole (u : State) (hu : u.cfg = s.cfg) : ¬ u.role = .cutter := by simp [role_of_cfg hu, h]
  unfold changeMode
  dsimp only
  rw [if_neg (hrole _ (by split <;> simp))]
  split <;> simp

theorem endStop_rack (h : s.role = .rack) : (endStop s).pt = s.pt ∧ (endStop s).st = s.st := by
  unfold endStop
  split
  · exact changeMode_rack .ready (s := { s with rc := { s.rc with stopPending := false } }) h
  · exact ⟨rfl, rfl⟩

theorem enterFaulted_rack (f : ReleaseFault) (a : Bool) (h : s.role = .rack) :
    (enterFaulted f a s).pt = s.pt ∧ (enterFaulted f a s).st = s.st := by
  have hrole (u : State) (hu : u.cfg = s.cfg) : u.role = .rack := (role_of_cfg hu).trans h
  unfold enterFaulted
  dsimp only
  rw [windowChanged_rack (hrole _ (by simp))]
  exact ⟨(endStop_rack (hrole _ (by simp))).1.trans (by simp), (endStop_rack (hrole _ (by simp))).2.trans (by simp)⟩

/-! ### The custody handover (R124 to R131) -/

theorem takeOffer_honours (p : Piece) (giver : Nat) (s : State) : s.honours (takeOffer p giver s) := by
  refine honours_of_within (by simp) (by simp) fun hrole => within_of_records ?_
  have hhold : (holdOffer p giver s).st.records = s.st.records := by
    unfold holdOffer
    split
    · split <;> simp
    · split
      · simp
      · dsimp only
        rw [if_neg fun h => not_crane_of_rack hrole (by simp) h.1]
        simp
  unfold takeOffer
  split
  · simp
  · split
    · simp
    · exact hhold

theorem takeAccept_honours (i : StockId) (source : Nat) (s : State) : s.honours (takeAccept i source s) := by
  by_cases hrole : s.role = .rack
  · have hrefuse (r : CustodyRefusal) : s.honours (refuseCustody source i r s) :=
      honours_of_same (by simp) (by simp) (by simp)
    have hrelease (n : Nat) : s.honours (releaseRecord n source i s) := by
      unfold releaseRecord
      dsimp only
      rw [if_neg (not_crane_of_rack hrole (by simp))]
      refine honours_of_within (by simp) (by simp) fun _ => within_trans (within_of_records ?_) (remove_within s.st n)
      simp
    unfold takeAccept
    split
    · split
      · exact ite_honours (hrelease _) (hrefuse _)
      all_goals exact hrefuse _
    · exact hrefuse _
  · exact honours_elsewhere (by simp) hrole

theorem failOffer_honours (n : Nat) (r : StockRecord) (reason : HandoverReason) (s : State) :
    s.honours (failOffer n r reason s) := by
  have hheld : (s.st.update n StockRecord.toHeld).claimsWithin s.st :=
    update_within (f := StockRecord.toHeld) (fun _ _ h => h) s.st n
  exact honours_of_within (by simp) (by simp) fun _ => by simpa [failOffer] using hheld

theorem takeRefusal_honours (i : StockId) (reason : CustodyRefusal) (source : Nat) (s : State) :
    s.honours (takeRefusal i reason source s) := by
  by_cases hrole : s.role = .rack
  · have hreject (n : Nat) : s.honours (rejectRecord n source i reason s) := by
      unfold rejectRecord
      dsimp only
      rw [if_neg (not_crane_of_rack hrole (by simp))]
      refine honours_of_within (by simp) (by simp) fun _ => ?_
      simpa using remove_within s.st n
    have hignore : s.honours (ignoreCustody s) := honours_of_same rfl rfl rfl
    unfold takeRefusal
    split
    · exact ite_honours (failOffer_honours ..) (ite_honours (hreject _) hignore)
    · exact hignore
  · exact honours_elsewhere (by simp) hrole

theorem settled_within (role : Role) (t : Stock) (n : Nat) : (t.update n (settledRecord role)).claimsWithin t :=
  update_within (settledRecord_reservesNothing role) t n

theorem takeRelease_honours (i : StockId) (source : Nat) (s : State) : s.honours (takeRelease i source s) := by
  refine honours_of_within (by simp) (by simp) fun _ => ?_
  unfold takeRelease
  split
  · split
    · simpa using settled_within s.role s.st _
    · exact within_refl _
  · exact within_refl _

/-- A rack takes no reservation over with a record (R127). -/
theorem acceptedRecord_rack (h : s.role = .rack) (o : HeldOffer) (loc : Location) :
    (acceptedRecord s o loc).piece.reservation = none := by simp [acceptedRecord, h]

theorem confirmOffer_honours (n : Nat) (o : HeldOffer) (loc : Location) (s : State) :
    s.honours (confirmOffer n o loc s).1 := by
  refine honours_of_within (by simp) (by simp) fun hrole => ?_
  unfold confirmOffer
  split
  · exact within_of_records (by simp)
  · have henter := enter_within (acceptedRecord_rack hrole o loc) s.st
    unfold acceptOffer
    dsimp only
    rw [if_neg (not_crane_of_rack hrole (by simp))]
    exact within_trans (within_of_records (by simp)) henter

/-! ### Requests (R118, R121, R126, R132, R171) -/

theorem takeDeclare_honours (suits : Bool) (record : List Byte) (location : Option LocationKind) (slot : Nat)
    (s : State) : s.honours (takeDeclare suits record location slot s).1 := by
  refine honours_of_within (by simp) (by simp) fun _ => ?_
  have hself : s.st.claimsWithin s.st := within_refl s.st
  unfold takeDeclare
  split
  · exact hself
  · split
    · split
      · exact hself
      · split
        · exact hself
        · unfold judge
          split
          · exact hself
          · exact enter_within rfl s.st
    · exact hself

theorem offerRecord_honours (n : Nat) (r : StockRecord) (taker : Nat) (s : State) :
    s.honours (offerRecord n r taker s).1 := by
  refine honours_of_within (by simp) (by simp) fun _ => ?_
  unfold offerRecord
  dsimp only
  split
  · exact within_of_records (by simp)
  · have hupdate := update_within (f := fun r => { r with
      custody := .offered
      partner := some taker
      timer := s.timer s.cfg.params.offerTime }) (fun _ _ h => h) s.st n
    exact within_trans (within_of_records (by simp [Stock.update, State.timer])) hupdate

theorem takeHandOff_honours (suits : Bool) (i : StockId) (taker : Nat) (s : State) :
    s.honours (takeHandOff suits i taker s).1 := by
  have hself := honours_refl s
  unfold takeHandOff
  split
  · exact hself
  · split
    · exact hself
    · split
      · exact hself
      · split
        · split
          · exact hself
          · dsimp only
            split <;> exact offerRecord_honours ..
        · exact hself

theorem takeConfirm_honours (suits : Bool) (i : StockId) (s : State) : s.honours (takeConfirm suits i s).1 := by
  have hself := honours_refl s
  unfold takeConfirm
  split
  · exact hself
  · split
    · split
      · exact honours_of_within rfl (fun _ => rfl) fun _ => settled_within s.role s.st _
      · exact hself
    · exact hself

theorem confirmRequest_honours (n : Nat) (o : HeldOffer) (loc : Location) (s : State) :
    s.honours (confirmRequest n o loc s).1 := by
  have hconfirm := confirmOffer_honours n o loc s
  unfold confirmRequest
  split <;> (rename_i he; rw [he] at hconfirm; exact hconfirm)

theorem takeBedLoaded_honours (i : StockId) (s : State) : s.honours (takeBedLoaded i s).1 := by
  unfold takeBedLoaded
  split
  · exact honours_refl s
  · split
    · exact honours_refl s
    · exact confirmRequest_honours ..

theorem takePlaced_honours (i : StockId) (slot : Nat) (s : State) : s.honours (takePlaced i slot s).1 := by
  unfold takePlaced
  split
  · exact honours_refl s
  · split
    · exact honours_refl s
    · exact confirmRequest_honours ..

theorem changeMode_honours (m : Mode) (s : State) : s.honours (changeMode m s) :=
  honours_of_within (by simp) (fun h => (changeMode_rack m h).1) fun h =>
    within_of_records (by rw [(changeMode_rack m h).2])

theorem settle_honours (s : State) : s.honours (settle s) :=
  honours_of_idle (by simp) (fun _ h => settle_rack h) s

theorem judgeSetMode_honours (suits : Bool) (target : Option Mode) (s : State) :
    s.honours (judgeSetMode suits target s).1 := by
  by_cases hrole : s.role = .rack
  · have hself := honours_refl s
    unfold judgeSetMode
    split
    · split
      · unfold takeSetMode
        split
        · exact hself
        · exact changeMode_honours ..
        · exact hself
        · exact changeMode_honours ..
        · exact hself
        · exact honours_trans (changeMode_honours ..) (settle_honours _)
        · exact hself
        · split
          · exact hself
          · unfold leaveRun
            rw [hrole]
            exact changeMode_honours ..
        · split <;> exact hself
      · exact hself
    · exact hself
  · exact honours_elsewhere (by simp) hrole

/-! ### Reservations (R148, R149) -/

theorem takeUnreserve_honours (i : StockId) (source : Nat) (s : State) : s.honours (takeUnreserve i source s) := by
  refine honours_of_within (by simp) (by simp) fun _ => ?_
  unfold takeUnreserve
  split
  · exact unreserved_within s.st i
  · exact within_refl _

end

end Sys2Proof.Machine
end

section
/-! PROOF. Every command leaves a rack's reservations sound (R148): a RESERVE adds one for a requester that is heard
while there are fewer than 16, and a load begins with none. -/

namespace Sys2Proof.Machine

section
variable {s t : State}

/-! ### RESERVE (R148) -/

/-- A record that carries no reservation is reserved for a station (R148). -/
theorem reserveFor_claims {i : StockId} {n : Nat} {r : StockRecord} (hfind : t.st.find i = some n)
    (hr : entryAt t.st.records n = some r) (station : Nat) :
    (t.st.reserveFor i (some station)).claims = t.st.claims.set n (some station) := by
  simp only [Stock.reserveFor, hfind, Stock.claims, Stock.update]
  rw [modifyAt_eq hr, List.map_set]
  rfl

/-- A requester is granted a record while it is heard and fewer than 16 records are reserved (R148). -/
theorem reserveResult_granted {i : StockId} {source : Nat} {res : ReserveResult}
    (h : reserveResult s i source = (res, true)) : s.hears source = true ∧ s.st.reservations < 16
      ∧ ∃ n r, s.st.find i = some n ∧ entryAt s.st.records n = some r := by
  unfold reserveResult at h
  split at h
  · cases h
  · rename_i hheard
    split at h
    · cases h
    · rename_i r hrecord
      split at h
      · cases h
      · split at h
        · cases h
        · split at h
          · cases h
          · obtain ⟨n, hfind, hr⟩ := Option.bind_eq_some_iff.1 hrecord
            exact ⟨by simpa using hheard, by omega, n, r, hfind, hr⟩

theorem grant_sound {i : StockId} {source : Nat} {res : ReserveResult} (h : s.reservationsSound)
    (hgranted : reserveResult s i source = (res, true)) (hcfg : t.cfg = s.cfg) (hpt : t.pt = s.pt)
    (hst : t.st.records = (s.st.reserveFor i (some source)).records) : t.reservationsSound := by
  intro hrole
  rw [role_of_cfg hcfg] at hrole
  obtain ⟨-, hheard⟩ := h hrole
  obtain ⟨hears, hroom, n, r, hfind, hr⟩ := reserveResult_granted hgranted
  have hclaims : t.st.claims = s.st.claims.set n (some source) := by
    rw [← reserveFor_claims (t := s) hfind hr source, Stock.claims, hst, Stock.claims]
  refine ⟨?_, fun hload m q k hq hk => ?_⟩
  · have hone := entriesOf_set_length_le s.st.claims n (some source)
    rw [reservations_eq] at hroom ⊢
    rw [hclaims]
    omega
  · have hsame := hears_congr (s := s) (t := t) (by rw [hpt]) k
    have hclaim := entryAt_claims.2 ⟨q, hq, hk⟩
    rw [hclaims] at hclaim
    rcases entryAt_set_cases hclaim with ⟨-, he⟩ | ⟨-, hold⟩
    · cases he
      exact hsame.trans hears
    · obtain ⟨q', hq', hk'⟩ := entryAt_claims.1 hold
      exact hsame.trans (hheard ((isLoaded_of_cfg hcfg).symm.trans hload) m q' k hq' hk')

theorem reserveFor_records {t u : Stock} (h : u.records = t.records) (i : StockId) (station : Option Nat) :
    (u.reserveFor i station).records = (t.reserveFor i station).records := by
  simp only [Stock.reserveFor, Stock.find, h]
  split <;> simp only [Stock.update, h]

theorem takeReserve_sound (number : Byte) (i : StockId) (source : Nat) (h : s.reservationsSound) :
    (takeReserve number i source s).reservationsSound := by
  by_cases hanswers : s.answers = true
  · have hcfg : (takeReserve number i source s).cfg = s.cfg := by simp
    have hpt : (takeReserve number i source s).pt = s.pt := by simp
    rcases hres : reserveResult s i source with ⟨res, granted⟩
    cases granted with
    | true =>
      refine grant_sound h hres hcfg hpt ?_
      have hrecords : (countSearch (fun c => c.judged res true) s).st.records = s.st.records := rfl
      simp only [takeReserve, hanswers, hres, not_true_eq_false, if_false, if_true]
      split <;> simp [reserveFor_records hrecords]
    | false =>
      refine reservationsSound_of_honours h (honours_of_same hcfg hpt ?_)
      simp only [takeReserve, hanswers, hres, not_true_eq_false, if_false, Bool.false_eq_true]
      split <;> simp
  · rw [takeReserve, if_pos hanswers]
    exact h

/-! ### Power-on, RESTART and the load (R136, R174, R179) -/

/-- A RESTART keeps every reservation until the new load, and the part is not loaded meanwhile (R136, R174). -/
theorem restartPart_sound (h : s.reservationsSound) : (restartPart s).reservationsSound := by
  intro hrole
  obtain ⟨hsixteen, -⟩ := h hrole
  have hwithin : (restartPart s).st.claimsWithin s.st :=
    map_within (f := StockRecord.stopped) (fun _ _ hk => hk) rfl
  exact ⟨(within_reservations_le hwithin).trans hsixteen, fun hload => by cases hload⟩

/-- A table without a reservation. -/
theorem sound_of_unreserved (h : ∀ n r, entryAt s.st.records n = some r → r.piece.reservation = none) :
    s.reservationsSound := by
  intro _
  have hnone (n k : Nat) : entryAt s.st.claims n ≠ some k := by
    intro hk
    obtain ⟨r, hr, hres⟩ := entryAt_claims.1 hk
    rw [h n r hr] at hres
    cases hres
  have hempty : s.st.reservations ≤ Stock.reset.reservations :=
    within_reservations_le fun n k hk => absurd hk (hnone n k)
  exact ⟨hempty.trans (by decide), fun _ n r k hr hk => absurd (entryAt_claims.2 ⟨r, hr, hk⟩) (hnone n k)⟩

/-- A good load of a rack begins with no reservation: those of kept records are cleared (R136). -/
theorem succeed_reserved (role : Role) (station : Nat) (identity : List Byte) (s : State) :
    (succeed role station identity s).reservationsSound := by
  by_cases hrole : role = .rack
  · subst hrole
    refine sound_of_unreserved fun n r hr => ?_
    unfold succeed at hr
    dsimp only at hr
    rw [(raise_frame ..).2.2.2.2.2.2.2.2.2.1] at hr
    dsimp only at hr
    split at hr
    · rw [Stock.keep, entryAt_map] at hr
      obtain ⟨q, -, rfl⟩ := Option.map_eq_some_iff.1 hr
      exact keptRecord_rack q
    · rw [Stock.reset, entryAt_replicate_none] at hr
      cases hr
  · intro hrack
    have hbears := (raiseSlots_bears (decide (s.cfg.remembered = some (role, station))) s.st
      (loadImage_bears role station identity s.cfg.image)).1
    refine absurd (hbears.symm.trans ?_) hrole
    unfold State.role succeed at hrack
    dsimp only at hrack
    rw [(raise_frame ..).2.2.1] at hrack
    exact hrack

theorem ite_reserved {p : Prop} [Decidable p] {u v : State} (hu : u.reservationsSound) (hv : v.reservationsSound) :
    (if p then u else v).reservationsSound := by
  split <;> assumption

theorem transfer_reserved (acked : Bool) (data : List Byte) (h : s.reservationsSound) :
    (if s.cfg.load = .loading then (if acked then takeBytes data s else refuseTransfer s)
      else s).reservationsSound := by
  have hfault (cause : LoadCause) {t : State} (ht : t.reservationsSound) : (endInFault cause t).reservationsSound := by
    intro hrole
    have hrack : t.role = .rack := by simpa [endInFault, State.role] using hrole
    exact ⟨by simpa [endInFault] using (ht hrack).1, fun hload => by simp [endInFault, State.isLoaded] at hload⟩
  have hread : ({ s with cfg := { s.cfg with image := s.cfg.image ++ data, refusals := 0 } }).reservationsSound := h
  refine ite_reserved (ite_reserved (ite_reserved ?_ hread) (ite_reserved (hfault _ h) h)) h
  unfold judgeImage
  split
  · exact hfault _ hread
  · exact succeed_reserved _ _ _ _
  · exact hfault _ hread

end

end Sys2Proof.Machine
end

section
/-! PROOF. The walk over every command for a rack's reservations (R148). -/

namespace Sys2Proof.Machine

/-- What a command answers has sound reservations where it is a next state. -/
def Reserved : Host.Outcome State Fault Refusal → Prop
  | .next t => t.reservationsSound
  | .fault _ => True
  | .refused _ => True

section
variable {s t : State}

/-- A timer's expiry that acts while it is due. -/
theorem due_reserved {p : Prop} [Decidable p] (h : s.reservationsSound) (ht : s.honours t) :
    Reserved (if p then .next t else .next s) := by
  split
  · exact reservationsSound_of_honours h ht
  · exact h

/-! ### Requests and telegrams (R39 to R41, R168) -/

theorem request_reserved (length : Byte) (cut inFault : Bool) (code : RequestCode) {act : State → State × Answer}
    (ha : ∀ u : State, u.honours (act u).1) (h : s.reservationsSound) :
    (request length cut inFault code act s).reservationsSound := by
  rcases request_cases length cut inFault code act s with ⟨-, he⟩ | ⟨-, he⟩ | ⟨-, he⟩ | ⟨-, -, -, he⟩ <;> rw [he]
  · exact h
  · exact h
  · exact h
  · have hanswered : (act s.begun).1.honours (takenRequest code act s) := honours_of_same rfl rfl rfl
    exact reservationsSound_of_honours (s := s.begun) h (honours_trans (ha s.begun) hanswered)

theorem judge_honours {act : State → State × Answer} (checks : Option ResultCode)
    (ha : checks = none → s.honours (act s).1) : s.honours (judge checks act s).1 := by
  unfold judge
  split
  · exact honours_refl s
  · exact ha rfl

theorem roleRequest_reserved (f : WriteFrame) (code : RequestCode) (roleOk : Role → Bool)
    {act : State → State × Answer} (ha : ∀ u : State, roleOk u.role = true → u.honours (act u).1)
    (h : s.reservationsSound) : (roleRequest f code roleOk act s).reservationsSound := by
  refine request_reserved _ _ _ code (fun u => judge_honours _ fun hnone => ha u ?_) h
  cases hr : roleOk u.role with
  | true => rfl
  | false => simp [firstOf, hr] at hnone

/-- A request that a rack refuses. -/
theorem cutterRequest_reserved (f : WriteFrame) (code : RequestCode) {act : State → State × Answer}
    (ha : ∀ u : State, (act u).1.cfg = u.cfg) (h : s.reservationsSound) :
    (roleRequest f code cutterOnly act s).reservationsSound :=
  roleRequest_reserved f code cutterOnly
    (fun u hu => honours_elsewhere (ha u) (by simp [show u.role = .cutter by simpa [cutterOnly] using hu])) h

theorem receive_reserved {deliver : State → State} (kind : Byte) (length : Option Nat) (g : Telegram)
    (hd : ∀ {u : State}, u.reservationsSound → (deliver u).reservationsSound) (h : s.reservationsSound) :
    (receive kind length deliver g s).reservationsSound := by
  have hduplicate : s.honours (duplicate s) := honours_of_same (by simp) (by simp) (by simp)
  exact ite_reserved h (ite_reserved h (ite_reserved h (ite_reserved h
    (ite_reserved (reservationsSound_of_honours h hduplicate) (ite_reserved h (ite_reserved h (hd h)))))))

theorem beacon_reserved (role : Role) (k : TelegramKind) (g : Telegram) (h : s.reservationsSound) :
    (receiveKind k (takeBeacon role g.source.toNat g.seq g.payload) g s).reservationsSound :=
  receive_reserved _ _ g (fun {u} hu => reservationsSound_of_honours hu (takeBeacon_honours _ _ _ _ u)) h

theorem message_reserved {ignore : State → State} {act : Message → State → State} (k : TelegramKind) (g : Telegram)
    (hi : ∀ u : State, u.honours (ignore u))
    (ha : ∀ (m : Message) {u : State}, u.reservationsSound → (act m u).reservationsSound) (h : s.reservationsSound) :
    (receiveKind k (takeMessage k g ignore act) g s).reservationsSound := by
  refine receive_reserved _ _ g (fun {u} hu => ?_) h
  unfold takeMessage
  split
  · exact ha _ hu
  · exact reservationsSound_of_honours hu (hi u)

theorem custody_reserved {act : Message → State → State} (k : TelegramKind) (g : Telegram)
    (ha : ∀ (m : Message) (u : State), u.honours (act m u)) (h : s.reservationsSound) :
    (receiveKind k (takeCustody k g act) g s).reservationsSound := by
  refine receive_reserved _ _ g (fun {u} hu => ?_) h
  have hignore : (ignoreCustody u).reservationsSound := reservationsSound_of_honours hu (honours_of_same rfl rfl rfl)
  unfold takeCustody takeMessage
  split
  · split
    · exact reservationsSound_of_honours hu (ha _ u)
    · exact hignore
  · exact hignore

/-- A telegram whose message no owner touches a record or the peer table for. -/
theorem otherMessage_reserved {ignore : State → State} {act : Message → State → State} (k : TelegramKind)
    (g : Telegram) (hi : ∀ u : State, u.honours (ignore u)) (ha : ∀ (m : Message) (u : State), u.honours (act m u))
    (h : s.reservationsSound) : (receiveKind k (takeMessage k g ignore act) g s).reservationsSound :=
  message_reserved k g hi (fun m _ hu => reservationsSound_of_honours hu (ha m _)) h

/-! ### Timers and events (R31, R43 to R53, R86 to R90, R97, R122 to R131, R156, R158) -/

theorem agingStep_reserved (h : s.reservationsSound) : Reserved (execAgingStep s) := by
  unfold execAgingStep
  split
  · rename_i timer _
    have hagain : s.honours { s with pt := { s.pt with agingTimer := some timer.again } } :=
      ⟨rfl, fun _ _ k hk => ⟨hk, fun hears => (hears_congr rfl k).trans hears⟩⟩
    exact due_reserved h (honours_trans hagain (agingStep_honours _))
  · exact h

theorem beaconTimer_reserved (h : s.reservationsSound) : Reserved (execBeaconTimerExpiry s) := by
  unfold execBeaconTimerExpiry
  split
  · refine due_reserved h ?_
    split <;> exact honours_of_same rfl rfl rfl
  · exact h

theorem attemptStart_reserved (h : s.reservationsSound) : Reserved (execAttemptStart s) := by
  have hstart (c : TxClass) : s.honours (startAttempt c s) := by
    unfold startAttempt startBeacon
    (repeat' split) <;> exact honours_of_same rfl rfl rfl
  unfold execAttemptStart
  split
  · exact ite_reserved (reservationsSound_of_honours h (hstart _)) h
  · exact h

theorem attemptClean_reserved (h : s.reservationsSound) : Reserved (execAttemptClean s) := by
  have hrestore : s.honours (restoreLink (countSent (endAttempt s))) := by
    unfold restoreLink
    exact honours_trans (honours_of_same (by simp) (by simp) (by simp)) (settle_honours _)
  unfold execAttemptClean
  split
  · exact h
  · unfold probeClean
    split
    · exact reservationsSound_of_honours h hrestore
    · exact reservationsSound_of_honours h hrestore
    · exact h
    · exact h
  · exact h

theorem attemptCollided_reserved (h : s.reservationsSound) : Reserved (execAttemptCollided s) := by
  have hcollide (c : TxClass) (q : Queued) (rest : List Queued) : s.honours (collide c q rest s) := by
    unfold collide
    dsimp only
    split
    · exact honours_of_same (by simp) (by simp) (by simp)
    · split
      · exact ite_honours (honours_of_same rfl rfl rfl) (honours_of_same rfl rfl rfl)
      · exact ite_honours (honours_of_same (by simp) (by simp) (by simp)) (honours_of_same rfl rfl rfl)
  unfold execAttemptCollided
  split
  · split
    · exact reservationsSound_of_honours h (hcollide ..)
    · exact h
  · exact h
  · exact h

theorem jabberLimit_reserved (h : s.reservationsSound) : Reserved (execJabberLimit s) := by
  have hisolate : s.honours (isolate .jabber s) := honours_of_same (by simp) (by simp) (by simp)
  unfold execJabberLimit
  split
  · exact reservationsSound_of_honours h hisolate
  · exact h
  · exact h

theorem probeTimer_reserved (h : s.reservationsSound) : Reserved (execProbeTimerExpiry s) := by
  unfold execProbeTimerExpiry
  split
  · exact due_reserved h (honours_of_same rfl rfl rfl)
  · exact h

theorem logMark_honours (c : Current) (o : MarkOutcome) (s : State) : s.honours (logMark c o s) := by
  refine honours_of_within (by simp) (by simp) fun _ => ?_
  unfold logMark
  dsimp only
  split
  · split
    · exact setMarked_within _ _
    all_goals exact within_refl _
  · exact within_refl _

theorem enterFaulted_honours (f : ReleaseFault) (a : Bool) (s : State) : s.honours (enterFaulted f a s) :=
  honours_of_within (by simp) (fun h => (enterFaulted_rack f a h).1) fun h =>
    within_of_records (by rw [(enterFaulted_rack f a h).2])

theorem inFlightTimeout_reserved (h : s.reservationsSound) : Reserved (execInFlightTimeout s) := by
  unfold execInFlightTimeout
  split
  · exact due_reserved h (honours_trans (logMark_honours ..) (enterFaulted_honours ..))
  · exact h

theorem haltTimeout_reserved (h : s.reservationsSound) : Reserved (execHaltTimeout s) := by
  unfold execHaltTimeout
  split
  · exact due_reserved h (enterFaulted_honours ..)
  · exact h

theorem offerTimeout_reserved (n : Nat) (h : s.reservationsSound) : Reserved (execOfferTimeout n s) := by
  unfold execOfferTimeout
  split
  · exact due_reserved h (failOffer_honours ..)
  · exact h

theorem heldOfferExpiry_reserved (n : Nat) (h : s.reservationsSound) : Reserved (execHeldOfferExpiry n s) := by
  unfold execHeldOfferExpiry
  split
  · exact due_reserved h (honours_of_same rfl rfl (by simp))
  · exact h

theorem pendingTimeout_reserved (n : Nat) (h : s.reservationsSound) : Reserved (execPendingTimeout n s) := by
  have hdisputed := update_within (f := StockRecord.toDisputed) (fun _ _ h => h) s.st n
  unfold execPendingTimeout
  split
  · exact due_reserved h (honours_of_within (by simp) (by simp) fun _ => by simpa using hdisputed)
  · exact h

theorem bidWindowExpiry_reserved (n : Nat) (h : s.reservationsSound) : Reserved (execBidWindowExpiry n s) := by
  unfold execBidWindowExpiry
  split
  · exact due_reserved h (honours_of_same (by simp) (by simp) (by simp))
  · exact h

theorem awardReplyTimeout_reserved (n : Nat) (h : s.reservationsSound) : Reserved (execAwardReplyTimeout n s) := by
  unfold execAwardReplyTimeout
  split
  · exact due_reserved h (honours_of_same (by simp) (by simp) (by simp))
  · exact h

theorem cancelReplyTimeout_reserved (n : Nat) (h : s.reservationsSound) : Reserved (execCancelReplyTimeout n s) := by
  unfold execCancelReplyTimeout
  split
  · exact due_reserved h (honours_of_same (by simp) (by simp) (by simp))
  · exact h

/-- A change of ESTOP is for the cutter and the crane to act on (R97, R166). -/
theorem senseEstop_reserved (level : Bool) {act : State → State} (hcfg : ∀ u : State, (act u).cfg = u.cfg)
    (hrack : ∀ u : State, u.role = .rack → act u = u) (h : s.reservationsSound) :
    (senseEstop level act s).reservationsSound := by
  have hraised : s.honours (raise (.estopChanged level) { s with lu := { s.lu with estop := level } }) :=
    honours_of_same (by simp) (by simp) (by simp)
  exact ite_reserved h (ite_reserved (reservationsSound_of_honours h
    (honours_trans hraised (honours_of_idle hcfg hrack _))) h)

/-- The load at the hook is a crane's (R122, R126). -/
theorem senseLoad_reserved (level : Bool) {act : State → State} (hcfg : ∀ u : State, (act u).cfg = u.cfg)
    (hrack : ∀ u : State, u.role = .rack → act u = u) (h : s.reservationsSound) :
    (senseLoad level act s).reservationsSound :=
  ite_reserved h (ite_reserved (reservationsSound_of_honours
    (s := { s with lu := { s.lu with loadAttached := level } }) h (honours_of_idle hcfg hrack _)) h)

theorem clockReply_reserved (clocked : Nat) (h : s.reservationsSound) : (clockReply clocked s).reservationsSound :=
  ite_reserved (p := (PortAnswer.reply s.sp.buffer.head?).readWhole clocked = true)
    (u := { s with sp := { s.sp with buffer := s.sp.buffer.tail } }) h h

theorem clockNotice_reserved (clocked : Nat) (h : s.reservationsSound) : (clockNotice clocked s).reservationsSound :=
  ite_reserved (p := (PortAnswer.notice s.sp.lost s.sp.notices.head?).readWhole clocked = true)
    (u := { s with sp := { s.sp with notices := s.sp.notices.tail, lost := 0 } }) h h

theorem voidTransaction_reserved (operation : Byte) (h : s.reservationsSound) :
    Reserved (execVoidTransaction operation s) := by
  unfold execVoidTransaction
  split
  · exact h
  · exact h
  · exact clockReply_reserved 0 h
  · exact clockNotice_reserved 0 h

/-! ### Every command -/

theorem takeSegment_honours (bs : List Byte) (s : State) : s.honours (takeSegment bs s).1 := by
  by_cases hrole : s.role = .rack
  · rw [takeSegment, if_pos (.inl (by simp [hrole]))]
    exact honours_refl s
  · exact honours_elsewhere (by simp) hrole

/-- Each command is one row: its operation sets no reservation and takes no requester from the table without the
reservations that name it. A RESERVE alone sets one. -/
theorem exec_reserved (i : Instr) (h : s.reservationsSound) : Reserved (exec i s) := by
  have hsame {u v : State} (hcfg : v.cfg = u.cfg := by simp) (hpt : v.pt = u.pt := by simp)
      (hst : v.st.records = u.st.records := by simp) : u.honours v := honours_of_same hcfg hpt hst
  cases i with
  | powerOn => exact resetMeetsEveryInvariant.2.2.2.2.2.1
  | timeBaseTick => exact h
  | i2cTransferDone acked data => exact transfer_reserved acked data h
  | agingStep => exact agingStep_reserved h
  | beaconTimerExpiry => exact beaconTimer_reserved h
  | urgentSpacingExpiry => exact ite_reserved (ite_reserved (ite_reserved h h) h) h
  | attemptStart => exact attemptStart_reserved h
  | attemptClean => exact attemptClean_reserved h
  | attemptCollided => exact attemptCollided_reserved h
  | backoffEnd => exact h
  | jabberLimit => exact jabberLimit_reserved h
  | probeTimerExpiry => exact probeTimer_reserved h
  | probeStart => exact ite_reserved (ite_reserved h h) h
  | telegramFramingError => exact ite_reserved h h
  | telegramOfUnknownKind kind g => exact receive_reserved _ _ g id h
  | beaconCutter g => exact beacon_reserved .cutter _ g h
  | beaconCrane g => exact beacon_reserved .crane _ g h
  | beaconRack g => exact beacon_reserved .rack _ g h
  | custodyOffer g =>
    refine custody_reserved _ g (fun m u => ?_) h
    cases m with
    | custodyOffer p => exact takeOffer_honours ..
    | _ => exact hsame
  | custodyAccept g =>
    refine custody_reserved _ g (fun m u => ?_) h
    cases m with
    | custodyAccept i => exact takeAccept_honours ..
    | _ => exact hsame
  | custodyRelease g =>
    refine custody_reserved _ g (fun m u => ?_) h
    cases m with
    | custodyRelease i => exact takeRelease_honours ..
    | _ => exact hsame
  | custodyRefuse g =>
    refine custody_reserved _ g (fun m u => ?_) h
    cases m with
    | custodyRefuse i r => exact takeRefusal_honours ..
    | _ => exact hsame
  | stockQuery g => exact otherMessage_reserved _ g (fun _ => hsame) (fun m u => by split <;> exact hsame) h
  | stockCandidate g => exact otherMessage_reserved _ g (fun _ => hsame) (fun m u => by split <;> exact hsame) h
  | reserve g =>
    refine message_reserved _ g (fun _ => hsame) (fun m u hu => ?_) h
    cases m with
    | reserve n i r => exact takeReserve_sound _ _ _ hu
    | _ => exact hu
  | reserveReply g => exact otherMessage_reserved _ g (fun _ => hsame) (fun m u => by split <;> exact hsame) h
  | unreserve g =>
    refine otherMessage_reserved _ g (fun _ => hsame) (fun m u => ?_) h
    cases m with
    | unreserve i => exact takeUnreserve_honours ..
    | _ => exact hsame
  | moveCall g => exact otherMessage_reserved _ g (fun _ => hsame) (fun m u => by split <;> exact hsame) h
  | moveBid g => exact otherMessage_reserved _ g (fun _ => hsame) (fun m u => by split <;> exact hsame) h
  | moveAward g => exact otherMessage_reserved _ g (fun _ => hsame) (fun m u => by split <;> exact hsame) h
  | awardReply g => exact otherMessage_reserved _ g (fun _ => hsame) (fun m u => by split <;> exact hsame) h
  | moveRevoke g => exact otherMessage_reserved _ g (fun _ => hsame) (fun m u => by split <;> exact hsame) h
  | revokeReply g => exact otherMessage_reserved _ g (fun _ => hsame) (fun m u => by split <;> exact hsame) h
  | moveStarted g => exact otherMessage_reserved _ g (fun _ => hsame) (fun m u => by split <;> exact hsame) h
  | moveReturn g => exact otherMessage_reserved _ g (fun _ => hsame) (fun m u => by split <;> exact hsame) h
  | moveDone g => exact otherMessage_reserved _ g (fun _ => hsame) (fun m u => by split <;> exact hsame) h
  | estopAsserted => exact senseEstop_reserved true (by simp) (fun u hu => by rw [estopOn, hu]) h
  | estopReleased => exact senseEstop_reserved false (by simp) (fun u hu => by rw [estopOff, hu]) h
  | loadAttachedRises => exact senseLoad_reserved true (by simp) (fun u hu => by simp [loadRises, hu]) h
  | loadAttachedFalls => exact senseLoad_reserved false (by simp) (fun u hu => by simp [loadFalls, hu]) h
  | inFlightTimeout => exact inFlightTimeout_reserved h
  | haltTimeout => exact haltTimeout_reserved h
  | resumeTimerExpiry =>
    exact ite_reserved (reservationsSound_of_honours (s := { s with rc := { s.rc with resumeTimer := none } }) h
      (settle_honours _)) h
  | offerTimeout n => exact offerTimeout_reserved n h
  | heldOfferExpiry n => exact heldOfferExpiry_reserved n h
  | pendingTimeout n => exact pendingTimeout_reserved n h
  | queryWindowExpiry => exact ite_reserved (reservationsSound_of_honours h hsame) h
  | reserveTimerExpiry => exact ite_reserved (reservationsSound_of_honours h hsame) h
  | bidWindowExpiry n => exact bidWindowExpiry_reserved n h
  | awardReplyTimeout n => exact awardReplyTimeout_reserved n h
  | cancelReplyTimeout n => exact cancelReplyTimeout_reserved n h
  | segment w => exact request_reserved _ _ _ _ (takeSegment_honours _) h
  | flush f => exact cutterRequest_reserved f _ (by simp) h
  | resync f target => exact cutterRequest_reserved f _ (by simp) h
  | segmentDone f seq k ms => exact cutterRequest_reserved f _ (by simp) h
  | segmentAborted f seq k ms => exact cutterRequest_reserved f _ (by simp) h
  | segmentHalted f seq k ms => exact cutterRequest_reserved f _ (by simp) h
  | continueRequest f => exact cutterRequest_reserved f _ (by simp) h
  | wearRestore f pierces ms => exact cutterRequest_reserved f _ (by simp) h
  | consumableChanged f => exact cutterRequest_reserved f _ (by simp) h
  | declareStock f record location slot => exact request_reserved _ _ _ _ (takeDeclare_honours _ _ _ _) h
  | handOff f i taker => exact request_reserved _ _ _ _ (takeHandOff_honours _ _ _) h
  | confirmCustody f i => exact request_reserved _ _ _ _ (takeConfirm_honours _ _) h
  | bedLoaded f i =>
    exact request_reserved _ _ _ _ (fun u => judge_honours _ fun _ => takeBedLoaded_honours _ u) h
  | placed f i slot => exact request_reserved _ _ _ _ (fun u => judge_honours _ fun _ => takePlaced_honours _ _ u) h
  | lockSlot f slot => exact roleRequest_reserved f _ _ (fun _ _ => hsame) h
  | unlockSlot f slot => exact roleRequest_reserved f _ _ (fun _ _ => hsame) h
  | queryStock f q => exact request_reserved _ _ _ _ (fun _ => hsame) h
  | cancelQuery f => exact cutterRequest_reserved f _ (by simp) h
  | moveRequest f m => exact request_reserved _ _ _ _ (fun _ => hsame) h
  | cancelMove f tag => exact roleRequest_reserved f _ _ (fun _ _ => hsame) h
  | moveFinish f =>
    refine roleRequest_reserved f _ _ (fun u hu => honours_elsewhere (by simp) ?_) h
    simp [show u.role = .crane by simpa [craneOnly] using hu]
  | position f v => exact roleRequest_reserved f _ _ (fun _ _ => hsame) h
  | setMode f target => exact request_reserved _ _ _ _ (judgeSetMode_honours _ _) h
  | status f => exact request_reserved _ _ _ _ (fun _ => hsame) h
  | readTable f table i => exact request_reserved _ _ _ _ (fun _ => hsame) h
  | restart f => exact ite_reserved (u := frameError s) h (restartPart_sound h)
  | unknownRequest f code => exact request_reserved _ _ _ _ honours_refl h
  | readReply clocked => exact clockReply_reserved clocked h
  | readNotice clocked => exact clockNotice_reserved clocked h
  | voidTransaction operation => exact voidTransaction_reserved operation h

end

/-- Settles O15: a step idles, or takes the front command (log 2), and each command leaves the reservations sound. -/
theorem reservationsStaySound : Obligations.ReservationsStaySound := by
  intro s t h hstep
  unfold step at hstep
  split at hstep
  · rename_i c rest _
    have hexec := exec_reserved (s := { s with pending := rest }) c h
    rw [hstep] at hexec
    exact hexec
  · cases hstep
    exact h

end Sys2Proof.Machine
end

section
/-! PROOF. LOCK_SLOT and UNLOCK_SLOT (R137, R138), and the fit of a record to a query (R141). -/

namespace Sys2Proof.Machine

section
variable {s t : State} {f : WriteFrame} {n : Nat} {code : ResultCode} {d : ReplyData}

/-! ### Requests of one role (R168, R169) -/

/-- A request that its owner's role takes, and answers. -/
theorem roleRequest_answered (h : s.takes f) (c : RequestCode) {roleOk : Role → Bool} {act : State → State × Answer}
    (hrole : roleOk s.role = true) (hact : act s.begun = (t, code, d)) :
    roleRequest f c roleOk act s = s.replied c code d t := by
  rw [roleRequest_takes h]
  refine takenRequest_eq ?_
  rw [if_pos (show roleOk s.begun.role = true from hrole), hact]

/-- A request of another role is refused WRONG_MODE. -/
theorem roleRequest_wrongMode (h : s.takes f) (c : RequestCode) {roleOk : Role → Bool}
    (act : State → State × Answer) (hrole : roleOk s.role = false) :
    roleRequest f c roleOk act s = s.replied c .wrongMode .none s.begun := by
  rw [roleRequest_takes h]
  refine takenRequest_eq ?_
  rw [show s.begun.role = s.role from rfl, hrole]
  rfl

theorem rackOnly_of (h : s.role = .rack) : rackOnly s.role = true := by simp [rackOnly, h]

/-! ### The runtime locks (R138) -/

theorem mem_lock {t : Stock} {m : Nat} : m ∈ (t.lock n).runtimeLocks ↔ m = n ∨ m ∈ t.runtimeLocks := by
  unfold Stock.lock
  dsimp only
  split
  · rename_i hmem
    exact ⟨.inr, fun h => h.elim (fun he => he ▸ hmem) id⟩
  · exact List.mem_cons

theorem mem_unlock {t : Stock} {m : Nat} : m ∈ (t.unlock n).runtimeLocks ↔ m ≠ n ∧ m ∈ t.runtimeLocks := by
  simp [Stock.unlock, and_comm]

theorem takeLock_slotBad (h : inRange 1 s.cfg.params.slotCount n = false) : takeLock n s = refuse .slotBad s := by
  simp [takeLock, h]

theorem takeLock_busy (h : inRange 1 s.cfg.params.slotCount n = true) (hbusy : s.slotInHandover n = true) :
    takeLock n s = refuse .busy s := by simp [takeLock, h, hbusy]

theorem takeLock_locks (h : inRange 1 s.cfg.params.slotCount n = true) (hfree : s.slotInHandover n = false) :
    takeLock n s = answerOk { s with st := s.st.lock n } := by simp [takeLock, h, hfree]

theorem takeUnlock_slotBad (h : inRange 1 s.cfg.params.slotCount n = false) :
    takeUnlock n s = refuse .slotBad s := by simp [takeUnlock, h]

theorem takeUnlock_configLocked (h : inRange 1 s.cfg.params.slotCount n = true)
    (hlock : n ∈ s.cfg.params.configLocks) : takeUnlock n s = refuse .configLocked s := by
  simp [takeUnlock, h, hlock]

theorem takeUnlock_unlocks (h : inRange 1 s.cfg.params.slotCount n = true)
    (hlock : n ∉ s.cfg.params.configLocks) : takeUnlock n s = answerOk { s with st := s.st.unlock n } := by
  simp [takeUnlock, h, hlock]

end

/-- Settles O48: each check of the two requests in its turn, and the list of runtime locks that one that passes
leaves. -/
theorem slotLocksFollowTheRequests : Obligations.SlotLocksFollowTheRequests := by
  unfold Obligations.SlotLocksFollowTheRequests
  intro s f n htakes lock unlock
  have hlock {t : State} {code : ResultCode} {d : ReplyData} (hrole : s.role = .rack)
      (hact : takeLock n s.begun = (t, code, d)) : lock = .next (s.replied .lockSlot code d t) :=
    congrArg Host.Outcome.next (roleRequest_answered htakes .lockSlot (rackOnly_of hrole) hact)
  have hunlock {t : State} {code : ResultCode} {d : ReplyData} (hrole : s.role = .rack)
      (hact : takeUnlock n s.begun = (t, code, d)) : unlock = .next (s.replied .unlockSlot code d t) :=
    congrArg Host.Outcome.next (roleRequest_answered htakes .unlockSlot (rackOnly_of hrole) hact)
  refine ⟨fun hrole => ?_, fun hrole => ⟨fun hbad => ?_, fun hslot => ⟨fun hbusy => ?_, fun hfree => ?_,
    fun hconfig => ?_, fun hconfig => ?_⟩⟩⟩
  · have hother : rackOnly s.role = false := by simp [rackOnly, hrole]
    exact ⟨congrArg Host.Outcome.next (roleRequest_wrongMode htakes .lockSlot (takeLock n) hother),
      congrArg Host.Outcome.next (roleRequest_wrongMode htakes .unlockSlot (takeUnlock n) hother)⟩
  · exact ⟨hlock hrole (takeLock_slotBad hbad), hunlock hrole (takeUnlock_slotBad hbad)⟩
  · exact hlock hrole (takeLock_busy hslot hbusy)
  · exact ⟨_, hlock hrole (takeLock_locks hslot hfree), fun _ => mem_lock⟩
  · exact hunlock hrole (takeUnlock_configLocked hslot hconfig)
  · exact ⟨_, hunlock hrole (takeUnlock_unlocks hslot hconfig), fun _ => mem_unlock⟩

/-! ### The fit of a record (R141) -/

theorem rectangleFits_iff {q : QueryFields} {len wid : Nat} : rectangleFits q len wid = true ↔
    (q.minLength ≤ len ∧ q.minWidth ≤ wid) ∨ (q.rotation = true ∧ q.minWidth ≤ len ∧ q.minLength ≤ wid) := by
  simp [rectangleFits, and_assoc]

/-- The usable rectangles of a piece: the whole of one without a notch, and otherwise the two that leave the notch's
length or its width out (R141). -/
def Piece.usable (p : Piece) : List (Nat × Nat) :=
  match p.notch with
  | none => [(p.length, p.width)]
  | some n => [(p.length - n.length, p.width), (p.length, p.width - n.width)]

theorem pieceFits_iff {q : QueryFields} {p : Piece} :
    pieceFits q p = true ↔ ∃ r ∈ p.usable, rectangleFits q r.1 r.2 = true := by
  unfold pieceFits Piece.usable
  cases p.notch <;> simp

/-- A good piece is 200 mm at least on each side, and its notch leaves 100 mm at least of each (R116, R141). -/
theorem usable_ge_of_pieceOk {p : Piece} (h : pieceOk p = true) : ∀ r ∈ p.usable, 100 ≤ r.1 ∧ 100 ≤ r.2 := by
  simp only [pieceOk, Bool.and_eq_true, inRange, decide_eq_true_eq] at h
  obtain ⟨⟨⟨⟨⟨⟨-, hlength, -⟩, hwidth, -⟩, hnotch⟩, -⟩, -⟩, -⟩ := h
  unfold Piece.usable
  cases hp : p.notch with
  | none =>
    simp only [List.forall_mem_singleton]
    omega
  | some n =>
    simp only [hp, notchOk, Bool.and_eq_true, inRange, decide_eq_true_eq] at hnotch
    simp only [List.forall_mem_cons, List.not_mem_nil, false_implies, implies_true, and_true]
    omega

/-- Settles O49: the fit is by the usable rectangles, and the ranges of a good piece bound them. -/
theorem fitIsByUsableRectangles : Obligations.FitIsByUsableRectangles := by
  unfold Obligations.FitIsByUsableRectangles
  intro q p rects
  exact ⟨pieceFits_iff.trans (by simp only [rectangleFits_iff]; rfl), usable_ge_of_pieceOk⟩

end Sys2Proof.Machine
end

section
/-! PROOF. The record a rack offers to a query, and its answers to queries, reservations and unreservations (R140 to
R142, R148, R149). -/

namespace Sys2Proof.Machine

section
variable {s : State} {q : QueryFields} {r : StockRecord}

/-! ### Available and eligible records (R140) -/

theorem slotLocked_iff {n : Nat} :
    s.slotLocked n = true ↔ n ∈ s.cfg.params.configLocks ∨ n ∈ s.st.runtimeLocks := by simp [State.slotLocked]

theorem available_iff : s.available r = true ↔ (r.custody = .held ∨ r.custody = .disputed)
    ∧ r.piece.reservation = none
    ∧ ∃ n, r.location = .slot n ∧ n ∉ s.cfg.params.configLocks ∧ n ∉ s.st.runtimeLocks := by
  unfold State.available
  cases hloc : r.location with
  | slot n =>
    have hlock : (!s.slotLocked n) = true ↔ n ∉ s.cfg.params.configLocks ∧ n ∉ s.st.runtimeLocks := by
      rw [Bool.not_eq_true', ← Bool.not_eq_true, slotLocked_iff, not_or]
    simp [hlock, and_assoc]
  | _ => simp

/-- The six bits of the grade agree where the mask asks for them (R140). -/
theorem gradeMatches_iff {grade : Nat} :
    gradeMatches q grade = true ↔ ∀ i, i < 6 → q.mask.testBit i = true → grade.testBit i = q.grade.testBit i := by
  have hbit (n i : Nat) (hi : i < 6) :
      (BitVec.ofNat 6 n &&& BitVec.ofNat 6 q.mask).getLsbD i = (n.testBit i && q.mask.testBit i) := by
    simp only [BitVec.getLsbD_and, BitVec.getLsbD_ofNat, hi, decide_true, Bool.true_and]
  rw [gradeMatches, decide_eq_true_eq]
  constructor
  · intro h i hi hmask
    have hbits := congrArg (fun v => v.getLsbD i) h
    simpa only [hbit _ i hi, hmask, Bool.and_true] using hbits
  · intro h
    refine BitVec.eq_of_getLsbD_eq fun i hi => ?_
    rw [hbit _ i hi, hbit _ i hi]
    cases hmask : q.mask.testBit i with
    | true => rw [h i hi hmask]
    | false => simp only [Bool.and_false]

theorem eligible_iff : s.eligible q r = true ↔ s.available r = true
    ∧ (∀ i, i < 6 → q.mask.testBit i = true → r.piece.grade.testBit i = q.grade.testBit i)
    ∧ r.piece.thickness = q.thickness ∧ pieceFits q r.piece = true := by
  simp only [State.eligible, Bool.and_eq_true, gradeMatches_iff, decide_eq_true_eq, and_assoc]

/-! ### The record that is offered (R142) -/

/-- The record `b` at position `m` comes before the record `r` at position `n` in the choice of R142: by score, then by
the time in the table, then by position. -/
def pickedBefore (now : Count) (b : StockRecord) (m : Nat) (r : StockRecord) (n : Nat) : Prop :=
  pieceScore b.piece < pieceScore r.piece
    ∨ (pieceScore b.piece = pieceScore r.piece
      ∧ (elapsed now r.entryTime < elapsed now b.entryTime
        ∨ (elapsed now r.entryTime = elapsed now b.entryTime ∧ m ≤ n)))

/-- What the choice among the entries that pass a test has found in a table. -/
def picks (now : Count) (p : StockRecord → Bool) (l : List (Option StockRecord)) : Option StockRecord → Prop
  | none => ∀ n r, entryAt l n = some r → p r = false
  | some b => ∃ m, entryAt l m = some b ∧ p b = true
      ∧ ∀ n r, entryAt l n = some r → p r = true → pickedBefore now b m r n

theorem entryAt_append_cases {α : Type} {l : List (Option α)} {o : Option α} {n : Nat} {a : α}
    (h : entryAt (l ++ [o]) n = some a) : (n < l.length ∧ entryAt l n = some a) ∨ (n = l.length ∧ o = some a) := by
  rw [entryAt_eq_some] at h
  rcases Nat.lt_trichotomy n l.length with hn | hn | hn
  · rw [List.getElem?_append_left hn] at h
    exact .inl ⟨hn, entryAt_eq_some.2 h⟩
  · subst hn
    exact .inr ⟨rfl, by simpa using h⟩
  · rw [List.getElem?_eq_none (by simp; omega)] at h
    cases h

theorem entryAt_append_of {α : Type} {l : List (Option α)} {n : Nat} {a : α} (h : entryAt l n = some a)
    (o : Option α) : entryAt (l ++ [o]) n = some a := by
  rw [entryAt_eq_some, List.getElem?_append_left (lt_length_of_entryAt h), ← entryAt_eq_some]
  exact h

theorem entryAt_append_last {α : Type} (l : List (Option α)) (a : α) :
    entryAt (l ++ [some a]) l.length = some a := by simp [entryAt_eq_some]

/-- A position that is empty, or whose entry fails the test, changes nothing. -/
theorem picks_append_skip {now : Count} {p : StockRecord → Bool} {l : List (Option StockRecord)}
    {best : Option StockRecord} {o : Option StockRecord} (h : picks now p l best)
    (ho : ∀ r, o = some r → p r = false) : picks now p (l ++ [o]) best := by
  cases best with
  | none =>
    intro n r hr
    rcases entryAt_append_cases hr with ⟨-, hr⟩ | ⟨-, hr⟩
    · exact h n r hr
    · exact ho r hr
  | some b =>
    obtain ⟨m, hm, hp, hbest⟩ := h
    refine ⟨m, entryAt_append_of hm o, hp, fun n r hr hpr => ?_⟩
    rcases entryAt_append_cases hr with ⟨-, hr⟩ | ⟨-, hr⟩
    · exact hbest n r hr hpr
    · rw [ho r hr] at hpr
      cases hpr

/-- A further entry that passes the test is weighed against the best one so far (R142). -/
theorem picks_append_entry {now : Count} {p : StockRecord → Bool} {l : List (Option StockRecord)}
    {best : Option StockRecord} {r : StockRecord} (h : picks now p l best) (hr : p r = true) :
    picks now p (l ++ [some r]) (betterRecord now best r) := by
  have hlast := entryAt_append_last l r
  cases best with
  | none =>
    refine ⟨l.length, hlast, hr, fun n a ha hpa => ?_⟩
    rcases entryAt_append_cases ha with ⟨-, ha⟩ | ⟨hn, ha⟩
    · rw [h n a ha] at hpa
      cases hpa
    · cases ha
      exact .inr ⟨rfl, .inr ⟨rfl, hn.ge⟩⟩
  | some b =>
    obtain ⟨m, hm, hp, hbest⟩ := h
    unfold betterRecord
    dsimp only
    split
    · rename_i hbetter
      refine ⟨l.length, hlast, hr, fun n a ha hpa => ?_⟩
      rcases entryAt_append_cases ha with ⟨-, ha⟩ | ⟨hn, ha⟩
      · have hba := hbest n a ha hpa
        unfold pickedBefore at hba ⊢
        omega
      · cases ha
        exact .inr ⟨rfl, .inr ⟨rfl, hn.ge⟩⟩
    · rename_i hworse
      refine ⟨m, entryAt_append_of hm _, hp, fun n a ha hpa => ?_⟩
      rcases entryAt_append_cases ha with ⟨-, ha⟩ | ⟨hn, ha⟩
      · exact hbest n a ha hpa
      · cases ha
        have hlt := lt_length_of_entryAt hm
        unfold pickedBefore
        omega

theorem picks_foldl (now : Count) (p : StockRecord → Bool) (l : List (Option StockRecord)) :
    picks now p l (((entriesOf l).filter p).foldl (betterRecord now) none) := by
  induction l using List.reverseRecOn with
  | nil => exact fun n r hr => by simp [entryAt] at hr
  | append_singleton l o ih =>
    rcases o with _ | r
    · simpa [entriesOf] using picks_append_skip ih (o := none) (by simp)
    · cases hr : p r with
      | true => simpa [entriesOf, hr] using picks_append_entry ih hr
      | false => simpa [entriesOf, hr] using picks_append_skip ih (o := some r) (by simp [hr])

theorem bestRecord_picks (s : State) (q : QueryFields) : picks s.time (s.eligible q) s.st.records (s.bestRecord q) :=
  picks_foldl ..

theorem bestRecord_eq_none :
    s.bestRecord q = none ↔ ∀ n r, entryAt s.st.records n = some r → s.eligible q r = false := by
  have hpicks := bestRecord_picks s q
  constructor
  · intro h
    rwa [h] at hpicks
  · intro h
    cases hb : s.bestRecord q with
    | none => rfl
    | some b =>
      rw [hb] at hpicks
      obtain ⟨m, hm, hp, -⟩ := hpicks
      rw [h m b hm] at hp
      cases hp

/-! ### The rack's answers (R142, R148, R149) -/

variable {i : StockId} {number : Byte} {g n : Nat}

theorem answers_of (hrole : s.role = .rack) (hmode : s.sp.mode = .run) : s.answers = true := by
  simp [State.answers, hrole, hmode]

theorem answers_eq_false (h : s.role ≠ .rack ∨ s.sp.mode ≠ .run) : s.answers = false := by
  rcases h with h | h <;> simp [State.answers, h]

theorem takeQuery_ignored (h : s.answers = false) : takeQuery number q g s = ignoreSearch s := by
  simp [takeQuery, h]

theorem takeQuery_unanswered (h : s.answers = true) (hbest : s.bestRecord q = none) :
    takeQuery number q g s = countSearch (fun c => { c with unanswered := bump c.unanswered }) s := by
  simp [takeQuery, h, hbest]

theorem takeQuery_offers (h : s.answers = true) (hbest : s.bestRecord q = some r)
    (hlink : s.linkTakes g (.stockCandidate number (candidateOf s.cfg.params.station r))) :
    takeQuery number q g s = countSearch (fun c => { c with answered := bump c.answered })
      { s with flc := s.flc.sending g (.stockCandidate number (candidateOf s.cfg.params.station r)) } := by
  simp [takeQuery, h, hbest, offer_taken hlink]

/-- The net area is the area less that of the notch, where there is one (R142). -/
theorem pieceScore_eq (p : Piece) :
    pieceScore p = p.length * p.width - (p.notch.map (fun c => c.length * c.width)).getD 0 := by
  cases h : p.notch <;> simp [pieceScore, h]

/-- The candidate a rack makes of a record that stands at a slot (R142). -/
theorem candidateOf_slot {k : Nat} (hloc : r.location = .slot k) (rack : Nat) :
    candidateOf rack r = ⟨rack, r.piece.id, k, r.piece.grade, r.piece.thickness, r.piece.length, r.piece.width,
      r.piece.notch, r.piece.heat, r.piece.length * r.piece.width
        - (r.piece.notch.map (fun c => c.length * c.width)).getD 0⟩ := by
  simp only [candidateOf, hloc, pieceScore_eq]

theorem reserveResult_notHeard (h : s.hears g = false) : reserveResult s i g = (.notHeard, false) := by
  simp [reserveResult, h]

theorem reserveResult_noRecord (h : s.hears g = true) (hfind : s.st.find i = none) :
    reserveResult s i g = (.gone, false) := by simp [reserveResult, h, Stock.record, hfind]

/-- What a requester that is heard gets for an ID of the table (R148). -/
theorem reserveResult_record (h : s.hears g = true) (hrecord : s.st.record i = some r) :
    reserveResult s i g =
      if r.piece.reservation = some g then (.ok, false)
      else if ¬ s.available r then (.gone, false)
      else if 16 ≤ s.st.reservations then (.full, false)
      else (.ok, true) := by simp only [reserveResult, h, hrecord, not_true, if_false]

theorem takeReserve_ignored (h : s.answers = false) : takeReserve number i g s = ignoreSearch s := by
  simp [takeReserve, h]

/-- A RESERVE whose result sets no reservation is counted and answered (R148). -/
theorem takeReserve_replies (h : s.answers = true) {result : ReserveResult}
    (hresult : reserveResult s i g = (result, false)) (hlink : s.linkTakes g (.reserveReply number i result)) :
    takeReserve number i g s = countSearch (fun c => c.judged result false)
      { s with flc := s.flc.sending g (.reserveReply number i result) } := by
  have hcounted : (countSearch (fun c => c.judged result false) s).linkTakes g (.reserveReply number i result) := hlink
  simp only [takeReserve, h, hresult, offer_taken hcounted, not_true, if_false, Bool.false_eq_true]
  rfl

theorem reserveFor_record (hfind : s.st.find i = some n) (hr : entryAt s.st.records n = some r)
    (station : Option Nat) : s.st.reserveFor i station = { s.st with
      records := s.st.records.set n (some { r with piece := { r.piece with reservation := station } }) } := by
  simp only [Stock.reserveFor, hfind, Stock.update, modifyAt_eq hr]

/-- A RESERVE that is granted sets the reservation of its record (R148). -/
theorem takeReserve_grants (h : s.answers = true) (hresult : reserveResult s i g = (.ok, true))
    (hfind : s.st.find i = some n) (hr : entryAt s.st.records n = some r)
    (hlink : s.linkTakes g (.reserveReply number i .ok)) :
    takeReserve number i g s = { s with
      flc := s.flc.sending g (.reserveReply number i .ok)
      st := { s.st with
        records := s.st.records.set n (some { r with piece := { r.piece with reservation := some g } })
        search := { s.st.search with granted := bump s.st.search.granted } } } := by
  have hset := reserveFor_record (s := countSearch (fun c => c.judged .ok true) s) hfind hr (some g)
  have hgranted : { countSearch (fun c => c.judged .ok true) s with
      st := (countSearch (fun c => c.judged .ok true) s).st.reserveFor i (some g) }.linkTakes g
        (.reserveReply number i .ok) := hlink
  simp only [takeReserve, h, hresult, not_true, if_false, if_true, offer_taken hgranted, Bool.false_eq_true]
  rw [hset]
  rfl

theorem takeUnreserve_holder (hrole : s.role = .rack) (hfind : s.st.find i = some n)
    (hr : entryAt s.st.records n = some r) (hholder : r.piece.reservation = some g) :
    takeUnreserve i g s = { s with st := { s.st with
      records := s.st.records.set n (some { r with piece := { r.piece with reservation := none } }) } } := by
  simp [takeUnreserve, hrole, record_of_find hfind hr, hholder, reserveFor_record hfind hr]

theorem takeUnreserve_ignored (h : s.role ≠ .rack ∨ s.st.find i = none) :
    takeUnreserve i g s = ignoreSearch s := by
  rcases h with h | h <;> simp [takeUnreserve, Stock.record, h]

/-! ### The telegrams (R40, R41) -/

variable {t : Telegram}

theorem exec_stockQuery (h : s.hearsMessage t (.stockQuery number q)) :
    exec (.stockQuery t) s = .next (takeQuery number q t.source.toNat s.heard) :=
  congrArg Host.Outcome.next (receiveKind_hears h _ _)

theorem exec_reserve {requester : Nat} (h : s.hearsMessage t (.reserve number i requester)) :
    exec (.reserve t) s = .next (takeReserve number i t.source.toNat s.heard) :=
  congrArg Host.Outcome.next (receiveKind_hears h _ _)

theorem exec_unreserve (h : s.hearsMessage t (.unreserve i)) :
    exec (.unreserve t) s = .next (takeUnreserve i t.source.toNat s.heard) :=
  congrArg Host.Outcome.next (receiveKind_hears h _ _)

end

/-- Settles O50: the choice by induction over the table, and the answers of a rack case by case. -/
theorem rackAnswersTheSearch : Obligations.RackAnswersTheSearch := by
  unfold Obligations.RackAnswersTheSearch
  refine ⟨⟨fun _ _ => available_iff, fun _ _ _ => eligible_iff⟩, fun s q => ⟨bestRecord_eq_none, fun b hb => ?_⟩,
    ?_⟩
  · have hpicks := bestRecord_picks s q
    rwa [hb] at hpicks
  intro s t g counted n
  refine ⟨?_, ?_, ?_⟩
  · intro number q hhears run
    have hrun : run = _ := exec_stockQuery hhears
    refine ⟨fun h => ?_, fun hrole hmode => ⟨fun hbest => ?_, ?_⟩⟩
    · rw [hrun, takeQuery_ignored (s := s.heard) (answers_eq_false h)]
      rfl
    · rw [hrun, takeQuery_unanswered (s := s.heard) (answers_of hrole hmode) hbest]
      rfl
    · intro r k hbest hloc answer hlink
      have hanswer : Message.stockCandidate number (candidateOf s.cfg.params.station r) = answer :=
        congrArg _ (candidateOf_slot hloc _)
      rw [hrun, takeQuery_offers (s := s.heard) (answers_of hrole hmode) hbest
        (by rw [heard_linkTakes]; exact hanswer ▸ hlink), ← hanswer]
      rfl
  · intro number i requester hhears run replied
    have hrun : run = _ := exec_reserve hhears
    refine ⟨fun h => ?_, fun hrole hmode => ?_⟩
    · rw [hrun, takeReserve_ignored (s := s.heard) (answers_eq_false h)]
      rfl
    · have hanswers := answers_of hrole hmode
      have hreplied (result : ReserveResult) (hresult : reserveResult s i g = (result, false)) :
          replied result (n.judged result false) := fun hlink =>
        hrun.trans (congrArg _ (takeReserve_replies (s := s.heard) hanswers hresult (heard_linkTakes ▸ hlink)))
      refine ⟨fun h => hreplied _ (reserveResult_notHeard h), fun hheard => ⟨fun hfind => ?_, fun m r hfind hr => ?_⟩⟩
      · exact hreplied _ (reserveResult_noRecord hheard hfind)
      · have hresult := reserveResult_record hheard (record_of_find hfind hr)
        refine ⟨fun hown => ?_, fun hown => ⟨fun havail => ?_, fun havail => ⟨fun hfull => ?_, fun hroom hlink => ?_⟩⟩⟩
        · exact hreplied .ok (by simpa [hown] using hresult)
        · exact hreplied .gone (by simpa [hown, havail] using hresult)
        · exact hreplied .full (by simpa [hown, havail, hfull] using hresult)
        · have hgrants : reserveResult s i g = (.ok, true) := by simpa [hown, havail, Nat.not_le.2 hroom] using hresult
          exact hrun.trans (congrArg _ (takeReserve_grants (s := s.heard) hanswers hgrants hfind hr
            (heard_linkTakes ▸ hlink)))
  · intro i hhears
    have hrun := exec_unreserve hhears
    refine ⟨fun m r hrole hfind hr hholder => ?_, fun h => ?_⟩
    · rw [hrun, takeUnreserve_holder (s := s.heard) hrole hfind hr hholder]
      rfl
    · rw [hrun, takeUnreserve_ignored (s := s.heard) h]
      rfl

end Sys2Proof.Machine
end

section
/-! PROOF. QUERY_STOCK and CANCEL_QUERY (R143, R147). -/

namespace Sys2Proof.Machine

section
variable {s t : State} {f : WriteFrame} {q : QueryFields} {code : ResultCode} {d : ReplyData}

/-! ### QUERY_STOCK (R143) -/

theorem exec_queryStock (h : s.takes f) (hact : takeQueryStock true q s.begun = (t, code, d)) :
    exec (.queryStock f q) s = .next (s.replied .queryStock code d t) := by
  obtain ⟨-, -, -, -, hsuits⟩ := id h
  change Host.Outcome.next (loadedRequest f .queryStock (takeQueryStock f.suits q) s) = _
  rw [loadedRequest_takes h, hsuits, takenRequest_eq hact]

theorem takeQueryStock_wrongMode (h : s.role ≠ .cutter ∨ s.sp.mode = .offline) :
    takeQueryStock true q s = refuse .wrongMode s := by simp only [takeQueryStock, h, if_true]

theorem takeQueryStock_busy (hrole : s.role = .cutter) (hmode : s.sp.mode ≠ .offline)
    (hphase : s.su.phase ≠ .closed) : takeQueryStock true q s = refuse .busy s := by
  simp [takeQueryStock, hrole, hmode, hphase]

theorem takeQueryStock_fieldRange (hrole : s.role = .cutter) (hmode : s.sp.mode ≠ .offline)
    (hphase : s.su.phase = .closed) (hquery : queryOk q = false) :
    takeQueryStock true q s = refuse .fieldRange s := by
  simp [takeQueryStock, hrole, hmode, hphase, hquery]

theorem takeQueryStock_sends (hrole : s.role = .cutter) (hmode : s.sp.mode ≠ .offline)
    (hphase : s.su.phase = .closed) (hquery : queryOk q = true) : takeQueryStock true q s = sendQuery q s := by
  simp [takeQueryStock, hrole, hmode, hphase, hquery]

/-- The query opens under the next number when the link takes its STOCK_QUERY (R143). -/
theorem sendQuery_opens (hlink : s.linkTakes s.queryDest (.stockQuery (s.su.number + 1) q)) :
    sendQuery q s = ({ s with
      flc := s.flc.sending s.queryDest (.stockQuery (s.su.number + 1) q)
      su := openQuery (s.su.number + 1) q (some ⟨s.time, s.cfg.params.queryWindow⟩) s.su },
      .ok, .query (s.su.number + 1)) := by
  have hnumbered : (withSearch (fun u => { u with number := s.su.number + 1 }) s).linkTakes
      (withSearch (fun u => { u with number := s.su.number + 1 }) s).queryDest
      (.stockQuery (s.su.number + 1) q) := hlink
  simp only [sendQuery, offer_taken hnumbered, Bool.false_eq_true, if_false]
  rfl

/-! ### CANCEL_QUERY (R147) -/

theorem cutterOnly_eq (r : Role) : cutterOnly r = decide (r = .cutter) := by cases r <;> rfl

theorem exec_cancelQuery (h : s.takes f) (hrole : s.role = .cutter) (hact : takeCancelQuery s.begun = (t, code, d)) :
    exec (.cancelQuery f) s = .next (s.replied .cancelQuery code d t) :=
  congrArg Host.Outcome.next (roleRequest_answered h .cancelQuery (by simp [cutterOnly_eq, hrole]) hact)

theorem exec_cancelQuery_wrongMode (h : s.takes f) (hrole : s.role ≠ .cutter) :
    exec (.cancelQuery f) s = .next (s.replied .cancelQuery .wrongMode .none s.begun) :=
  congrArg Host.Outcome.next (roleRequest_wrongMode h .cancelQuery takeCancelQuery (by simp [cutterOnly_eq, hrole]))

theorem takeCancelQuery_collecting (h : s.su.phase = .collecting) :
    takeCancelQuery s = answerOk { s with su := s.su.close } := by
  simp only [takeCancelQuery, h]
  rfl

/-- An UNRESERVE that the link takes joins its queue, and nothing else changes (R146, R147). -/
theorem sendUnreserve_taken {rack : Nat} {i : StockId} (hlink : s.linkTakes rack (.unreserve i)) :
    sendUnreserve rack i s = { s with flc := s.flc.sending rack (.unreserve i) } := by
  simp [sendUnreserve, offer_taken hlink]

theorem takeCancelQuery_reserving {c : Candidate} (h : s.su.phase = .reserving) (hawaited : s.su.awaited = some c)
    (hlink : s.linkTakes c.rack (.unreserve c.id)) : takeCancelQuery s = answerOk { s with
      flc := s.flc.sending c.rack (.unreserve c.id)
      su := s.su.close } := by
  simp only [takeCancelQuery, h, cancelReserving, hawaited, sendUnreserve_taken hlink]
  rfl

theorem takeCancelQuery_found {rack : Nat} {i : StockId} (h : s.su.phase = .closed)
    (hfound : s.su.found = some (rack, i)) (hlink : s.linkTakes rack (.unreserve i)) :
    takeCancelQuery s = answerOk { s with
      flc := s.flc.sending rack (.unreserve i)
      su := { s.su with found := none } } := by
  have hact : takeCancelQuery s
      = answerOk (withSearch (fun u => { u with found := none }) (sendUnreserve rack i s)) := by
    simp only [takeCancelQuery, h, hfound]
  rw [hact, sendUnreserve_taken hlink]
  rfl

theorem takeCancelQuery_noQuery (h : s.su.phase = .closed) (hfound : s.su.found = none) :
    takeCancelQuery s = refuse .noQuery s := by simp only [takeCancelQuery, h, hfound]

end

/-- Settles O51: the checks of each request in their order, and the search unit that one which passes leaves. -/
theorem queryIsOpenedAndCancelled : Obligations.QueryIsOpenedAndCancelled := by
  unfold Obligations.QueryIsOpenedAndCancelled
  refine ⟨fun s f q htakes hrole hmode => ⟨fun hphase => ?_, fun hphase hquery => ?_, fun hphase hquery hlink => ?_⟩,
    fun s f q htakes => ⟨fun h => ?_, fun hrole => ?_⟩, ?_⟩
  · exact exec_queryStock htakes (takeQueryStock_busy (s := s.begun) hrole hmode hphase)
  · exact exec_queryStock htakes (takeQueryStock_fieldRange (s := s.begun) hrole hmode hphase hquery)
  · refine exec_queryStock htakes ?_
    rw [takeQueryStock_sends (s := s.begun) hrole hmode hphase hquery, sendQuery_opens (s := s.begun) hlink]
    rfl
  · exact exec_queryStock htakes (takeQueryStock_wrongMode (s := s.begun) h)
  · exact exec_cancelQuery_wrongMode htakes hrole
  · intro s f htakes hrole closed
    refine ⟨fun hphase => ?_, fun c hphase hawaited hlink => ?_, fun rack i hphase hfound hlink => ?_,
      fun hphase hfound => ?_⟩
    · exact exec_cancelQuery htakes hrole (takeCancelQuery_collecting (s := s.begun) hphase)
    · exact exec_cancelQuery htakes hrole (takeCancelQuery_reserving (s := s.begun) hphase hawaited hlink)
    · exact exec_cancelQuery htakes hrole (takeCancelQuery_found (s := s.begun) hphase hfound hlink)
    · exact exec_cancelQuery htakes hrole (takeCancelQuery_noQuery (s := s.begun) hphase hfound)

end Sys2Proof.Machine
end

section
/-! PROOF. The search unit's candidates, attempts and end (R144 to R146). -/

namespace Sys2Proof.Machine

section
variable {c : Candidate} {l : List Candidate} {u : Search}

/-! ### The order of the candidate list (R144) -/

theorem before_iff {a b : Candidate} :
    a.before b = true ↔ a.score < b.score ∨ (a.score = b.score ∧ a.rack < b.rack) := by simp [Candidate.before]

theorem before_trans {a b d : Candidate} (h : a.before b = true) (h' : b.before d = true) : a.before d = true := by
  rw [before_iff] at *
  omega

/-- Two candidates of different racks are ordered one way or the other. -/
theorem before_of_not_before {a b : Candidate} (h : ¬ a.before b = true) (hrack : b.rack ≠ a.rack) :
    b.before a = true := by
  rw [before_iff] at *
  omega

theorem insertCandidate_eq_orderedInsert (c : Candidate) (l : List Candidate) :
    insertCandidate c l = l.orderedInsert (fun a b => a.before b = true) c := by
  induction l with
  | nil => rfl
  | cons d rest ih => simp only [insertCandidate, List.orderedInsert, ih]

theorem insertCandidate_perm (c : Candidate) (l : List Candidate) : (insertCandidate c l).Perm (c :: l) := by
  rw [insertCandidate_eq_orderedInsert]
  exact List.perm_orderedInsert ..

theorem insertCandidate_pairwise (hl : l.Pairwise (fun a b => a.before b = true))
    (hrack : ∀ d ∈ l, d.rack ≠ c.rack) : (insertCandidate c l).Pairwise (fun a b => a.before b = true) := by
  induction l with
  | nil => exact List.pairwise_singleton _ _
  | cons d rest ih =>
    obtain ⟨hd, hrest⟩ := List.pairwise_cons.1 hl
    rw [List.forall_mem_cons] at hrack
    unfold insertCandidate
    split
    · rename_i hbefore
      exact List.pairwise_cons.2 ⟨List.forall_mem_cons.2 ⟨hbefore, fun e he => before_trans hbefore (hd e he)⟩, hl⟩
    · rename_i hafter
      refine List.pairwise_cons.2 ⟨fun e he => ?_, ih hrest hrack.2⟩
      rcases List.mem_cons.1 ((insertCandidate_perm c rest).mem_iff.1 he) with rfl | he
      · exact before_of_not_before hafter hrack.1
      · exact hd e he

/-! ### The list of eight (R144) -/

/-- The candidates of the other racks. -/
def otherRacks (c : Candidate) (l : List Candidate) : List Candidate := l.filter (fun d => d.rack ≠ c.rack)

theorem mem_otherRacks {d : Candidate} : d ∈ otherRacks c l ↔ d ∈ l ∧ d.rack ≠ c.rack := by simp [otherRacks]

/-- A candidate in its place among those of the other racks, before the list is cut to eight (R144). -/
def placed (c : Candidate) (l : List Candidate) : List Candidate := insertCandidate c (otherRacks c l)

theorem placeCandidate_candidates : (placeCandidate c u).candidates = (placed c u.candidates).take 8 := rfl

theorem placeCandidate_displaced : (placeCandidate c u).displaced =
    if 8 < (placed c u.candidates).length then bump u.displaced else u.displaced := rfl

theorem mem_placed {d : Candidate} : d ∈ placed c l ↔ d = c ∨ (d ∈ l ∧ d.rack ≠ c.rack) := by
  rw [placed, (insertCandidate_perm ..).mem_iff, List.mem_cons, mem_otherRacks]

theorem placed_length : (placed c l).length = (otherRacks c l).length + 1 := (insertCandidate_perm ..).length_eq

theorem placed_pairwise (hl : l.Pairwise (fun a b => a.before b = true)) :
    (placed c l).Pairwise (fun a b => a.before b = true) :=
  insertCandidate_pairwise (hl.sublist List.filter_sublist) fun _ hd => (mem_otherRacks.1 hd).2

/-- A rack has one candidate at most (R144). -/
theorem placed_nodup (hl : (l.map (fun d => d.rack)).Nodup) : ((placed c l).map (fun d => d.rack)).Nodup := by
  have hothers : ((otherRacks c l).map (fun d => d.rack)).Nodup := hl.sublist (List.filter_sublist.map _)
  rw [placed, ((insertCandidate_perm c (otherRacks c l)).map _).nodup_iff]
  refine List.nodup_cons.2 ⟨fun hmem => ?_, hothers⟩
  obtain ⟨d, hd, hrack⟩ := List.mem_map.1 hmem
  exact (mem_otherRacks.1 hd).2 hrack

/-- There is room for a candidate when fewer than eight are kept, or its rack has one already. -/
theorem placed_length_le (hl : l.length ≤ 8) (h : l.length < 8 ∨ ∃ d ∈ l, d.rack = c.rack) :
    (placed c l).length ≤ 8 := by
  have hlength : (otherRacks c l).length < 8 := by
    rcases h with h | ⟨d, hd, hrack⟩
    · exact (List.length_filter_le ..).trans_lt h
    · exact (List.length_filter_lt_length_iff_exists.2 ⟨d, hd, by simpa using hrack⟩).trans_le hl
  rw [placed_length]
  omega

/-- With no candidate of its rack kept, a candidate lengthens the list. -/
theorem placed_length_new (h : ∀ d ∈ l, d.rack ≠ c.rack) : (placed c l).length = l.length + 1 := by
  rw [placed_length, otherRacks, List.filter_eq_self.2 (by simpa using h)]

end

section
variable {s : State} {t : Telegram} {number : Byte} {c : Candidate} {i : StockId} {r : ReserveResult} {g : Nat}

/-! ### The attempts (R145) -/

/-- A candidate whose RESERVE the link takes is the one awaited (R145). -/
theorem tryReserve_taken {rest : List Candidate}
    (hlink : s.linkTakes c.rack (.reserve s.su.number c.id s.cfg.params.station)) :
    tryReserve (c :: rest) s = { s with
      flc := s.flc.sending c.rack (.reserve s.su.number c.id s.cfg.params.station)
      su := { s.su with
        phase := .reserving
        candidates := c :: rest
        awaited := some c
        windowTimer := none
        reserveTimer := some ⟨s.time, s.cfg.params.queryWindow⟩ } } := by
  simp only [tryReserve, offer_taken hlink, Bool.false_eq_true, if_false]
  rfl

theorem exec_queryWindowExpiry (hphase : s.su.phase = .collecting) (hdue : s.expired s.su.windowTimer = true) :
    exec .queryWindowExpiry s = .next (tryReserve s.su.candidates s) :=
  congrArg Host.Outcome.next (if_pos ⟨hphase, hdue⟩)

theorem exec_reserveTimerExpiry (hphase : s.su.phase = .reserving) (hdue : s.expired s.su.reserveTimer = true) :
    exec .reserveTimerExpiry s = .next (tryReserve s.su.candidates.tail s) :=
  congrArg Host.Outcome.next (if_pos ⟨hphase, hdue⟩)

/-! ### STOCK_CANDIDATE (R144) -/

theorem exec_stockCandidate (h : s.hearsMessage t (.stockCandidate number c)) :
    exec (.stockCandidate t) s = .next (takeCandidate number c s.heard) :=
  congrArg Host.Outcome.next (receiveKind_hears h _ _)

theorem takeCandidate_places (hrole : s.role = .cutter) (hphase : s.su.phase = .collecting)
    (hnumber : number = s.su.number) : takeCandidate number c s = { s with su := placeCandidate c s.su } :=
  if_pos ⟨hrole, hphase, hnumber⟩

theorem takeCandidate_ignored (h : s.role ≠ .cutter ∨ s.su.phase ≠ .collecting ∨ number ≠ s.su.number) :
    takeCandidate number c s = ignoreCandidate s := if_neg (by tauto)

/-! ### RESERVE_REPLY (R145, R146) -/

theorem exec_reserveReply (h : s.hearsMessage t (.reserveReply number i r)) :
    exec (.reserveReply t) s = .next (takeReserveReply number i r t.source.toNat s.heard) :=
  congrArg Host.Outcome.next (receiveKind_hears h _ _)

theorem awaits_of {u : Search} (hphase : u.phase = .reserving) (hnumber : number = u.number)
    (hawaited : u.awaited = some c) (hrack : c.rack = g) (hid : c.id = i) : u.awaits number i g = true := by
  simp [Search.awaits, hphase, hnumber, hawaited, hrack, hid]

theorem awaits_eq_false {u : Search} (h : u.phase ≠ .reserving ∨ number ≠ u.number) :
    u.awaits number i g = false := by
  rcases h with h | h <;> simp [Search.awaits, h]

/-- OK to the awaited RESERVE closes the query as found (R146). -/
theorem takeReserveReply_won (hrole : s.role = .cutter) (hawaits : s.su.awaits number i g = true)
    (hawaited : s.su.awaited = some c) : takeReserveReply number i .ok g s
      = raise (.queryResult s.su.number (some c))
        { s with su := { s.su.close with found := some (c.rack, c.id) } } := by
  have hwon : takeReserveReply number i .ok g s = winReservation s := by simp [takeReserveReply, hrole, hawaits]
  rw [hwon, winReservation, hawaited]
  rfl

/-- A refusal of the awaited RESERVE goes on to the next candidate (R145). -/
theorem takeReserveReply_refused (hrole : s.role = .cutter) (hawaits : s.su.awaits number i g = true)
    (hr : r ≠ .ok) : takeReserveReply number i r g s = tryReserve s.su.candidates.tail s := by
  simp [takeReserveReply, hrole, hawaits, hr]

/-- An OK that nothing awaits is given back (R146). -/
theorem takeReserveReply_stray (hrole : s.role = .cutter) (hawaits : s.su.awaits number i g = false)
    (hlink : s.linkTakes g (.unreserve i)) : takeReserveReply number i .ok g s = { s with
      flc := s.flc.sending g (.unreserve i)
      su := { s.su with strays := bump s.su.strays } } := by
  simp [takeReserveReply, hrole, hawaits, sendUnreserve_taken hlink, withSearch]

theorem takeReserveReply_ignored (hrole : s.role = .cutter) (hawaits : s.su.awaits number i g = false)
    (hr : r ≠ .ok) : takeReserveReply number i r g s = ignoreCandidate s := by
  simp [takeReserveReply, hrole, hawaits, hr]

end

/-- Settles O52: the list by the insertion of a candidate among those of the other racks, and the attempts by
`tryReserve` on what is left of it. -/
theorem searchUnitFollowsItsQuery : Obligations.SearchUnitFollowsItsQuery := by
  unfold Obligations.SearchUnitFollowsItsQuery
  refine ⟨?_, ?_⟩
  · intro c u hpairwise hnodup hlength v
    have hmem {d : Candidate} (hd : d ∈ v.candidates) : d = c ∨ (d ∈ u.candidates ∧ d.rack ≠ c.rack) :=
      mem_placed.1 (List.mem_of_mem_take hd)
    refine ⟨(placed_pairwise hpairwise).sublist (List.take_sublist ..),
      (placed_nodup hnodup).sublist ((List.take_sublist ..).map _), List.length_take_le .., fun d hd =>
        (hmem hd).imp_right And.left, fun hroom => ?_, fun hfull hnew => ?_⟩
    · have hplaced : (placed c u.candidates).length ≤ 8 := placed_length_le hlength hroom
      have hall : v.candidates = placed c u.candidates := List.take_of_length_le hplaced
      rw [hall]
      exact ⟨mem_placed.2 (.inl rfl), if_neg (Nat.not_lt.2 hplaced), fun d hd hrack => mem_placed.2 (.inr ⟨hd, hrack⟩)⟩
    · have hplaced : (placed c u.candidates).length = 9 := by rw [placed_length_new hnew, hfull]
      refine ⟨?_, ?_⟩
      · rw [placeCandidate_displaced, hplaced]
        rfl
      · rw [placeCandidate_candidates, List.length_take, hplaced]
        rfl
  · intro s closed tried
    have htried (l : List Candidate) : tried s l (.next (tryReserve l s)) := by
      refine ⟨fun h => h ▸ rfl, ?_⟩
      rintro d rest rfl hlink
      exact congrArg _ (tryReserve_taken hlink)
    have htriedHeard (l : List Candidate) : tried s.heard l (.next (tryReserve l s.heard)) := by
      refine ⟨fun h => h ▸ rfl, ?_⟩
      rintro d rest rfl hlink
      exact congrArg _ (tryReserve_taken (s := s.heard) (heard_linkTakes ▸ hlink))
    refine ⟨fun t number c hhears => ⟨fun hrole hphase hnumber => ?_, fun h => ?_⟩, fun hphase hdue => ?_,
      fun hphase hdue => ?_, ?_⟩
    · rw [exec_stockCandidate hhears, takeCandidate_places (s := s.heard) hrole hphase hnumber]
      rfl
    · rw [exec_stockCandidate hhears, takeCandidate_ignored (s := s.heard) h]
      rfl
    · rw [exec_queryWindowExpiry hphase hdue]
      exact htried _
    · rw [exec_reserveTimerExpiry hphase hdue, List.drop_one]
      exact htried _
    · intro t number i r hhears hrole g
      have hrun := exec_reserveReply hhears
      refine ⟨?_, fun hnot => ?_⟩
      · intro c hphase hnumber hawaited hrack hid
        have hawaits := awaits_of hphase hnumber hawaited hrack hid
        refine ⟨?_, fun hr => ?_⟩
        · rintro rfl
          rw [hrun, takeReserveReply_won (s := s.heard) hrole hawaits hawaited, hnumber, ← hrack, ← hid]
          rfl
        · rw [hrun, takeReserveReply_refused (s := s.heard) hrole hawaits hr, List.drop_one]
          exact htriedHeard _
      · have hawaits := awaits_eq_false (i := i) (g := g) hnot
        refine ⟨?_, fun hr => ?_⟩
        · rintro rfl hlink
          rw [hrun, takeReserveReply_stray (s := s.heard) hrole hawaits (heard_linkTakes ▸ hlink)]
          rfl
        · rw [hrun, takeReserveReply_ignored (s := s.heard) hrole hawaits hr]
          rfl

end Sys2Proof.Machine
end
